-- ==== Sys2Proof/Word.lean ====
section
/-! DEFINITION. Word.lean: the widths of the values the FN-212 exchanges with its two processors.
Only what a link carries as bits is a bit vector; positions, counts and times inside the part are numbers. -/

namespace Sys2Proof

/-- One byte of either link. -/
abbrev Byte := BitVec 8

/-- A two-byte link field. -/
abbrev Half := BitVec 16

/-- A four-byte link field, and the width of the time base (R179). -/
abbrev Word := BitVec 32

end Sys2Proof
end

