-- ==== Sys2Proof/Syntax.lean ====
section
/-! DEFINITION. Syntax.lean: the commands of the FN-212, one constructor for each row of
spec/opcode_table.json, with the operands the row's rule gives it. A request's operands are the fields of
its body as chapter 12 lays them out, unchecked: the owner of the request checks them. -/

namespace Sys2Proof

/-- The four cliff sensors (R133): front-left, front-right, side-left, side-right. -/
inductive CliffSensor where
  | fl | fr | sl | sr
  deriving DecidableEq, Repr

/-- The four switch lines (R133): wheel-drop left and right, bumper left and right. -/
inductive SwitchLine where
  | wl | wr | bl | br
  deriving DecidableEq, Repr

/-- The levels of the beacon lines BCL, BCC, BCR and of BNEAR, read together at one judgement (R156). -/
structure Beacon where
  left   : Bool
  centre : Bool
  right  : Bool
  near   : Bool
  deriving DecidableEq, Repr

/-- The tuning block (section 9.4), its 32 fields in field-number order 2 to 33. -/
structure Tuning where
  margin          : Nat
  cliffBand       : Nat
  stopMargin      : Nat
  minPiece        : Nat
  pieceLength     : Nat
  arriveTolerance : Nat
  alignTolerance  : Nat
  seekStep        : Nat
  nudgeStep       : Nat
  rugSpeed        : Nat
  unknownSpeed    : Nat
  nearSpeed       : Nat
  cliffSpeed      : Nat
  mateSpeed       : Nat
  mateLimit       : Nat
  rugFactor       : Nat
  cliffLevel      : Nat
  rugConfirm      : Nat
  slipLimit       : Nat
  slipReports     : Nat
  slipPenalty     : Nat
  jumpPenalty     : Nat
  growthRate      : Nat
  lostLimit       : Nat
  obstacleFloor   : Nat
  driveWatch      : Nat
  echoLimit       : Nat
  backoffDistance : Nat
  homeLevel       : Nat
  changeNotice    : Nat
  contactDebounce : Nat
  dockUncertainty : Nat
  deriving DecidableEq, Repr

/-- The calibration record (section 11.1), fields 2 to 12. Each cliff sensor has an offset forward and an
offset to the left, in mm. -/
structure Calibration where
  tickScale   : Nat
  wheelBase   : Nat
  robotRadius : Nat
  flF : Int
  flL : Int
  frF : Int
  frL : Int
  slF : Int
  slL : Int
  srF : Int
  srL : Int
  deriving DecidableEq, Repr

/-- The fields 3 to 15 of a LOAD SEGMENT body (section 12.3), as carried. -/
structure SegmentFields where
  kind           : Byte
  targetX        : Word
  targetY        : Word
  headingPresent : Byte
  heading        : Half
  reverseDist    : Half
  speed          : Half
  flags          : Byte
  retries        : Byte
  dwell          : Half
  altPresent     : Byte
  altX           : Word
  altY           : Word
  deriving DecidableEq, Repr

/-- The commands: the requests of the planner processor, and the events of the links, of the sensor lines
and of the part's own running operations. -/
inductive Instr where
  /-- POWER_ON_RESET (R189). -/
  | powerOnReset
  /-- MAP_SWEEP_PROGRESS (R189): the sweep writes its next `count` cells. -/
  | mapSweepProgress (count : Nat)
  /-- MAP_SWEEP_DONE (R189). -/
  | mapSweepDone
  /-- TIME_BASE_TICK (R179). -/
  | timeBaseTick
  /-- TRANSACTION_END (R164): SELN rises after these bytes were clocked in on MOSI. -/
  | transactionEnd (bytes : List Byte)
  /-- FETCH (R168): a transaction of code 0 in which `clocked` bytes are clocked out after the code. -/
  | fetch (clocked : Nat)
  /-- INVALID_FRAME (R166): a complete frame with a bad envelope, an unknown code or a body of the wrong
  length, given by its code, its length field and the body bytes that followed. -/
  | invalidFrame (code : Byte) (length : Half) (body : List Byte)
  /-- SET_WINDOW (R15). -/
  | setWindow (xStart xEnd yStart yEnd primary xDir yDir : Byte)
  /-- SET_CURSOR (R16). -/
  | setCursor (cx cy : Byte)
  /-- WRITE_CELLS (R18). -/
  | writeCells (cells : List Byte)
  /-- READ_CELLS (R20). -/
  | readCells (count : Half)
  /-- FILL_WINDOW (R21). -/
  | fillWindow (cell : Byte)
  /-- FILL_PROGRESS (R22): the fill presents its next `count` cells, short of its last. -/
  | fillProgress (count : Nat)
  /-- FILL_DONE (R22): the fill presents its last cell and ends. -/
  | fillDone
  /-- RELEASE_HAZARD (R9). -/
  | releaseHazard (cx cy cls : Byte)
  /-- READ_SECTORS (R13). -/
  | readSectors (start count : Byte)
  /-- READ_CHANGES (R28). -/
  | readChanges (count : Byte)
  /-- FIX_POSE (R47). -/
  | fixPose (x y : Word) (theta : Half) (u : Word)
  /-- READ_POSE (R49). -/
  | readPose
  /-- SET_DOCK_POSE (R153). -/
  | setDockPose (form : Byte) (x y : Word) (theta standoff : Half)
  /-- LOAD_SEGMENT (R69). -/
  | loadSegment (slot : Byte) (fields : SegmentFields)
  /-- CLEAR_SEGMENT (R73). -/
  | clearSegment (slot : Byte)
  /-- LOAD_LIST (R76). -/
  | loadList (list length passes flags : Byte) (slots : List Byte)
  /-- READ_LIST (R83). -/
  | readList (list : Byte)
  /-- START_ROUTE (R86). -/
  | startRoute (mode : Byte)
  /-- STOP_ROUTE (R109). -/
  | stopRoute (mode : Byte)
  /-- POST_PRIORITY (R110). -/
  | postPriority (urgent : Byte)
  /-- ACKNOWLEDGE (R113). -/
  | acknowledge
  /-- WRITE_TUNING (R170). -/
  | writeTuning (block : Tuning)
  /-- READ_TUNING (R171). -/
  | readTuning
  /-- WRITE_CALIBRATION (R185). -/
  | writeCalibration (record : Calibration)
  /-- READ_CALIBRATION (R185). -/
  | readCalibration
  /-- BURN_CALIBRATION (R187). -/
  | burnCalibration
  /-- BURN_DONE (R187). -/
  | burnDone
  /-- READ_EVENTS (R176). -/
  | readEvents
  /-- ARM_NOTICES (R177). -/
  | armNotices (set clear : Half)
  /-- ARM_WAKE (R178). -/
  | armWake (hazard undocked battery : Byte)
  /-- SET_PASS_TIMER (R181). -/
  | setPassTimer (tickBase : Half) (initial reload reloadCount : Byte)
  /-- READ_SENSE (R172). -/
  | readSense
  /-- PARK (R182). -/
  | park (alarm : Byte)
  /-- SOFT_RESET (R167). -/
  | softReset
  /-- CHECK_BEGIN (R59). -/
  | checkBegin
  /-- CHECK_SAMPLE (R59). -/
  | checkSample
  /-- CHECK_RESULT (R57), with the beacon lines as they stand for a judgement it may bring (R156). -/
  | checkResult (beacon : Beacon)
  /-- RECHECK_RESULT (R65). -/
  | recheckResult
  /-- HELD_GRANT_RELEASE (R89). -/
  | heldGrantRelease
  /-- TX_FRAME_DONE (R120). -/
  | txFrameDone
  /-- RX_FRAME_DISCARD (R117): bytes arrive on RXD and every frame that must be discarded is. -/
  | rxFrameDiscard (bytes : List Byte)
  /-- RX_GAP_TIMEOUT (R117). -/
  | rxGapTimeout
  /-- DRIVE_REPORT (R119): bytes arrive on RXD that complete a frame, with the beacon lines as they stand
  for a judgement the report may bring (R156). -/
  | driveReport (bytes : List Byte) (beacon : Beacon)
  /-- DWELL_END (R99). -/
  | dwellEnd
  /-- DRIVE_WATCH_EXPIRY (R115). -/
  | driveWatchExpiry
  /-- CLIFF_SAMPLE (R136). -/
  | cliffSample (sensor : CliffSensor) (level : Byte)
  /-- LINE_SAMPLE (R138). -/
  | lineSample (line : SwitchLine) (asserted : Bool)
  /-- BUMP_WINDOW_TIMEOUT (R140). -/
  | bumpWindowTimeout
  /-- DCK_SAMPLE (R155). -/
  | dckSample (asserted : Bool)
  /-- CONTACT_CHANGE (R155). -/
  | contactChange
  /-- PASS_TIMER_RELOAD (R180). -/
  | passTimerReload
  /-- PASS_TIMER_EXPIRY (R180). -/
  | passTimerExpiry
  deriving DecidableEq, Repr

end Sys2Proof
end

