-- ==== Sys2Proof/Decode.lean ====
section
/-! DEFINITION. Decode.lean: the command a word of the opcode table spells. No row of the table gives bits, so
no word spells one; the frames of the two links are read in Machine/Operands.lean and Machine/Port.lean. -/

namespace Sys2Proof

/-- The command spelt by a word of the table's bits: none, for no row of the table gives bits. -/
def decodeTableWord (_nbits _w : Nat) : Option Instr := none

end Sys2Proof
end

