-- ==== Sys2Proof/Config.lean ====
section
/-! DEFINITION. Config.lean: what is fixed for the part (the sizes of its stores, its default tuning and
calibration) and the one free value of the model. -/

namespace Sys2Proof

/-- Cells along one side of the Floor Map (chapter 1). -/
abbrev Config.gridSide : Nat := 256

/-- Cells of the Floor Map. -/
abbrev Config.gridCells : Nat := 65536

/-- Side of a cell in micrometres. -/
abbrev Config.cellSize : Nat := 50000

/-- The largest x or y inside the map, in micrometres (R30). -/
abbrev Config.mapMax : Nat := 12799999

/-- The largest uncertainty U, in micrometres (R30). -/
abbrev Config.uMax : Nat := 1000000

/-- Entries the Change Queue holds (R25). -/
abbrev Config.queueCap : Nat := 64

/-- Slots of the Segment Pool (R67). -/
abbrev Config.poolSlots : Nat := 128

/-- Step between two samples of a check, in micrometres (R51). -/
abbrev Config.sampleStep : Nat := 25000

/-- Milliseconds a burn takes (R187). -/
abbrev Config.burnTime : Nat := 40

/-- Milliseconds a bump window stays open (R140). -/
abbrev Config.bumpWindow : Nat := 5

/-- DESIGN CHOICE (assumption 6). The engine's own moves made within one command; a chain of
segments that need no check may be longer, and then goes on at the next idle step. -/
def Config.engineMoves : Nat := 400

/-- The power-on values of the tuning block (section 9.4, R170). -/
def Config.tuning : Tuning where
  margin := 40
  cliffBand := 60
  stopMargin := 30
  minPiece := 20
  pieceLength := 600
  arriveTolerance := 25
  alignTolerance := 728
  seekStep := 2048
  nudgeStep := 364
  rugSpeed := 200
  unknownSpeed := 150
  nearSpeed := 120
  cliffSpeed := 100
  mateSpeed := 50
  mateLimit := 150
  rugFactor := 224
  cliffLevel := 40
  rugConfirm := 6
  slipLimit := 300
  slipReports := 4
  slipPenalty := 20000
  jumpPenalty := 50000
  growthRate := 20
  lostLimit := 150000
  obstacleFloor := 2
  driveWatch := 50
  echoLimit := 3
  backoffDistance := 60
  homeLevel := 15
  changeNotice := 1
  contactDebounce := 20
  dockUncertainty := 5000

/-- The default calibration record (section 11.1, R188). -/
def Config.calibration : Calibration where
  tickScale := 8000
  wheelBase := 230
  robotRadius := 170
  flF := 160
  flL := 60
  frF := 160
  frL := -60
  slF := 100
  slL := 140
  srF := 100
  srL := -140

/-- FREE VALUE (assumption 3). The level at which a switch line stands at the moment of a reset or of a
wake (R138, R150). No command carries it, so nothing is known of it. The number is the model's count of
such moments. -/
opaque Config.lineLevel : Nat → SwitchLine → Bool

end Sys2Proof
end

