-- ==== Sys2Proof/Machine/State.lean ====
section
/-! DEFINITION. State.lean: the state of the FN-212, block by block as the manual names it, and the values
a power-on reset leaves. All of it is plain data. -/

namespace Sys2Proof.Machine
open Sys2Proof

/-- No condition of the manual stops the part, so no meaning raises a fault and this type has no value
(safe: there is nothing to raise). -/
inductive Fault where
  deriving DecidableEq, Repr

/-- Why a command is refused. -/
inductive Refusal where
  /-- Raised by `exec` alone, for a command without a meaning; no arm raises it (safe). -/
  | notModelled (mnemonic : String)
  deriving DecidableEq, Repr

/-! ## Floor Map (chapter 1) -/

/-- The class of a cell (R1), in the order of codes 0 to 6. -/
inductive CellClass where
  | unknown | free | rug | obstacle | cliff | keepOut | dock
  deriving DecidableEq, Repr

/-- Who last set a cell's class (R1). -/
inductive Origin where
  | planner | sensed
  deriving DecidableEq, Repr

/-- The record of one cell (R1). -/
structure CellRec where
  cls     : CellClass
  conf    : BitVec 3
  origin  : Origin
  visited : Bool
  deriving DecidableEq, Repr

/-- The record the map sweep writes (R2), which is also what an unlisted cell holds. -/
def CellRec.swept : CellRec := { cls := .unknown, conf := 0, origin := .planner, visited := false }

/-- The seven counts of one sector (section 1.2). -/
structure SectorRec where
  unknown  : Nat
  rug      : Nat
  obstacle : Nat
  keepOut  : Nat
  cliff    : Nat
  dock     : Nat
  visited  : Nat
  deriving DecidableEq, Repr

/-- The record of a swept sector (R12), which is also what an unlisted sector holds. -/
def SectorRec.swept : SectorRec :=
  { unknown := 256, rug := 0, obstacle := 0, keepOut := 0, cliff := 0, dock := 0, visited := 0 }

/-- A cell of the grid by its column and row. -/
structure CellIx where
  cx : Nat
  cy : Nat
  deriving DecidableEq, Repr

/-- The map window (R14). -/
structure Window where
  x0 : Nat
  x1 : Nat
  y0 : Nat
  y1 : Nat
  deriving DecidableEq, Repr

/-- A primary axis (R14). -/
inductive Axis where
  | x | y
  deriving DecidableEq, Repr

/-- A direction along an axis (R14). -/
inductive Dir where
  | inc | dec
  deriving DecidableEq, Repr

/-- The entry mode (R14). -/
structure EntryMode where
  primary : Axis
  xDir    : Dir
  yDir    : Dir
  deriving DecidableEq, Repr

/-- A fill in progress (R21): its copies of the cell byte, the window and the entry mode, the cell it
reaches next, how many cells are left and how many were held. -/
structure Fill where
  cell : CellRec
  win  : Window
  mode : EntryMode
  pos  : CellIx
  left : Nat
  held : Nat
  deriving DecidableEq, Repr

/-- The cause of a sensed mark (section 1.1). -/
inductive MarkCause where
  | cliffTrip | wheelDrop | bump | stall
  deriving DecidableEq, Repr

/-- The sensor of a sensed mark (section 1.1), in the order of codes 0 to 9. -/
inductive MarkSensor where
  | fl | fr | sl | sr | wl | wr | bl | br | bb | drv
  deriving DecidableEq, Repr

/-- One Change Queue entry (section 1.7). -/
structure ChangeEntry where
  cell   : CellIx
  old    : CellClass
  new    : CellClass
  cause  : MarkCause
  sensor : MarkSensor
  time   : Word
  deriving DecidableEq, Repr

/-- The Floor Map. `cells` and `sectors` list what differs from the swept record, by rising address;
`sweep` is the next cell of a running map sweep (R189). -/
structure FloorMap where
  cells      : List (Nat × CellRec)
  sectors    : List (Nat × SectorRec)
  win        : Window
  cursor     : CellIx
  mode       : EntryMode
  mapHeld    : Bool
  fill       : Option Fill
  sweep      : Option Nat
  changes    : List ChangeEntry
  changeLost : Bool
  deriving DecidableEq, Repr

/-! ## Pose Unit (chapter 2) -/

/-- The baseline and its status (R31). -/
structure Baseline where
  left  : Half
  right : Half
  yaw   : Half
  held  : Bool
  deriving DecidableEq, Repr

/-- The pose record (R30) and the items beside it (R31). `travel` and `turn` are the latest report's
travel and heading change, as handed on (R45). -/
structure PoseUnit where
  x      : Nat
  y      : Nat
  theta  : Nat
  u      : Nat
  centre : CellIx
  base   : Baseline
  slip   : Nat
  travel : Nat
  turn   : Int
  deriving DecidableEq, Repr

/-! ## Clearance Unit (chapter 3) -/

/-- The column of a check (R50, R53). -/
inductive Column where
  | line | reverse | dockClose | rotate
  deriving DecidableEq, Repr

/-- Where the heading of a heading-form path comes from (R50). -/
inductive HeadingRef where
  | fixed (h : Nat)
  | facing
  | reversed
  deriving DecidableEq, Repr

/-- The path of a check (R50): target form, heading form with its length in µm, or none (Rotate). -/
inductive CheckPath where
  | target (x y : Nat)
  | heading (h : HeadingRef) (len : Nat)
  | spot
  deriving DecidableEq, Repr

/-- Who asked for a check: the Route Engine or Dock Unit, or the Clearance Unit itself for a grant (R64). -/
inductive CheckOwner where
  | engine
  | recheck (grant : Nat)
  deriving DecidableEq, Repr

/-- What a check was asked with (R50). -/
structure CheckReq where
  owner        : CheckOwner
  path         : CheckPath
  column       : Column
  allowUnknown : Bool
  avoidRug     : Bool
  speed        : Nat
  deriving DecidableEq, Repr

/-- The first blocking cell of a check (R55); its indices may lie outside the map. -/
structure BlockCell where
  cx  : Int
  cy  : Int
  cls : CellClass
  deriving DecidableEq, Repr

/-- A check that is SAMPLING (R59): what it took at its beginning (R50 to R52), the next sample to
examine, the start-overlap set and what the examined samples gave. Radii are in mm. -/
structure Sampling where
  sx            : Int
  sy            : Int
  ex            : Int
  ey            : Int
  dirX          : Int
  dirY          : Int
  divisor       : Nat
  len           : Nat
  rh            : Nat
  rm            : Nat
  rc            : Nat
  body          : Nat
  outer         : Nat
  obstacleFloor : Nat
  rugSpeed      : Nat
  unknownSpeed  : Nat
  nearSpeed     : Nat
  cliffSpeed    : Nat
  doneAtStart   : Int
  next          : Nat
  overlap       : List (Int × Int)
  cap           : Nat
  unknownSeen   : Bool
  blocked       : Option (Nat × BlockCell)
  deriving DecidableEq, Repr

/-- A check held by the unit (R59): WAITING without a `run`, SAMPLING with one. -/
structure Check where
  req : CheckReq
  run : Option Sampling
  deriving DecidableEq, Repr

/-- The corridor record of the outstanding grant (R62). -/
structure Corridor where
  grant         : Nat
  column        : Column
  allowUnknown  : Bool
  avoidRug      : Bool
  dirX          : Int
  dirY          : Int
  divisor       : Nat
  rh            : Nat
  rm            : Nat
  rc            : Nat
  obstacleFloor : Nat
  amount        : Int
  deriving DecidableEq, Repr

/-- The Clearance Unit: the held check first, those waiting behind it after, and the corridor record. -/
structure ClearanceUnit where
  checks   : List Check
  corridor : Option Corridor
  deriving DecidableEq, Repr

/-! ## Segments, lists and the Route Engine (chapters 4 and 5) -/

/-- The kinds of a segment record (R68). -/
inductive SegKind where
  | rotate | line | reverse | dock
  deriving DecidableEq, Repr

/-- A stored segment record (R68, R70). The fields a kind does not use are zero, no or absent. -/
structure Segment where
  kind         : SegKind
  targetX      : Nat
  targetY      : Nat
  heading      : Option Nat
  reverseDist  : Nat
  speed        : Nat
  allowUnknown : Bool
  avoidRug     : Bool
  notify       : Bool
  retries      : Nat
  dwell        : Nat
  alt          : Option (Nat × Nat)
  deriving DecidableEq, Repr

/-- The outcomes of a segment (R98). -/
inductive SegOutcome where
  | arrived | blocked | cliffStop | bumpStop | stall | short | dockNotFound | dockLost | dockMissed
  | driveLost | driveFault | lost | invalid | guardInBackoff | tallyFull | cancelled
  deriving DecidableEq, Repr

/-- The outcome field of a descriptor (R78). -/
inductive DescOutcome where
  | notRun
  | inProgress
  | recorded (o : SegOutcome)
  deriving DecidableEq, Repr

/-- A descriptor (R78). -/
structure Descriptor where
  outcome  : DescOutcome
  start    : Word
  finish   : Word
  attempts : Nat
  altUsed  : Bool
  blocking : Option CellIx
  endError : Nat
  deriving DecidableEq, Repr

/-- The descriptor of an entry that has not run (R77, R78). -/
def Descriptor.fresh : Descriptor :=
  { outcome := .notRun, start := 0, finish := 0, attempts := 0, altUsed := false, blocking := none, endError := 0 }

/-- One list entry: the slot it names and its descriptor (section 4.3). -/
structure Entry where
  slot : Nat
  desc : Descriptor
  deriving DecidableEq, Repr

/-- A run list (R74); its length is the number of its entries. -/
structure RunList where
  entries      : List Entry
  position     : Nat
  passes       : Nat
  passesDone   : Nat
  stopOnHazard : Bool
  homeOnLow    : Bool
  deriving DecidableEq, Repr

/-- The two lists (R74). -/
inductive ListId where
  | main | priority
  deriving DecidableEq, Repr

/-- The engine states (R84). -/
inductive EngineState where
  | idle | running | draining | halted
  deriving DecidableEq, Repr

/-- The sub-states of RUNNING and DRAINING (R84). -/
inductive SubState where
  | segment | passWait
  deriving DecidableEq, Repr

/-- The drain modes (R84). -/
inductive DrainMode where
  | atSegment | atPass
  deriving DecidableEq, Repr

/-- The battery latch (R112). -/
inductive BatteryLatch where
  | above | below
  deriving DecidableEq, Repr

/-- The phase of the segment in progress (section 5.3); a Dock segment's own phases stand beside it in the
Dock Unit. FETCH and RECORD are passed within one command. -/
inductive Phase where
  | vet | align | travel | turn | rotate | reverse | seek | close | mate | docked | settle | backoff | dwell
  deriving DecidableEq, Repr

/-- What the segment in progress waits for within its phase. -/
inductive Wait where
  | nothing | check | held | grant
  deriving DecidableEq, Repr

/-- The kinds of a grant (R121). -/
inductive GrantKind where
  | rotate | travel | reverse | creep
  deriving DecidableEq, Repr

/-- A grant that is ready (R89): its kind, amount, speed cap and, but for a Rotate, the corridor record
that goes with it once it has its id. -/
structure ReadyGrant where
  kind     : GrantKind
  amount   : Int
  cap      : Nat
  corridor : Option Corridor
  deriving DecidableEq, Repr

/-- The segment in progress: the reading of its record (R67), its phase, the outcome pending on its try
(R98) with the blocking cell that goes with it, and the counters of the present try and piece. -/
structure SegRun where
  slot         : Nat
  seg          : Segment
  phase        : Phase
  wait         : Wait
  outcome      : Option SegOutcome
  cell         : Option CellIx
  inBackoff    : Bool
  rotWanted    : Nat
  rotTurn      : Int
  rotCorr      : Nat
  fullDone     : Nat
  revHeading   : Nat
  distLeft     : Nat
  pieceFull    : Bool
  pieceLimited : Bool
  pieceCut     : Bool
  pieceCell    : Option CellIx
  ready        : Option ReadyGrant
  dwellLeft    : Nat
  deriving DecidableEq, Repr

/-- A move the engine has still to make of its own: begin the segment at the position, start a try, or
record the segment with an outcome and its blocking cell. -/
inductive Todo where
  | none
  | begin
  | startTry
  | record (o : SegOutcome) (cell : Option CellIx)
  deriving DecidableEq, Repr

/-- The progress code of the sense record (R88). -/
structure Progress where
  stage       : Nat
  retryInUse  : Bool
  altInUse    : Bool
  guardTrip   : Bool
  unknownSeen : Bool
  deriving DecidableEq, Repr

/-- The Route Engine with the Segment Pool and the two lists (chapters 4 and 5). -/
structure RouteEngine where
  pool          : List (Nat × Option Segment)
  main          : RunList
  priority      : RunList
  state         : EngineState
  active        : Option ListId
  sub           : SubState
  drain         : DrainMode
  suspended     : Option SubState
  switchPending : Bool
  keptStop      : Bool
  keptExpiry    : Bool
  haltedOn      : Option ListId
  tally         : Nat
  haltCause     : Option SegOutcome
  lastOutcome   : Option SegOutcome
  latch         : BatteryLatch
  seg           : Option SegRun
  todo          : Todo
  amountDone    : Int
  poolIndex     : Option Nat
  attempt       : Nat
  progress      : Progress
  lastBlocking  : Option CellIx
  deriving DecidableEq, Repr

/-! ## Drive Port (chapter 6) -/

/-- The link states (R114). -/
inductive LinkState where
  | offline | online | silent
  deriving DecidableEq, Repr

/-- The grant states (R124). -/
inductive GrantState where
  | none | sent | active | stopping
  deriving DecidableEq, Repr

/-- The reasons of a Stop (R123). -/
inductive StopReason where
  | cancel | hazard | fault | lost
  deriving DecidableEq, Repr

/-- The frames the Drive Port makes (R121, R122, R123). -/
inductive DriveFrame where
  | grant (id : Nat) (kind : GrantKind) (amount : Int) (cap : Nat)
  | trimAmount (id : Nat) (amount : Int)
  | trimNudge (id : Nat) (turn : Int)
  | stop (id : Nat) (reason : StopReason)
  deriving DecidableEq, Repr

/-- The grant record (R124). In NONE its id is the last one sent, which the sense record keeps showing. -/
structure GrantRec where
  state  : GrantState
  id     : Nat
  kind   : GrantKind
  amount : Int
  cap    : Nat
  miss   : Nat
  settle : Nat
  deriving DecidableEq, Repr

/-- The Drive Port: the link and its watch (ms left, or stopped), the grant record, the frame being sent
and those waiting (R120), the bytes received and not yet consumed (R117), and the last seq and battery. -/
structure DrivePort where
  link    : LinkState
  watch   : Option Nat
  grant   : GrantRec
  nextId  : Nat
  txNow   : Option DriveFrame
  txQueue : List DriveFrame
  rx      : List Byte
  seq     : Byte
  battery : Nat
  deriving DecidableEq, Repr

/-! ## Hazard Guard (chapter 7) -/

/-- The guard states (R141); the latch is set exactly in TRIPPED. -/
inductive GuardState where
  | armed | tripped | off
  deriving DecidableEq, Repr

/-- The states of one cliff sensor (R135). -/
inductive CliffState where
  | clear | suspect | tripped
  deriving DecidableEq, Repr

/-- One cliff sensor: its state and its counter (R135). -/
structure CliffRec where
  state : CliffState
  count : Nat
  deriving DecidableEq, Repr

/-- The held samples of the four switch lines (R138). -/
structure LineLevels where
  wl : Bool
  wr : Bool
  bl : Bool
  br : Bool
  deriving DecidableEq, Repr

/-- An open bump window (R140): whether the left bumper opened it, the pose recorded and the time. -/
structure BumpWindow where
  byLeft : Bool
  x      : Nat
  y      : Nat
  theta  : Nat
  time   : Word
  deriving DecidableEq, Repr

/-- The Hazard Guard. -/
structure HazardGuard where
  state  : GuardState
  fl     : CliffRec
  fr     : CliffRec
  sl     : CliffRec
  sr     : CliffRec
  lines  : LineLevels
  window : Option BumpWindow
  deriving DecidableEq, Repr

/-! ## Dock Unit (chapter 8) -/

/-- The Dock Pose with its standoff point (R153). -/
structure DockPose where
  x        : Nat
  y        : Nat
  theta    : Nat
  standoff : Nat
  sx       : Nat
  sy       : Nat
  deriving DecidableEq, Repr

/-- The dock phases (R154). -/
inductive DockPhase where
  | none | approach | seek | close | mate | docked
  deriving DecidableEq, Repr

/-- The beam patterns (R156). -/
inductive Pattern where
  | centre | left | right | split | dark
  deriving DecidableEq, Repr

/-- The Dock Unit (R153, R154). `changeDue` marks a contact run that has reached ContactDebounce and whose
change is still to be taken; `beacon` holds the beacon lines as last read. -/
structure DockUnit where
  pose        : Option DockPose
  phase       : DockPhase
  docked      : Bool
  contact     : Bool
  run         : Nat
  changeDue   : Bool
  seekTurn    : Nat
  lossCount   : Nat
  losses      : Nat
  closeTravel : Nat
  beamSeen    : Bool
  lastPattern : Option Pattern
  beacon      : Beacon
  deriving DecidableEq, Repr

/-! ## Event Unit (chapter 10) -/

/-- The wake causes of the Woke record (R183). -/
inductive WakeCause where
  | frame | line | moved | undocked | batteryLow | timer
  deriving DecidableEq, Repr

/-- The device states (R182). -/
inductive DeviceState where
  | run | parked
  deriving DecidableEq, Repr

/-- The settings of the Pass Timer (R180). -/
structure TimerSettings where
  tickBase    : Nat
  initial     : Nat
  reload      : Nat
  reloadCount : Nat
  deriving DecidableEq, Repr

/-- The run states of the Pass Timer (R180). -/
inductive TimerState where
  | stopped | pass | alarm
  deriving DecidableEq, Repr

/-- The run of the Pass Timer (R180): its state, the working count, the reloads left, its copies of the
tick base and reload value, and the ms already counted toward the next tick. -/
structure TimerRun where
  state    : TimerState
  count    : Nat
  reloads  : Nat
  tickBase : Nat
  reload   : Nat
  ms       : Nat
  deriving DecidableEq, Repr

/-- The Event Unit. Bit n of `flags` and of `enables` is cause number n of R174. -/
structure EventUnit where
  flags        : Half
  enables      : Half
  slipSeen     : Bool
  jumpSeen     : Bool
  woke         : Option WakeCause
  wakeHazard   : Bool
  wakeUndocked : Bool
  wakeBattery  : Bool
  time         : Word
  settings     : TimerSettings
  timer        : TimerRun
  device       : DeviceState
  deriving DecidableEq, Repr

/-! ## Calibration Store (chapter 11) -/

/-- The states of a one-time slot, with the record of a Written one (R186). -/
inductive CalSlot where
  | blank
  | written (record : Calibration)
  | spoiled
  deriving DecidableEq, Repr

/-- The two slots (R186). -/
inductive SlotId where
  | first | second
  deriving DecidableEq, Repr

/-- The calibration sources (R188). -/
inductive CalSource where
  | defaults | first | second
  deriving DecidableEq, Repr

/-- A burn in progress (R187): its slot, its copy and the ms left. -/
structure Burn where
  slot : SlotId
  copy : Calibration
  left : Nat
  deriving DecidableEq, Repr

/-- The Calibration Store. -/
structure CalStore where
  working    : Calibration
  first      : CalSlot
  second     : CalSlot
  source     : CalSource
  calDefault : Bool
  burn       : Option Burn
  deriving DecidableEq, Repr

/-! ## Planner Port (chapter 9) -/

/-- The reasons of a REJECTED response (R169), in the order of codes 1 to 11. -/
inductive Reason where
  | notIdle | halted | notLocalised | driveOffline | listEmpty | inUse | slotsExhausted | grantActive
  | priorityActive | notHazard | noDockPose
  deriving DecidableEq, Repr

/-- A response (R169). EMPTY is no response: it is what a FETCH shifts out of an empty slot. -/
inductive Response where
  | done (body : List Byte)
  | started
  | busy
  | invalid (field item : Nat)
  | rejected (reason : Reason)
  deriving DecidableEq, Repr

/-- A complete request frame (R164): its code, its length field and the body bytes that followed. -/
structure Frame where
  code   : Byte
  length : Half
  body   : List Byte
  deriving DecidableEq, Repr

/-- The Planner Port: the response slot, the answer of a request that is being served, the frame waiting in
the receive buffer, and the bytes shifted out on MISO in the last transaction. -/
structure PlannerPort where
  slot    : Option Response
  serving : Option Response
  buffer  : Option Frame
  miso    : List Byte
  deriving DecidableEq, Repr

/-! ## The whole part -/

/-- The seven blocks that motion passes through. -/
structure Motion where
  pu : PoseUnit
  cu : ClearanceUnit
  re : RouteEngine
  dp : DrivePort
  hg : HazardGuard
  du : DockUnit
  eu : EventUnit
  deriving DecidableEq, Repr

/-- The state of the FN-212. `moments` is the model's own count of the free line levels it has used, and
`pending` the commands that wait, the first to run first. -/
structure State where
  fm      : FloorMap
  cs      : CalStore
  tun     : Tuning
  pp      : PlannerPort
  mo      : Motion
  moments : Nat
  pending : List Instr
  deriving DecidableEq, Repr

/-! ## Values after a power-on reset -/

/-- The whole map as a window (R14). -/
def Window.whole : Window := { x0 := 0, x1 := 255, y0 := 0, y1 := 255 }

/-- The entry mode after a reset (R14). -/
def EntryMode.reset : EntryMode := { primary := .x, xDir := .inc, yDir := .inc }

/-- The Floor Map at the start of the map sweep (R2, R12, R14, R19, R29, R189). -/
def FloorMap.reset : FloorMap :=
  { cells := [], sectors := [], win := .whole, cursor := { cx := 0, cy := 0 }, mode := .reset,
    mapHeld := false, fill := none, sweep := some 0, changes := [], changeLost := false }

/-- The Pose Unit after a power-on reset (R31). -/
def PoseUnit.reset : PoseUnit :=
  { x := 6400000, y := 6400000, theta := 0, u := 1000000, centre := { cx := 128, cy := 128 },
    base := { left := 0, right := 0, yaw := 0, held := false }, slip := 0, travel := 0, turn := 0 }

/-- The Clearance Unit after a reset (R59, R61, R62). -/
def ClearanceUnit.reset : ClearanceUnit := { checks := [], corridor := none }

/-- A run list after a power-on reset (R74). -/
def RunList.reset : RunList :=
  { entries := [], position := 0, passes := 1, passesDone := 0, stopOnHazard := false, homeOnLow := false }

/-- The progress code after a reset and after FETCH (R88, R173). -/
def Progress.reset : Progress :=
  { stage := 0, retryInUse := false, altInUse := false, guardTrip := false, unknownSeen := false }

/-- The Route Engine after a power-on reset (R67, R74, R84, R173). -/
def RouteEngine.reset : RouteEngine :=
  { pool := [], main := .reset, priority := .reset, state := .idle, active := none, sub := .segment,
    drain := .atSegment, suspended := none, switchPending := false, keptStop := false, keptExpiry := false,
    haltedOn := none, tally := 0, haltCause := none, lastOutcome := none, latch := .above, seg := none,
    todo := .none, amountDone := 0, poolIndex := none, attempt := 0, progress := .reset,
    lastBlocking := none }

/-- The grant record after a power-on reset (R121, R124). -/
def GrantRec.reset : GrantRec :=
  { state := .none, id := 0, kind := .rotate, amount := 0, cap := 0, miss := 0, settle := 0 }

/-- The Drive Port after a power-on reset (R114, R119 to R121, R124). -/
def DrivePort.reset : DrivePort :=
  { link := .offline, watch := none, grant := .reset, nextId := 1, txNow := none, txQueue := [], rx := [],
    seq := 0, battery := 0 }

/-- A cliff sensor after a reset (R135). -/
def CliffRec.reset : CliffRec := { state := .clear, count := 0 }

/-- The Hazard Guard after a power-on reset (R150). DESIGN CHOICE (assumption 3): `State.reset` takes every
line as not asserted. -/
def HazardGuard.reset : HazardGuard :=
  { state := .armed, fl := .reset, fr := .reset, sl := .reset, sr := .reset,
    lines := { wl := false, wr := false, bl := false, br := false }, window := none }

/-- The Dock Unit after a power-on reset (R153, R154). -/
def DockUnit.reset : DockUnit :=
  { pose := none, phase := .none, docked := false, contact := false, run := 0, changeDue := false,
    seekTurn := 0, lossCount := 0, losses := 0, closeTravel := 0, beamSeen := false, lastPattern := none,
    beacon := { left := false, centre := false, right := false, near := false } }

/-- A stopped Pass Timer (R180). -/
def TimerRun.idle : TimerRun :=
  { state := .stopped, count := 0, reloads := 0, tickBase := 100, reload := 1, ms := 0 }

/-- The Event Unit after a power-on reset (R174, R175, R178 to R180, R182). -/
def EventUnit.reset : EventUnit :=
  { flags := 0, enables := 0, slipSeen := false, jumpSeen := false, woke := none, wakeHazard := false,
    wakeUndocked := false, wakeBattery := false, time := 0,
    settings := { tickBase := 100, initial := 0, reload := 1, reloadCount := 0 }, timer := .idle,
    device := .run }

/-- The Calibration Store of a part whose slots were never burnt, after the load of R188 (R186, R188). -/
def CalStore.reset : CalStore :=
  { working := Config.calibration, first := .blank, second := .blank, source := .defaults,
    calDefault := true, burn := none }

/-- The Planner Port after a power-on reset (R167). -/
def PlannerPort.reset : PlannerPort := { slot := none, serving := none, buffer := none, miso := [] }

/-- The motion blocks after a power-on reset. -/
def Motion.reset : Motion :=
  { pu := .reset, cu := .reset, re := .reset, dp := .reset, hg := .reset, du := .reset, eu := .reset }

/-- The part right after a power-on reset (R189, step 2): calibration is loaded and the map sweep begins. -/
def State.reset : State :=
  { fm := .reset, cs := .reset, tun := Config.tuning, pp := .reset, mo := .reset, moments := 0,
    pending := [] }

end Sys2Proof.Machine
end

