-- ==== Sys2Proof/Machine/Ops.lean ====
section
/-! DEFINITION. Ops.lean: the arithmetic of the manual's conventions, the sparse store that holds the cells,
the Sector Table and the Segment Pool, and the geometry of the map frame. -/

namespace Sys2Proof.Machine
open Sys2Proof

/-! ## Arithmetic -/

/-- rhaz of n / d: the quotient rounded half away from zero (chapter 0, Arithmetic). -/
def rhaz (n : Int) (d : Nat) : Int :=
  if 0 ≤ n then (2 * n + d) / (2 * d) else -((2 * -n + d) / (2 * d))

/-- ceil of n / d. -/
def ceilDiv (n d : Nat) : Nat := (n + d - 1) / d

/-- A 16-bit difference read as signed (chapter 0, Arithmetic). -/
def signed16 (n : Nat) : Int := if n % 65536 < 32768 then (n % 65536 : Nat) else (n % 65536 : Nat) - 65536

/-- `n` modulo 65536, a heading (chapter 0, The map frame). -/
def wrapHeading (n : Int) : Nat := (n % 65536).toNat

/-- The turn from heading a to heading b, −32768..32767 (chapter 0, The map frame). -/
def turnTo (a b : Nat) : Int := ((b : Int) - a + 32768) % 65536 - 32768

/-- `n` clamped to 0..hi. -/
def clampTo (hi : Nat) (n : Int) : Nat := min hi n.toNat

/-- One bit of the integer square root: take the bit when its square still fits. -/
def sqrtBits (n : Nat) : Nat → Nat → Nat
  | 0, r => r
  | b + 1, r => sqrtBits n b (if (r + 2 ^ b) ^ 2 ≤ n then r + 2 ^ b else r)

/-- The integer square root of a number below 2^64. -/
def isqrt (n : Nat) : Nat := sqrtBits n 32 0

/-- rhaz of the square root of n (R51, R91): no square root of a whole number lies half-way. -/
def rhazSqrt (n : Nat) : Nat := if n ≤ isqrt n * isqrt n + isqrt n then isqrt n else isqrt n + 1

/-- The square of the distance between two points. -/
def dist2 (ax ay bx by_ : Int) : Nat := ((ax - bx) * (ax - bx) + (ay - by_) * (ay - by_)).toNat

/-- The distance between two points in µm, rounded rhaz (R51, R91). -/
def distance (ax ay bx by_ : Int) : Nat := rhazSqrt (dist2 ax ay bx by_)

/-- The dot product of a displacement with the table pair of index k (R91). -/
def dotAt (dx dy : Int) (k : Nat) : Int := sinT ((k + 256) % 1024) * dx + sinT k * dy

/-- The index with the largest dot product among `best` and the last n indices, the earliest on a tie. -/
def bestIndex (dx dy : Int) : Nat → Nat → Int → Nat
  | 0, best, _ => best
  | n + 1, best, v =>
    match decide (v < dotAt dx dy (1023 - n)) with
    | true => bestIndex dx dy n (1023 - n) (dotAt dx dy (1023 - n))
    | false => bestIndex dx dy n best v

/-- The bearing of a displacement (R91): 64 times the table index whose pair has the largest dot product
with it, the lower index on a tie. -/
def bearing (dx dy : Int) : Nat := 64 * bestIndex dx dy 1023 0 (dotAt dx dy 0)

/-! ## The sparse store

A store lists, by rising address, the entries that differ from what an unlisted address reads as. -/

/-- The value at an address; `d` is what an unlisted address reads as. -/
def Memory.read {α : Type} (d : α) : List (Nat × α) → Nat → α
  | [], _ => d
  | (k, v) :: m, a => if k = a then v else Memory.read d m a

/-- The store without an entry at an address. -/
def Memory.erase {α : Type} : List (Nat × α) → Nat → List (Nat × α)
  | [], _ => []
  | (k, v) :: m, a => if k = a then m else (k, v) :: Memory.erase m a

/-- The store with an entry at its place by rising address. -/
def Memory.insert {α : Type} : List (Nat × α) → Nat → α → List (Nat × α)
  | [], a, v => [(a, v)]
  | (k, w) :: m, a, v =>
    if a < k then (a, v) :: (k, w) :: m
    else if a = k then (a, v) :: m
    else (k, w) :: Memory.insert m a v

/-- A write; writing what an unlisted address reads as removes the entry. -/
def Memory.write {α : Type} [DecidableEq α] (d : α) (m : List (Nat × α)) (a : Nat) (v : α) : List (Nat × α) :=
  if v = d then Memory.erase m a else Memory.insert m a v

/-- The canonical form: addresses strictly rising, no entry equal to `d`. -/
abbrev Memory.wf {α : Type} (d : α) (m : List (Nat × α)) : Prop :=
  (m.map Prod.fst).Pairwise (· < ·) ∧ ∀ e ∈ m, e.2 ≠ d

/-! ## The map frame -/

/-- The address of a cell, in the order of a whole-map fill. -/
def CellIx.addr (c : CellIx) : Nat := c.cy * 256 + c.cx

/-- The cell at an address. -/
def CellIx.ofAddr (a : Nat) : CellIx := { cx := a % 256, cy := a / 256 }

/-- The index of the sector that holds a cell, sy × 16 + sx (chapter 0, The map frame). -/
def CellIx.sector (c : CellIx) : Nat := c.cy / 16 * 16 + c.cx / 16

/-- The cell containing a point inside the map. -/
def cellOf (x y : Nat) : CellIx := { cx := x / Config.cellSize, cy := y / Config.cellSize }

/-- The cell containing a point, when the point lies in the map. -/
def cellOfPoint (x y : Int) : Option CellIx :=
  if 0 ≤ x ∧ x ≤ Config.mapMax ∧ 0 ≤ y ∧ y ≤ Config.mapMax then some (cellOf x.toNat y.toNat) else none

/-- The point at a distance from (x, y) along a heading, each coordinate by rhaz of r × cosT / 16384 or
r × sinV / 16384 (R51, R127, R140, R153). -/
def pointAlong (x y : Int) (h : Nat) (r : Int) : Int × Int :=
  (x + rhaz (r * cosT h) 16384, y + rhaz (r * sinV h) 16384)

/-- The point f forward and l to the left of (x, y) under heading θ, in units of 1/1000 of `scale` µm:
R134 takes mm with scale 1000, R139 takes µm with scale 1. -/
def pointBeside (x y : Int) (theta : Nat) (f l : Int) (scale : Int) : Int × Int :=
  (x + rhaz ((f * cosT theta - l * sinV theta) * scale) 16384,
   y + rhaz ((f * sinV theta + l * cosT theta) * scale) 16384)

/-- The cell's record in the Floor Map. -/
def FloorMap.cellAt (fm : FloorMap) (c : CellIx) : CellRec := Memory.read CellRec.swept fm.cells c.addr

/-- The record of a sector. -/
def FloorMap.sectorAt (fm : FloorMap) (k : Nat) : SectorRec := Memory.read SectorRec.swept fm.sectors k

/-- Coverage, the sum of the visited counts of all sectors (R11). -/
def FloorMap.coverage (fm : FloorMap) : Nat := ((List.range 256).map fun k => (fm.sectorAt k).visited).sum

/-- The dock total, the sum of the dock counts of all sectors (R11). -/
def FloorMap.dockTotal (fm : FloorMap) : Nat := ((List.range 256).map fun k => (fm.sectorAt k).dock).sum

/-- The record in a pool slot; an unlisted slot is Empty (R67). -/
def RouteEngine.slotAt (re : RouteEngine) (slot : Nat) : Option Segment := Memory.read none re.pool slot

/-- What the motion blocks read of the others: the tuning block, the working calibration, the dock total,
and whether a fill or a WRITE CELLS holds a new check back (R59). -/
structure Env where
  tun       : Tuning
  cal       : Calibration
  dockTotal : Nat
  mapBusy   : Bool
  deriving DecidableEq, Repr

/-- What the motion blocks read, as the state stands. -/
def State.env (s : State) : Env :=
  { tun := s.tun, cal := s.cs.working, dockTotal := s.fm.dockTotal, mapBusy := s.fm.fill.isSome }

end Sys2Proof.Machine
end

