-- ==== Sys2Proof/Machine/Operands.lean ====
section
/-! DEFINITION. Operands.lean: the byte layouts of chapter 12, both ways: request bodies, response bodies,
cell bytes, records, and the frames of the Drive Link with their CRC-8. -/

namespace Sys2Proof.Machine
open Sys2Proof

/-! ## Byte order: least significant byte first (chapter 0) -/

/-- A number as one byte. -/
def byte (n : Nat) : Byte := BitVec.ofNat 8 n

/-- The two bytes of a field. -/
def halfBytes (w : Half) : List Byte := [w.extractLsb' 0 8, w.extractLsb' 8 8]

/-- The four bytes of a field. -/
def wordBytes (w : Word) : List Byte :=
  [w.extractLsb' 0 8, w.extractLsb' 8 8, w.extractLsb' 16 8, w.extractLsb' 24 8]

/-- The field of two bytes. -/
def half (a b : Byte) : Half := b ++ a

/-- The field of four bytes. -/
def word (a b c d : Byte) : Word := d ++ c ++ b ++ a

/-- The `k` bytes of a number. -/
def leBytes : Nat → Nat → List Byte
  | 0, _ => []
  | k + 1, n => byte n :: leBytes k (n / 256)

/-- The number of a sequence of bytes. -/
def leValue : List Byte → Nat
  | [] => 0
  | b :: bs => b.toNat + 256 * leValue bs

/-- A signed number as two bytes in two's complement. -/
def signedBytes (n : Int) : List Byte := leBytes 2 (n % 65536).toNat

/-- A signed number as four bytes in two's complement. -/
def signedBytes4 (n : Int) : List Byte := leBytes 4 (n % 4294967296).toNat

/-- A yes/no value as one byte (chapter 12). -/
def flagByte (b : Bool) : Byte := if b then 1 else 0

/-- The bits of a flag byte, bit 0 first (chapter 12). -/
def bitsByte : List Bool → Nat
  | [] => 0
  | b :: bs => b.toNat + 2 * bitsByte bs

/-! ## Cells and sectors (section 12.2) -/

/-- The code of a class (R1). -/
def CellClass.code : CellClass → Nat
  | .unknown => 0
  | .free => 1
  | .rug => 2
  | .obstacle => 3
  | .cliff => 4
  | .keepOut => 5
  | .dock => 6

/-- The class of a code; code 7 and above is no class (R1). -/
def CellClass.ofCode : Nat → Option CellClass
  | 0 => some .unknown
  | 1 => some .free
  | 2 => some .rug
  | 3 => some .obstacle
  | 4 => some .cliff
  | 5 => some .keepOut
  | 6 => some .dock
  | _ => none

/-- A cell's byte (section 12.2). -/
def CellRec.toByte (c : CellRec) : Byte :=
  byte (c.cls.code + 8 * c.conf.toNat + (if c.origin = .sensed then 64 else 0) + 128 * c.visited.toNat)

/-- The record a planner write carries: class, confidence and visited mark, with origin Planner (R4). -/
def CellRec.ofByte (b : Byte) : Option CellRec :=
  (CellClass.ofCode (b.toNat % 8)).map fun cls =>
    { cls := cls, conf := b.extractLsb' 3 3, origin := .planner, visited := b.getLsbD 7 }

/-- A sector record, 14 bytes (section 12.2). -/
def SectorRec.bytes (r : SectorRec) : List Byte :=
  leBytes 2 r.unknown ++ leBytes 2 r.rug ++ leBytes 2 r.obstacle ++ leBytes 2 r.keepOut ++
  leBytes 2 r.cliff ++ leBytes 2 r.dock ++ leBytes 2 r.visited

/-- The code of a mark's cause (section 12.2). -/
def MarkCause.code : MarkCause → Nat
  | .cliffTrip => 0
  | .wheelDrop => 1
  | .bump => 2
  | .stall => 3

/-- The code of a mark's sensor (section 12.2). -/
def MarkSensor.code : MarkSensor → Nat
  | .fl => 0
  | .fr => 1
  | .sl => 2
  | .sr => 3
  | .wl => 4
  | .wr => 5
  | .bl => 6
  | .br => 7
  | .bb => 8
  | .drv => 9

/-- A change entry, 10 bytes (section 12.2). -/
def ChangeEntry.bytes (e : ChangeEntry) : List Byte :=
  [byte e.cell.cx, byte e.cell.cy, byte e.old.code, byte e.new.code, byte e.cause.code, byte e.sensor.code] ++
  wordBytes e.time

/-! ## Tuning and calibration (section 12.4) -/

/-- The fields of the tuning block in the order of section 9.4. -/
def tuningList (t : Tuning) : List Nat :=
  [t.margin, t.cliffBand, t.stopMargin, t.minPiece, t.pieceLength, t.arriveTolerance, t.alignTolerance,
   t.seekStep, t.nudgeStep, t.rugSpeed, t.unknownSpeed, t.nearSpeed, t.cliffSpeed, t.mateSpeed, t.mateLimit,
   t.rugFactor, t.cliffLevel, t.rugConfirm, t.slipLimit, t.slipReports, t.slipPenalty, t.jumpPenalty,
   t.growthRate, t.lostLimit, t.obstacleFloor, t.driveWatch, t.echoLimit, t.backoffDistance, t.homeLevel,
   t.changeNotice, t.contactDebounce, t.dockUncertainty]

/-- The tuning block of a list of fields; a list of another length gives none. -/
def tuningOfList : List Nat → Option Tuning
  | [a1, a2, a3, a4, a5, a6, a7, a8, a9, a10, a11, a12, a13, a14, a15, a16, a17, a18, a19, a20, a21, a22,
     a23, a24, a25, a26, a27, a28, a29, a30, a31, a32] =>
    some { margin := a1, cliffBand := a2, stopMargin := a3, minPiece := a4, pieceLength := a5,
           arriveTolerance := a6, alignTolerance := a7, seekStep := a8, nudgeStep := a9, rugSpeed := a10,
           unknownSpeed := a11, nearSpeed := a12, cliffSpeed := a13, mateSpeed := a14, mateLimit := a15,
           rugFactor := a16, cliffLevel := a17, rugConfirm := a18, slipLimit := a19, slipReports := a20,
           slipPenalty := a21, jumpPenalty := a22, growthRate := a23, lostLimit := a24,
           obstacleFloor := a25, driveWatch := a26, echoLimit := a27, backoffDistance := a28,
           homeLevel := a29, changeNotice := a30, contactDebounce := a31, dockUncertainty := a32 }
  | _ => none

/-- Bytes of each tuning field on the link, 50 in all (section 12.4). -/
def tuningWidths : List Nat :=
  [1, 1, 1, 1, 2, 1, 2, 2, 2, 2, 2, 2, 2, 1, 2, 2, 1, 1, 2, 1, 2, 2, 1, 4, 1, 2, 1, 1, 1, 1, 1, 2]

/-- The range of each tuning field (section 9.4). -/
def tuningRanges : List (Nat × Nat) :=
  [(0, 100), (0, 150), (10, 100), (10, 100), (100, 2000), (5, 100), (64, 4096), (1024, 8192), (0, 2048),
   (20, 500), (20, 500), (20, 500), (20, 500), (20, 150), (50, 300), (192, 256)] ++
  [(0, 255), (1, 15), (0, 4095), (1, 15), (0, 65535), (0, 65535), (0, 255), (10000, 1000000), (0, 7),
   (20, 500), (1, 15), (0, 200), (0, 100), (1, 64), (5, 200), (0, 65535)]

/-- The bytes of a sequence of fields of given widths. -/
def fieldBytes (widths fields : List Nat) : List Byte :=
  (List.zipWith leBytes widths fields).flatten

/-- The fields of a body whose fields have given widths; a body of another length gives none. -/
def readFields : List Nat → List Byte → Option (List Nat)
  | [], [] => some []
  | [], _ :: _ => none
  | w :: ws, bs =>
    if bs.length < w then none
    else (readFields ws (bs.drop w)).map (leValue (bs.take w) :: ·)

/-- The tuning block as its 50 bytes. -/
def tuningBytes (t : Tuning) : List Byte := fieldBytes tuningWidths (tuningList t)

/-- The first place of a list of fields, counted from `n`, that lies outside its range. -/
def firstOutside : Nat → List (Nat × Nat) → List Nat → Option Nat
  | n, (lo, hi) :: rs, v :: vs => if v < lo ∨ hi < v then some n else firstOutside (n + 1) rs vs
  | _, _, _ => none

/-- The calibration record as its 21 bytes (section 12.4). -/
def calibrationBytes (c : Calibration) : List Byte :=
  leBytes 2 c.tickScale ++ leBytes 2 c.wheelBase ++ leBytes 1 c.robotRadius ++
  signedBytes c.flF ++ signedBytes c.flL ++ signedBytes c.frF ++ signedBytes c.frL ++
  signedBytes c.slF ++ signedBytes c.slL ++ signedBytes c.srF ++ signedBytes c.srL

/-- The bytes of a calibration body, field by field. -/
def calibrationWidths : List Nat := [2, 2, 1, 2, 2, 2, 2, 2, 2, 2, 2]

/-- The calibration record of a body of 21 bytes. -/
def calibrationOfList : List Nat → Option Calibration
  | [t, w, r, a, b, c, d, e, f, g, h] =>
    some { tickScale := t, wheelBase := w, robotRadius := r, flF := signed16 a, flL := signed16 b,
           frF := signed16 c, frL := signed16 d, slF := signed16 e, slL := signed16 f, srF := signed16 g,
           srL := signed16 h }
  | _ => none

/-- The first calibration field out of its range (section 11.1), by its field number. -/
def calibrationOutside (c : Calibration) : Option Nat :=
  let off := fun (n : Nat) (v : Int) => if v < -300 ∨ 300 < v then some n else none
  if c.tickScale < 1000 ∨ 65535 < c.tickScale then some 2
  else if c.wheelBase < 120 ∨ 400 < c.wheelBase then some 3
  else if c.robotRadius < 100 ∨ 250 < c.robotRadius then some 4
  else (off 5 c.flF).or <| (off 6 c.flL).or <| (off 7 c.frF).or <| (off 8 c.frL).or <|
    (off 9 c.slF).or <| (off 10 c.slL).or <| (off 11 c.srF).or <| off 12 c.srL

/-! ## Requests (section 12.1) -/

/-- The bytes of the fields 3 to 15 of a LOAD SEGMENT body (section 12.3). -/
def segmentBytes (f : SegmentFields) : List Byte :=
  [f.kind] ++ wordBytes f.targetX ++ wordBytes f.targetY ++ [f.headingPresent] ++ halfBytes f.heading ++
  halfBytes f.reverseDist ++ halfBytes f.speed ++ [f.flags, f.retries] ++ halfBytes f.dwell ++
  [f.altPresent] ++ wordBytes f.altX ++ wordBytes f.altY

/-- A frame with a body of its own length. -/
def Frame.mk' (code : Byte) (body : List Byte) : Frame :=
  { code := code, length := BitVec.ofNat 16 body.length, body := body }

/-- The frame of a request (section 12.1); a command that is no request has none. -/
def requestFrame : Instr → Option Frame
  | .setWindow a b c d e f g => some (.mk' 0x10 [a, b, c, d, e, f, g])
  | .setCursor a b => some (.mk' 0x11 [a, b])
  | .writeCells cells => some (.mk' 0x12 cells)
  | .readCells n => some (.mk' 0x13 (halfBytes n))
  | .fillWindow b => some (.mk' 0x14 [b])
  | .releaseHazard a b c => some (.mk' 0x15 [a, b, c])
  | .readSectors a b => some (.mk' 0x16 [a, b])
  | .readChanges n => some (.mk' 0x17 [n])
  | .fixPose x y t u => some (.mk' 0x20 (wordBytes x ++ wordBytes y ++ halfBytes t ++ wordBytes u))
  | .readPose => some (.mk' 0x21 [])
  | .setDockPose f x y t d => some (.mk' 0x22 ([f] ++ wordBytes x ++ wordBytes y ++ halfBytes t ++ halfBytes d))
  | .loadSegment slot f => some (.mk' 0x30 (slot :: segmentBytes f))
  | .clearSegment slot => some (.mk' 0x31 [slot])
  | .loadList l n p f slots => some (.mk' 0x32 ([l, n, p, f] ++ slots))
  | .readList l => some (.mk' 0x33 [l])
  | .startRoute m => some (.mk' 0x34 [m])
  | .stopRoute m => some (.mk' 0x35 [m])
  | .postPriority u => some (.mk' 0x36 [u])
  | .acknowledge => some (.mk' 0x37 [])
  | .writeTuning t => some (.mk' 0x40 (tuningBytes t))
  | .readTuning => some (.mk' 0x41 [])
  | .writeCalibration c => some (.mk' 0x42 (calibrationBytes c))
  | .readCalibration => some (.mk' 0x43 [])
  | .burnCalibration => some (.mk' 0x44 [])
  | .readEvents => some (.mk' 0x50 [])
  | .armNotices a b => some (.mk' 0x51 (halfBytes a ++ halfBytes b))
  | .armWake a b c => some (.mk' 0x52 [a, b, c])
  | .setPassTimer t i r n => some (.mk' 0x53 (halfBytes t ++ [i, r, n]))
  | .readSense => some (.mk' 0x54 [])
  | .park a => some (.mk' 0x55 [a])
  | .softReset => some (.mk' 0x56 [])
  | .powerOnReset => none
  | .mapSweepProgress _ => none
  | .mapSweepDone => none
  | .timeBaseTick => none
  | .transactionEnd _ => none
  | .fetch _ => none
  | .invalidFrame _ _ _ => none
  | .fillProgress _ => none
  | .fillDone => none
  | .burnDone => none
  | .checkBegin => none
  | .checkSample => none
  | .checkResult _ => none
  | .recheckResult => none
  | .heldGrantRelease => none
  | .txFrameDone => none
  | .rxFrameDiscard _ => none
  | .rxGapTimeout => none
  | .driveReport _ _ => none
  | .dwellEnd => none
  | .driveWatchExpiry => none
  | .cliffSample _ _ => none
  | .lineSample _ _ => none
  | .bumpWindowTimeout => none
  | .dckSample _ => none
  | .contactChange => none
  | .passTimerReload => none
  | .passTimerExpiry => none

/-- What a frame's code and body are read as (R166, R190): a code that names no request, a body whose
length is not its request's, or a request. -/
inductive Parsed where
  | noCode
  | badLength
  | request (i : Instr)
  deriving DecidableEq, Repr

/-- A body that must be empty. -/
def parseEmpty (i : Instr) : List Byte → Parsed
  | [] => .request i
  | _ => .badLength

/-- A body of one byte. -/
def parseOne (f : Byte → Instr) : List Byte → Parsed
  | [a] => .request (f a)
  | _ => .badLength

/-- A body of two bytes. -/
def parseTwo (f : Byte → Byte → Instr) : List Byte → Parsed
  | [a, b] => .request (f a b)
  | _ => .badLength

/-- A body of three bytes. -/
def parseThree (f : Byte → Byte → Byte → Instr) : List Byte → Parsed
  | [a, b, c] => .request (f a b c)
  | _ => .badLength

/-- The body of SET WINDOW. -/
def parseSetWindow : List Byte → Parsed
  | [a, b, c, d, e, f, g] => .request (.setWindow a b c d e f g)
  | _ => .badLength

/-- The body of WRITE CELLS; R18 judges its length. -/
def parseWriteCells (body : List Byte) : Parsed := .request (.writeCells body)

/-- The body of READ CELLS. -/
def parseReadCells : List Byte → Parsed
  | [a, b] => .request (.readCells (half a b))
  | _ => .badLength

/-- The body of FIX POSE. -/
def parseFixPose : List Byte → Parsed
  | [x0, x1, x2, x3, y0, y1, y2, y3, t0, t1, u0, u1, u2, u3] =>
    .request (.fixPose (word x0 x1 x2 x3) (word y0 y1 y2 y3) (half t0 t1) (word u0 u1 u2 u3))
  | _ => .badLength

/-- The body of SET DOCK POSE. -/
def parseSetDockPose : List Byte → Parsed
  | [f, x0, x1, x2, x3, y0, y1, y2, y3, t0, t1, d0, d1] =>
    .request (.setDockPose f (word x0 x1 x2 x3) (word y0 y1 y2 y3) (half t0 t1) (half d0 d1))
  | _ => .badLength

/-- The body of LOAD SEGMENT, 30 bytes (section 12.3). -/
def parseLoadSegment : List Byte → Parsed
  | [slot, k, x0, x1, x2, x3, y0, y1, y2, y3, hp, h0, h1, r0, r1, s0, s1, fl, rt, d0, d1, ap,
     a0, a1, a2, a3, b0, b1, b2, b3] =>
    .request (.loadSegment slot
      { kind := k, targetX := word x0 x1 x2 x3, targetY := word y0 y1 y2 y3, headingPresent := hp,
        heading := half h0 h1, reverseDist := half r0 r1, speed := half s0 s1, flags := fl, retries := rt,
        dwell := half d0 d1, altPresent := ap, altX := word a0 a1 a2 a3, altY := word b0 b1 b2 b3 })
  | _ => .badLength

/-- The body of LOAD LIST: the header, then the slot numbers. -/
def parseLoadList : List Byte → Parsed
  | l :: n :: p :: f :: slots => .request (.loadList l n p f slots)
  | _ => .badLength

/-- The body of WRITE TUNING. -/
def parseWriteTuning (body : List Byte) : Parsed :=
  match (readFields tuningWidths body).bind tuningOfList with
  | some t => .request (.writeTuning t)
  | none => .badLength

/-- The body of WRITE CALIBRATION. -/
def parseWriteCalibration (body : List Byte) : Parsed :=
  match (readFields calibrationWidths body).bind calibrationOfList with
  | some c => .request (.writeCalibration c)
  | none => .badLength

/-- The body of ARM NOTICES. -/
def parseArmNotices : List Byte → Parsed
  | [a, b, c, d] => .request (.armNotices (half a b) (half c d))
  | _ => .badLength

/-- The body of SET PASS TIMER. -/
def parseSetPassTimer : List Byte → Parsed
  | [a, b, i, r, n] => .request (.setPassTimer (half a b) i r n)
  | _ => .badLength

/-- The request of a code and a body (section 12.1). -/
def parseRequest (code : Byte) (body : List Byte) : Parsed :=
  match code.toNat with
  | 0x10 => parseSetWindow body
  | 0x11 => parseTwo .setCursor body
  | 0x12 => parseWriteCells body
  | 0x13 => parseReadCells body
  | 0x14 => parseOne .fillWindow body
  | 0x15 => parseThree .releaseHazard body
  | 0x16 => parseTwo .readSectors body
  | 0x17 => parseOne .readChanges body
  | 0x20 => parseFixPose body
  | 0x21 => parseEmpty .readPose body
  | 0x22 => parseSetDockPose body
  | 0x30 => parseLoadSegment body
  | 0x31 => parseOne .clearSegment body
  | 0x32 => parseLoadList body
  | 0x33 => parseOne .readList body
  | 0x34 => parseOne .startRoute body
  | 0x35 => parseOne .stopRoute body
  | 0x36 => parseOne .postPriority body
  | 0x37 => parseEmpty .acknowledge body
  | 0x40 => parseWriteTuning body
  | 0x41 => parseEmpty .readTuning body
  | 0x42 => parseWriteCalibration body
  | 0x43 => parseEmpty .readCalibration body
  | 0x44 => parseEmpty .burnCalibration body
  | 0x50 => parseEmpty .readEvents body
  | 0x51 => parseArmNotices body
  | 0x52 => parseThree .armWake body
  | 0x53 => parseSetPassTimer body
  | 0x54 => parseEmpty .readSense body
  | 0x55 => parseOne .park body
  | 0x56 => parseEmpty .softReset body
  | _ => .noCode

/-! ## Responses (section 12.1) -/

/-- The code of a reason, 1 to 11 (section 12.1). -/
def Reason.code : Reason → Nat
  | .notIdle => 1
  | .halted => 2
  | .notLocalised => 3
  | .driveOffline => 4
  | .listEmpty => 5
  | .inUse => 6
  | .slotsExhausted => 7
  | .grantActive => 8
  | .priorityActive => 9
  | .notHazard => 10
  | .noDockPose => 11

/-- A result byte, the two length bytes and the body. -/
def envelope (result : Nat) (body : List Byte) : List Byte :=
  byte result :: leBytes 2 body.length ++ body

/-- A response as FETCH shifts it out (section 12.1). -/
def Response.bytes : Response → List Byte
  | .done body => envelope 1 body
  | .started => envelope 2 []
  | .busy => envelope 3 []
  | .invalid field item => envelope 4 (byte field :: leBytes 2 item)
  | .rejected reason => envelope 5 [byte reason.code]

/-- The EMPTY result (R168, R169). -/
def emptyBytes : List Byte := envelope 6 []

/-! ## Route records (section 12.3) -/

/-- The code of an outcome (section 12.3). -/
def SegOutcome.code : SegOutcome → Nat
  | .arrived => 2
  | .blocked => 3
  | .cliffStop => 4
  | .bumpStop => 5
  | .stall => 6
  | .short => 7
  | .dockNotFound => 8
  | .dockLost => 9
  | .dockMissed => 10
  | .driveLost => 11
  | .driveFault => 12
  | .lost => 13
  | .invalid => 14
  | .guardInBackoff => 15
  | .tallyFull => 16
  | .cancelled => 17

/-- The code of a descriptor's outcome (section 12.3). -/
def DescOutcome.code : DescOutcome → Nat
  | .notRun => 0
  | .inProgress => 1
  | .recorded o => o.code

/-- A cell as its two bytes, 0 when absent. -/
def cellBytes (c : Option CellIx) : List Byte :=
  match c with
  | some c => [byte c.cx, byte c.cy]
  | none => [0, 0]

/-- A descriptor, 15 bytes (section 12.3). -/
def Descriptor.bytes (d : Descriptor) : List Byte :=
  [byte d.outcome.code] ++ wordBytes d.start ++ wordBytes d.finish ++
  [byte d.attempts, byte (bitsByte [d.altUsed, d.blocking.isSome])] ++ cellBytes d.blocking ++
  leBytes 2 d.endError

/-! ## The Drive Link (section 12.6, R191) -/

/-- One shift of the CRC register (R191). -/
def crcShift (r : Byte) : Byte := if r.getLsbD 7 then (r <<< 1) ^^^ 0x07 else r <<< 1

/-- One byte entering the CRC register (R191). -/
def crcByte (r b : Byte) : Byte :=
  crcShift (crcShift (crcShift (crcShift (crcShift (crcShift (crcShift (crcShift (r ^^^ b))))))))

/-- The CRC-8 of a sequence of bytes (R191). -/
def crc8 (bs : List Byte) : Byte := bs.foldl crcByte 0

/-- A drive frame: sync, kind, length, body and CRC-8 (section 12.6). -/
def linkFrame (kind : Nat) (body : List Byte) : List Byte :=
  0xC3 :: byte kind :: byte body.length :: body ++ [crc8 (byte kind :: byte body.length :: body)]

/-- The code of a grant's kind (section 12.6). -/
def GrantKind.code : GrantKind → Nat
  | .rotate => 0
  | .travel => 1
  | .reverse => 2
  | .creep => 3

/-- The code of a Stop's reason (section 12.6). -/
def StopReason.code : StopReason → Nat
  | .cancel => 0
  | .hazard => 1
  | .fault => 2
  | .lost => 3

/-- A frame as it is sent on TXD (section 12.6). -/
def DriveFrame.bytes : DriveFrame → List Byte
  | .grant id kind amount cap =>
    linkFrame 0x11 ([byte id, byte kind.code] ++ signedBytes4 amount ++ leBytes 2 cap)
  | .trimAmount id amount => linkFrame 0x12 ([byte id, 0] ++ signedBytes4 amount)
  | .trimNudge id turn => linkFrame 0x12 ([byte id, 1] ++ signedBytes4 turn)
  | .stop id reason => linkFrame 0x13 [byte id, byte reason.code]

/-- The drive states (R118). -/
inductive DriveState where
  | idle | moving | holding | done | stalled
  deriving DecidableEq, Repr

/-- The code of a drive state (section 12.6). -/
def DriveState.code : DriveState → Nat
  | .idle => 0
  | .moving => 1
  | .holding => 2
  | .done => 3
  | .stalled => 4

/-- The drive state of a code; a code above 4 is none (R118, R191). -/
def DriveState.ofCode : Nat → Option DriveState
  | 0 => some .idle
  | 1 => some .moving
  | 2 => some .holding
  | 3 => some .done
  | 4 => some .stalled
  | _ => none

/-- The fields of an accepted report (section 2.2). -/
structure Report where
  seq     : Byte
  restart : Bool
  left    : Half
  right   : Half
  yaw     : Half
  drive   : DriveState
  echo    : Byte
  battery : Byte
  deriving DecidableEq, Repr

/-- The body of a report (section 12.6). -/
def Report.body (r : Report) : List Byte :=
  [r.seq, flagByte r.restart] ++ halfBytes r.left ++ halfBytes r.right ++ halfBytes r.yaw ++
  [byte r.drive.code, r.echo, r.battery]

/-- The frame of a report, 15 bytes. -/
def Report.frame (r : Report) : List Byte := linkFrame 0x01 r.body

/-- The report of a body, when its drive state is one of the five (R118); flag bits other than bit 0 are
ignored (R191). -/
def reportOfBody : List Byte → Option Report
  | [seq, flags, l0, l1, r0, r1, y0, y1, st, echo, bat] =>
    (DriveState.ofCode st.toNat).map fun d =>
      { seq := seq, restart := flags.getLsbD 0, left := half l0 l1, right := half r0 r1, yaw := half y0 y1,
        drive := d, echo := echo, battery := bat }
  | _ => none

/-- How the bytes that begin at a sync byte stand (R117, R118). -/
inductive RxJudge where
  | bad
  | partly
  | whole (r : Report)
  deriving DecidableEq, Repr

/-- Judges the bytes after a sync byte: the kind, the length, then the CRC and the drive state once the
frame is there (R117, R118). -/
def judgeFrame (bs : List Byte) : RxJudge :=
  match bs with
  | [] => .partly
  | [k] => if k = 0x01 then .partly else .bad
  | k :: n :: rest =>
    if k ≠ 0x01 then .bad
    else if n ≠ 11 then .bad
    else if rest.length < 12 then .partly
    else if rest[11]? = some (crc8 (k :: n :: rest.take 11)) then
      match reportOfBody (rest.take 11) with
      | some r => .whole r
      | none => .bad
    else .bad

/-- Hunting (R117): bytes before a sync byte are dropped, and a frame that must be discarded is, the hunt
going on at the byte after its sync byte. What is left is empty or begins with a sync byte whose frame is
part received or whole. -/
def huntFrame : List Byte → List Byte
  | [] => []
  | b :: bs =>
    if b = 0xC3 then
      match judgeFrame bs with
      | .bad => huntFrame bs
      | _ => b :: bs
    else huntFrame bs

/-- The report at the front of the receiver, with the bytes after its CRC. -/
def takeFrame : List Byte → Option (Report × List Byte)
  | [] => none
  | _ :: bs =>
    match judgeFrame bs with
    | .whole r => some (r, bs.drop 14)
    | _ => none

end Sys2Proof.Machine
end

