-- ==== Sys2Proof/Machine/Flags.lean ====
section
/-! DEFINITION. Flags.lean: the causes of the Event Unit, their request flags and notice enables, and the
pins ATTN and RDY, which follow other state (chapters 9 and 10). -/

namespace Sys2Proof.Machine
open Sys2Proof

/-- The sixteen causes (R174). -/
inductive Cause where
  | segmentDone | listDone | routeHalted | hazardTrip | slip | driveSilent | driveBack | docked
  | undocked | changesWaiting | changeLost | batteryLow | fillDone | burnDone | woke | edgeClamp
  deriving DecidableEq, Repr

/-- A cause's number (R174). -/
def Cause.number : Cause → Nat
  | .segmentDone => 0
  | .listDone => 1
  | .routeHalted => 2
  | .hazardTrip => 3
  | .slip => 4
  | .driveSilent => 5
  | .driveBack => 6
  | .docked => 7
  | .undocked => 8
  | .changesWaiting => 9
  | .changeLost => 10
  | .batteryLow => 11
  | .fillDone => 12
  | .burnDone => 13
  | .woke => 14
  | .edgeClamp => 15

/-- A cause as a set of one. -/
def Cause.bit (c : Cause) : Half := 1#16 <<< c.number

/-- Raising a cause sets its flag, which stays set when it was (R174). -/
def EventUnit.raise (c : Cause) (eu : EventUnit) : EventUnit := { eu with flags := eu.flags ||| c.bit }

/-- Whether a cause's request flag is set. -/
def EventUnit.flagged (eu : EventUnit) (c : Cause) : Bool := eu.flags.getLsbD c.number

/-- Whether a cause's notice enable is set. -/
def EventUnit.enabled (eu : EventUnit) (c : Cause) : Bool := eu.enables.getLsbD c.number

/-- Raising a cause, in the motion blocks. -/
def Motion.raise (c : Cause) (m : Motion) : Motion := { m with eu := m.eu.raise c }

/-- The asserting set, the causes with flag and enable both set (R176). -/
def EventUnit.asserting (eu : EventUnit) : Half := eu.flags &&& eu.enables

/-- The pin ATTN: asserted exactly when a cause has its flag and its enable set (R175). -/
def EventUnit.attn (eu : EventUnit) : Bool := eu.asserting ≠ 0

/-- The pin RDY: high exactly while the slot holds a response (R167). -/
def PlannerPort.rdy (pp : PlannerPort) : Bool := pp.slot.isSome

/-- The lowest cause of a set that is not empty, by its number (R177). -/
def lowestCause (w : Half) : Nat := ((List.range 16).find? fun n => w.getLsbD n).getD 0

end Sys2Proof.Machine
end

