-- ==== Sys2Proof/Machine/Clearance.lean ====
section
/-! DEFINITION. Clearance.lean: the Clearance Unit (chapter 3): what a check takes at its beginning, its
samples, the blocking table, the start-overlap set, the result record, the corridor record, the trigger
test and the re-check. -/

namespace Sys2Proof.Machine
open Sys2Proof

/-! ## Paths and samples -/

/-- A heading-form or target-form path worked out: end point, direction pair, divisor and length (R51). -/
structure PathGeometry where
  ex      : Int
  ey      : Int
  dirX    : Int
  dirY    : Int
  divisor : Nat
  len     : Nat
  deriving DecidableEq, Repr

/-- A path from S along a direction pair for a length in µm (R51, R62). -/
def pathAlong (sx sy dirX dirY : Int) (divisor len : Nat) : PathGeometry :=
  { ex := sx + rhaz (dirX * len) divisor, ey := sy + rhaz (dirY * len) divisor, dirX := dirX, dirY := dirY,
    divisor := divisor, len := len }

/-- The heading a heading-form path takes (R50). -/
def HeadingRef.value (theta : Nat) : HeadingRef → Nat
  | .fixed h => h
  | .facing => theta
  | .reversed => wrapHeading (theta + 32768)

/-- The path of a check from S (R50, R51). -/
def CheckPath.geometry (sx sy : Int) (theta : Nat) : CheckPath → PathGeometry
  | .target x y =>
    { ex := x, ey := y, dirX := x - sx, dirY := y - sy, divisor := distance sx sy x y,
      len := distance sx sy x y }
  | .heading h len => pathAlong sx sy (cosT (h.value theta)) (sinV (h.value theta)) 16384 len
  | .spot => { ex := sx, ey := sy, dirX := 0, dirY := 0, divisor := 1, len := 0 }

/-- The index of the last sample, n = ceil(L / 25,000) (R51). -/
def lastSample (len : Nat) : Nat := ceilDiv len Config.sampleStep

/-- Sample i of a path of length `len` from S (R51). -/
def samplePoint (sx sy ex ey dirX dirY : Int) (divisor len i : Nat) : Int × Int :=
  if i = 0 then (sx, sy)
  else if lastSample len ≤ i then (ex, ey)
  else (sx + rhaz (dirX * (i * Config.sampleStep : Nat)) divisor,
        sy + rhaz (dirY * (i * Config.sampleStep : Nat)) divisor)

/-- Sample i of a check. -/
def Sampling.point (sp : Sampling) (i : Nat) : Int × Int :=
  samplePoint sp.sx sp.sy sp.ex sp.ey sp.dirX sp.dirY sp.divisor sp.len i

/-! ## Cells and discs (R52) -/

/-- The centre of a cell along one axis, also for an index outside 0..255. -/
def cellCentre (i : Int) : Int := i * 50000 + 25000

/-- The square of the distance from a point to a cell's centre. -/
def cellDist2 (px py : Int) (c : Int × Int) : Nat := dist2 px py (cellCentre c.1) (cellCentre c.2)

/-- Whether a cell lies in the disc of a radius in mm about a point (R52). -/
def inDisc (px py : Int) (r : Nat) (c : Int × Int) : Bool := cellDist2 px py c ≤ (r * 1000) ^ 2

/-- The indices from lo to hi. -/
def indexRange (lo hi : Int) : List Int := (List.range (hi - lo + 1).toNat).map fun (k : Nat) => lo + k

/-- The cells in a disc, by rising row and in a row by rising column. -/
def discCells (px py : Int) (r : Nat) : List (Int × Int) :=
  let reach : Int := (r * 1000 : Nat)
  (indexRange ((py - reach) / 50000) ((py + reach) / 50000)).flatMap fun cy =>
    ((indexRange ((px - reach) / 50000) ((px + reach) / 50000)).map fun cx => (cx, cy)).filter
      (inDisc px py r)

/-- A cell as a check sees it: its class and confidence, with Obstacle 7 outside the map (R52). -/
def FloorMap.seen (fm : FloorMap) (c : Int × Int) : CellClass × Nat :=
  if 0 ≤ c.1 ∧ c.1 ≤ 255 ∧ 0 ≤ c.2 ∧ c.2 ≤ 255 then
    ((fm.cellAt { cx := c.1.toNat, cy := c.2.toNat }).cls,
     (fm.cellAt { cx := c.1.toNat, cy := c.2.toNat }).conf.toNat)
  else (.obstacle, 7)

/-- The disc within which a cell blocks in a column, as a radius in mm: the table of R53, and R58 for the
Rotate column. None when the cell passes. -/
def blockRadius (column : Column) (allowUnknown avoidRug : Bool) (obstacleFloor rh rc body : Nat)
    (cls : CellClass) (conf : Nat) : Option Nat :=
  match column, cls with
  | .rotate, .cliff => some body
  | .rotate, _ => none
  | _, .cliff => some rc
  | _, .obstacle => if obstacleFloor ≤ conf then some rh else none
  | _, .keepOut => some rh
  | .line, .dock => some rh
  | .line, .unknown => if allowUnknown then none else some rh
  | .line, .rug => if avoidRug then some rh else none
  | _, _ => none

/-- Whether a cell blocks at a point under R53 or R58. -/
def Check.blocksAt (req : CheckReq) (sp : Sampling) (fm : FloorMap) (p : Int × Int) (c : Int × Int) : Bool :=
  match blockRadius req.column req.allowUnknown req.avoidRug sp.obstacleFloor sp.rh sp.rc sp.body
      (fm.seen c).1 (fm.seen c).2 with
  | some r => inDisc p.1 p.2 r c
  | none => false

/-- The cell of a list nearest to a point, the first of equals (R55). -/
def nearestCell (p : Int × Int) : List (Int × Int) → Option (Int × Int)
  | [] => none
  | c :: cs =>
    match nearestCell p cs with
    | none => some c
    | some d => if cellDist2 p.1 p.2 d < cellDist2 p.1 p.2 c then some d else some c

/-! ## Beginning and sampling -/

/-- What a check takes on beginning to sample (R50 to R52). -/
def beginCheck (env : Env) (m : Motion) (req : CheckReq) : Sampling :=
  let g := req.path.geometry m.pu.x m.pu.y m.pu.theta
  let rh := env.cal.robotRadius + ceilDiv m.pu.u 1000
  { sx := m.pu.x, sy := m.pu.y, ex := g.ex, ey := g.ey, dirX := g.dirX, dirY := g.dirY,
    divisor := g.divisor, len := g.len, rh := rh, rm := rh + env.tun.margin, rc := rh + env.tun.cliffBand,
    body := env.cal.robotRadius,
    outer := if req.column = .rotate then env.cal.robotRadius else rh + env.tun.cliffBand + env.tun.margin,
    obstacleFloor := env.tun.obstacleFloor, rugSpeed := env.tun.rugSpeed,
    unknownSpeed := env.tun.unknownSpeed, nearSpeed := env.tun.nearSpeed, cliffSpeed := env.tun.cliffSpeed,
    doneAtStart := 0, next := 0, overlap := [], cap := req.speed, unknownSeen := false, blocked := none }

/-- The amount still to be done under a corridor's grant (R62). -/
def Corridor.remaining (c : Corridor) (done : Int) : Nat := (c.amount - done).toNat

/-- What a re-check takes on beginning to sample (R64). -/
def beginRecheck (m : Motion) (c : Corridor) : Sampling :=
  let g := pathAlong m.pu.x m.pu.y c.dirX c.dirY c.divisor (c.remaining m.re.amountDone)
  { sx := m.pu.x, sy := m.pu.y, ex := g.ex, ey := g.ey, dirX := g.dirX, dirY := g.dirY,
    divisor := g.divisor, len := g.len, rh := c.rh, rm := c.rm, rc := c.rc, body := 0,
    outer := c.rc + (c.rm - c.rh), obstacleFloor := c.obstacleFloor, rugSpeed := 0, unknownSpeed := 0,
    nearSpeed := 0, cliffSpeed := 0, doneAtStart := m.re.amountDone, next := 0, overlap := [], cap := 0,
    unknownSeen := false, blocked := none }

/-- A check begins sampling; a re-check needs its corridor record, which stands while it is held. -/
def Check.start (env : Env) (m : Motion) (req : CheckReq) : Check :=
  match req.owner, m.cu.corridor with
  | .recheck _, some c => { req := req, run := some (beginRecheck m c) }
  | .recheck _, none => { req := req, run := none }
  | .engine, _ => { req := req, run := some (beginCheck env m req) }

/-- A check is asked for (R59): it begins at once in NONE with no fill or WRITE CELLS in the way, and is
held in WAITING, behind those already held, otherwise. -/
def askCheck (env : Env) (req : CheckReq) (m : Motion) : Motion :=
  if m.cu.checks = [] ∧ env.mapBusy = false then
    { m with cu := { m.cu with checks := [Check.start env m req] } }
  else { m with cu := { m.cu with checks := m.cu.checks ++ [{ req := req, run := none }] } }

/-- The held check, when it waits and nothing is ahead of it, begins sampling (R59). -/
def beginWaiting (env : Env) (m : Motion) : Motion :=
  match m.cu.checks with
  | { req := req, run := none } :: rest =>
    if env.mapBusy then m
    else { m with cu := { m.cu with checks := Check.start env m req :: rest } }
  | _ => m

/-- The speed cap after one more sample (R56); a re-check works none out (R64). -/
def capAt (req : CheckReq) (sp : Sampling) (fm : FloorMap) (p : Int × Int) (cells : List (Int × Int)) : Nat :=
  let has := fun (r : Nat) (q : CellClass → Bool) => cells.any fun c => q (fm.seen c).1 && inDisc p.1 p.2 r c
  let low := fun (b : Bool) (v cap : Nat) => if b then min v cap else cap
  if req.column = .rotate then sp.cap
  else
    low (has sp.rh (· = .rug)) sp.rugSpeed <|
    low (has sp.rh (· = .unknown)) sp.unknownSpeed <|
    low (has sp.rm fun k => k = .obstacle || k = .keepOut) sp.nearSpeed <|
    low (has sp.outer (· = .cliff)) sp.cliffSpeed sp.cap

/-- Whether the UnknownSpeed row of R56 holds at a sample. -/
def unknownAt (req : CheckReq) (sp : Sampling) (fm : FloorMap) (p : Int × Int) (cells : List (Int × Int)) : Bool :=
  req.column ≠ .rotate && cells.any fun c => (fm.seen c).1 = .unknown && inDisc p.1 p.2 sp.rh c

/-- The cells that block at a sample, given those that block there under R53 or R58: at P_0 none but for a
Rotate check, and a cell of the start-overlap set only when it is nearer than from S (R54). -/
def Sampling.stillBlocking (sp : Sampling) (column : Column) (i : Nat) (p : Int × Int)
    (blk : List (Int × Int)) : List (Int × Int) :=
  if column = .rotate then blk
  else if i = 0 then []
  else blk.filter fun c =>
    !sp.overlap.contains c || cellDist2 p.1 p.2 c < cellDist2 sp.sx sp.sy c

/-- One sample examined whole (R53 to R56, R58). -/
def Sampling.examine (req : CheckReq) (fm : FloorMap) (sp : Sampling) : Sampling :=
  let p := sp.point sp.next
  let cells := discCells p.1 p.2 sp.outer
  let blk := cells.filter (Check.blocksAt req sp fm p)
  let still := sp.stillBlocking req.column sp.next p blk
  { sp with
    next := sp.next + 1
    overlap := if sp.next = 0 ∧ req.column ≠ .rotate then blk else sp.overlap
    cap := capAt req sp fm p cells
    unknownSeen := sp.unknownSeen || unknownAt req sp fm p cells
    blocked := (nearestCell p still).map fun c =>
      (sp.next, { cx := c.1, cy := c.2, cls := (fm.seen c).1 }) }

/-- A check has examined its last sample: the first blocked one, or P_n. -/
def Sampling.finished (sp : Sampling) : Bool := sp.blocked.isSome || lastSample sp.len < sp.next

/-- The sampling check examines its next sample (R59). -/
def sampleHeld (fm : FloorMap) (m : Motion) : Motion :=
  match m.cu.checks with
  | { req := req, run := some sp } :: rest =>
    if sp.finished then m
    else { m with cu := { m.cu with checks := { req := req, run := some (sp.examine req fm) } :: rest } }
  | _ => m

/-! ## Results -/

/-- The clear distance D in µm (R55). -/
def Sampling.clear (sp : Sampling) : Nat :=
  match sp.blocked with
  | some (b, _) => (b - 1) * Config.sampleStep
  | none => sp.len

/-- The result record (R57), with the path and flags the corridor record takes (R62). -/
structure CheckResult where
  d           : Nat
  blocked     : Option (Nat × BlockCell)
  cap         : Nat
  unknownSeen : Bool
  column       : Column
  allowUnknown : Bool
  avoidRug     : Bool
  dirX        : Int
  dirY        : Int
  divisor     : Nat
  rh          : Nat
  rm          : Nat
  rc          : Nat
  obstacleFloor : Nat
  deriving DecidableEq, Repr

/-- The result of a finished check. -/
def Sampling.result (req : CheckReq) (sp : Sampling) : CheckResult :=
  { d := sp.clear, blocked := sp.blocked, cap := sp.cap, unknownSeen := sp.unknownSeen,
    column := req.column, allowUnknown := req.allowUnknown, avoidRug := req.avoidRug, dirX := sp.dirX,
    dirY := sp.dirY, divisor := sp.divisor, rh := sp.rh, rm := sp.rm, rc := sp.rc,
    obstacleFloor := sp.obstacleFloor }

/-- An index held to 0..255 (R81). -/
def holdIndex (i : Int) : Nat := min 255 i.toNat

/-- A check's first blocking cell as a descriptor writes it (R81). -/
def BlockCell.held (c : BlockCell) : CellIx := { cx := holdIndex c.cx, cy := holdIndex c.cy }

/-- The first blocking cell of a result, as a descriptor writes it. -/
def CheckResult.cell (r : CheckResult) : Option CellIx := r.blocked.map fun b => b.2.held

/-- The corridor record of a grant issued on a result (R62), before the grant has its id. -/
def CheckResult.corridor (r : CheckResult) (amount : Int) : Corridor :=
  { grant := 0, column := r.column, allowUnknown := r.allowUnknown, avoidRug := r.avoidRug, dirX := r.dirX,
    dirY := r.dirY, divisor := r.divisor, rh := r.rh, rm := r.rm, rc := r.rc,
    obstacleFloor := r.obstacleFloor, amount := amount }

/-! ## Abandoning (R61, R64) -/

/-- Whether the Route Engine or the Dock Unit asked for a check. -/
def Check.ofEngine (c : Check) : Bool :=
  match c.req.owner with
  | .engine => true
  | .recheck _ => false

/-- The Route Engine or the Dock Unit withdraws its check (R61). -/
def withdrawCheck (m : Motion) : Motion :=
  { m with cu := { m.cu with checks := m.cu.checks.filter fun c => !c.ofEngine } }

/-- The corridor record is dropped, and with it a re-check of its grant (R62, R64). -/
def dropCorridor (m : Motion) : Motion :=
  { m with cu := { checks := m.cu.checks.filter Check.ofEngine, corridor := none } }

/-! ## Map changes (R60, R63) -/

/-- Whether a cell lies in the outer disc of a sample already examined. -/
def Sampling.reached (sp : Sampling) (c : Int × Int) : Bool :=
  (List.range sp.next).any fun i => inDisc (sp.point i).1 (sp.point i).2 sp.outer c

/-- A check returns to P_0 with the same S, θ, U and fields (R60). -/
def Sampling.restart (req : CheckReq) (sp : Sampling) : Sampling :=
  { sp with next := 0, overlap := [], cap := req.speed, unknownSeen := false, blocked := none }

/-- A map change reaches the sampling check (R60). -/
def restartReached (c : CellIx) (m : Motion) : Motion :=
  match m.cu.checks with
  | { req := req, run := some sp } :: rest =>
    if sp.reached ((c.cx : Int), (c.cy : Int)) then
      { m with cu := { m.cu with checks := { req := req, run := some (sp.restart req) } :: rest } }
    else m
  | _ => m

/-- The trigger test (R63): whether the cell's new record blocks in the corridor's column and its centre
lies within the relevant radius of a sample of the remaining path. -/
def triggers (m : Motion) (cor : Corridor) (c : CellIx) (new : CellRec) : Bool :=
  match blockRadius cor.column cor.allowUnknown cor.avoidRug cor.obstacleFloor cor.rh cor.rc 0 new.cls
      new.conf.toNat with
  | none => false
  | some r =>
    let len := cor.remaining m.re.amountDone
    let g := pathAlong m.pu.x m.pu.y cor.dirX cor.dirY cor.divisor len
    (List.range (lastSample len + 1)).any fun i =>
      let p := samplePoint m.pu.x m.pu.y g.ex g.ey g.dirX g.dirY g.divisor len i
      inDisc p.1 p.2 r ((c.cx : Int), (c.cy : Int))

/-- What a re-check is asked with (R64): the corridor record gives the rest when it begins. -/
def recheckReq (cor : Corridor) : CheckReq :=
  { owner := .recheck cor.grant, path := .spot, column := cor.column, allowUnknown := cor.allowUnknown,
    avoidRug := cor.avoidRug, speed := 0 }

/-- The trigger test on a map change, and the re-check it asks for unless one is already held for the
grant (R63, R64). -/
def askRecheck (env : Env) (c : CellIx) (new : CellRec) (m : Motion) : Motion :=
  match m.cu.corridor with
  | none => m
  | some cor =>
    if triggers m cor c new && !(m.cu.checks.any fun k => k.req.owner = .recheck cor.grant) then
      askCheck env (recheckReq cor) m
    else m

/-- The Clearance Unit takes a map change (R3, R60, R63). -/
def takeMapChange (env : Env) (c : CellIx) (new : CellRec) (m : Motion) : Motion :=
  askRecheck env c new (restartReached c m)

end Sys2Proof.Machine
end

