-- ==== Sys2Proof/Machine/Drive.lean ====
section
/-! DEFINITION. Drive.lean: the Drive Port's transmitter, its grant record and the Grant, Trim and Stop it
makes when another block asks (sections 6.3 and 6.4). -/

namespace Sys2Proof.Machine
open Sys2Proof

/-- A frame is made: sent when the transmitter is idle, kept in order behind the others when not (R120). -/
def makeFrame (f : DriveFrame) (m : Motion) : Motion :=
  match m.dp.txNow with
  | none => { m with dp := { m.dp with txNow := some f } }
  | some _ => { m with dp := { m.dp with txQueue := m.dp.txQueue ++ [f] } }

/-- The frame being sent ends and the next waiting one begins (R120). -/
def nextFrame (m : Motion) : Motion :=
  match m.dp.txQueue with
  | [] => { m with dp := { m.dp with txNow := none } }
  | f :: fs => { m with dp := { m.dp with txNow := some f, txQueue := fs } }

/-- Whether a frame is a Trim of a grant. -/
def DriveFrame.trims (id : Nat) : DriveFrame → Bool
  | .trimAmount g _ => g = id
  | .trimNudge g _ => g = id
  | .grant _ _ _ _ => false
  | .stop _ _ => false

/-- The waiting Trims of the outstanding grant are removed (R120, R123). DESIGN CHOICE (assumption 45): a watch's
expiry, where R131 says "any waiting Trim", removes these and no other; a Trim of an earlier grant, one whose Done
has been taken, keeps its place. -/
def dropTrims (m : Motion) : Motion :=
  { m with dp := { m.dp with txQueue := m.dp.txQueue.filter fun f => !f.trims m.dp.grant.id } }

/-- A grant is outstanding while the record is SENT, ACTIVE or STOPPING (R124). -/
def GrantState.outstanding : GrantState → Bool
  | .none => false
  | .sent => true
  | .active => true
  | .stopping => true

/-- A grant may be trimmed or stopped while the record is SENT or ACTIVE (R122, R123). -/
def GrantState.openTo : GrantState → Bool
  | .none => false
  | .sent => true
  | .active => true
  | .stopping => false

/-- The grant record's state is set. -/
def setGrantState (st : GrantState) (m : Motion) : Motion :=
  { m with dp := { m.dp with grant := { m.dp.grant with state := st } } }

/-- The record becomes NONE and the corridor record is dropped (R62, R126, R130). -/
def endGrant (m : Motion) : Motion := dropCorridor (setGrantState .none m)

/-- A block asks for a Stop (R123): in SENT or ACTIVE the frame is made, the record becomes STOPPING with the
settle count at 0, the corridor record is dropped and a waiting Trim removed; otherwise nothing is made. -/
def askStop (reason : StopReason) (m : Motion) : Motion :=
  if m.dp.grant.state.openTo then
    let q := makeFrame (.stop m.dp.grant.id reason) (dropTrims m)
    dropCorridor { q with dp := { q.dp with grant := { q.dp.grant with state := .stopping, settle := 0 } } }
  else m

/-- The id after a grant's (R121): from 255 to 1, passing over 0. -/
def nextGrantId (id : Nat) : Nat := if id = 255 then 1 else id + 1

/-- A grant is handed over with the record NONE (R121); a Travel, Reverse or Creep comes with its corridor
record (R62), and the amount done starts at 0 (R89). -/
def sendGrant (g : ReadyGrant) (m : Motion) : Motion :=
  let id := m.dp.nextId
  let q := makeFrame (.grant id g.kind g.amount g.cap) m
  { q with
    dp := { q.dp with
      nextId := nextGrantId id
      grant := { state := .sent, id := id, kind := g.kind, amount := g.amount, cap := g.cap, miss := 0,
                 settle := 0 } }
    cu := { q.cu with corridor := g.corridor.map fun c => { c with grant := id } }
    re := { q.re with amountDone := 0 } }

/-- An Amount Trim (R122): made while the grant is SENT or ACTIVE; the record's amount and the corridor
record's follow it (R62). -/
def trimAmount (amount : Int) (m : Motion) : Motion :=
  if m.dp.grant.state.openTo then
    let q := makeFrame (.trimAmount m.dp.grant.id amount) m
    { q with
      dp := { q.dp with grant := { q.dp.grant with amount := amount } }
      cu := { q.cu with corridor := q.cu.corridor.map fun c => { c with amount := amount } } }
  else m

/-- A Nudge Trim (R122): it leaves the amount and the corridor record as they were. -/
def trimNudge (turn : Int) (m : Motion) : Motion :=
  if m.dp.grant.state.openTo then makeFrame (.trimNudge m.dp.grant.id turn) m else m

/-- The watch starts from full when the link is ONLINE and the device is RUN (R115). -/
def startWatch (env : Env) (m : Motion) : Motion :=
  if m.dp.link = .online ∧ m.eu.device = .run then
    { m with dp := { m.dp with watch := some env.tun.driveWatch } }
  else m

/-- The link enters OFFLINE or SILENT: the watch stops and the baseline status becomes Pending (R114). -/
def loseLink (st : LinkState) (m : Motion) : Motion :=
  { m with
    dp := { m.dp with link := st, watch := none }
    pu := { m.pu with base := { m.pu.base with held := false } } }

end Sys2Proof.Machine
end

