-- ==== Sys2Proof/Machine/Route.lean ====
section
/-! DEFINITION. Route.lean: the parts of the Route Engine that every kind of segment uses: tries and their
outcomes, the dwell, the checks asked for and the grants issued (sections 5.3, 5.4, 5.7 and 5.8). -/

namespace Sys2Proof.Machine
open Sys2Proof

/-- The classes of outcomes (R98). -/
inductive OutcomeClass where
  | done | hazard | fault | cancel
  deriving DecidableEq, Repr

/-- The class of an outcome (R98). -/
def SegOutcome.cls : SegOutcome → OutcomeClass
  | .arrived => .done
  | .blocked => .hazard
  | .cliffStop => .hazard
  | .bumpStop => .hazard
  | .stall => .hazard
  | .short => .hazard
  | .dockNotFound => .hazard
  | .dockLost => .hazard
  | .dockMissed => .hazard
  | .driveLost => .fault
  | .driveFault => .fault
  | .lost => .fault
  | .invalid => .fault
  | .guardInBackoff => .fault
  | .tallyFull => .fault
  | .cancelled => .cancel

/-- The outcomes that a backoff follows (R102). -/
def SegOutcome.backsOff : SegOutcome → Bool
  | .cliffStop => true
  | .bumpStop => true
  | .stall => true
  | _ => false

/-- A change to the segment in progress. -/
def Motion.updSeg (f : SegRun → SegRun) (m : Motion) : Motion :=
  { m with re := { m.re with seg := m.re.seg.map f } }

/-- The engine's next move of its own; the segment in progress waits for nothing meanwhile. -/
def Motion.setTodo (t : Todo) (m : Motion) : Motion :=
  { m with re := { m.re with todo := t, seg := m.re.seg.map fun sr => { sr with wait := .nothing } } }

/-- The progress stage rises to a stage; it never falls within a try (R88). -/
def Motion.reachStage (n : Nat) (m : Motion) : Motion :=
  { m with re := { m.re with progress := { m.re.progress with stage := max n m.re.progress.stage } } }

/-- The guard is released: the latch clears and the guard returns to ARMED; one that is ARMED or OFF stays
as it is (R147, R149). -/
def releaseGuard (m : Motion) : Motion :=
  if m.hg.state = .tripped then { m with hg := { m.hg with state := .armed } } else m

/-- Whether a Line has an alternate target. -/
def Segment.hasAlt (seg : Segment) : Bool := seg.kind = .line && seg.alt.isSome

/-- Tries a segment allows (R99). -/
def Segment.tries (seg : Segment) : Nat :=
  if seg.hasAlt then 2 * (seg.retries + 1) else seg.retries + 1

/-- Whether try number `attempt` is one at the alternate target (R99). -/
def Segment.altTry (seg : Segment) (attempt : Nat) : Bool := seg.hasAlt && seg.retries + 1 < attempt

/-- The point a try travels to: a Line's primary or alternate target (R91), a Dock segment's standoff
point (R157). -/
def SegRun.goal (sr : SegRun) (m : Motion) : Nat × Nat :=
  match sr.seg.kind, m.du.pose with
  | .dock, some d => (d.sx, d.sy)
  | _, _ =>
    if sr.seg.altTry m.re.attempt then sr.seg.alt.getD (0, 0) else (sr.seg.targetX, sr.seg.targetY)

/-- The pending outcome of a try is a fault (R98). -/
def SegRun.faulted (sr : SegRun) : Bool :=
  match sr.outcome with
  | some o => o.cls = .fault
  | none => false

/-! ## Tries and outcomes -/

/-- A retry begins (R88, R99 steps 2 to 4): the tally rises, held at 255, the retry mark is set, with the
alternate's at the first try there (assumption 20), and the dwell is waited; a dwell of 0 does not wait, so the
next try starts. The dock phase is NONE meanwhile (R154). -/
def beginRetry (sr : SegRun) (m : Motion) : Motion :=
  let firstAlt := sr.seg.hasAlt && m.re.attempt = sr.seg.retries + 1
  let q : Motion :=
    { m with
      du := { m.du with phase := .none }
      re := { m.re with
        tally := min 255 (m.re.tally + 1)
        progress := { m.re.progress with
          retryInUse := true
          altInUse := m.re.progress.altInUse || firstAlt }
        seg := some { sr with phase := .dwell, wait := .nothing, outcome := none, cell := none,
                              inBackoff := false, ready := none, dwellLeft := sr.seg.dwell } } }
  if sr.seg.dwell = 0 then
    { q with re := { q.re with attempt := q.re.attempt + 1, todo := .startTry } }
  else q

/-- A hazard outcome takes effect (R99 to R101): the guard is released; with a try left a retry begins,
unless the tally stands at 255, which records TallyFull; with none left the segment records. -/
def takeEffect (o : SegOutcome) (cell : Option CellIx) (m : Motion) : Motion :=
  match m.re.seg with
  | none => m
  | some sr =>
    let q := releaseGuard m
    if m.re.attempt < sr.seg.tries then
      if m.re.tally = 255 then q.setTodo (.record .tallyFull none) else beginRetry sr q
    else q.setTodo (.record o cell)

/-- A try ends with no grant under way (R98): Arrived reaches stage 4 and records, a hazard outcome takes
effect, a fault or cancel records. -/
def endTry (o : SegOutcome) (cell : Option CellIx) (m : Motion) : Motion :=
  match o.cls with
  | .done => (m.reachStage 4).setTodo (.record o cell)
  | .hazard => takeEffect o cell m
  | .fault => m.setTodo (.record o cell)
  | .cancel => m.setTodo (.record o cell)

/-- The engine enters SETTLE with an outcome pending (R90). A grant that was held back is given up. -/
def enterSettle (o : SegOutcome) (cell : Option CellIx) (m : Motion) : Motion :=
  m.updSeg fun sr =>
    { sr with phase := .settle, wait := .nothing, outcome := some o, cell := cell, inBackoff := false,
              ready := none }

/-! ## Checks and grants (R89) -/

/-- A check is asked for in a phase of the segment. -/
def askInPhase (env : Env) (phase : Phase) (req : CheckReq) (m : Motion) : Motion :=
  askCheck env req (m.updSeg fun sr => { sr with phase := phase, wait := .check })

/-- A check of the segment with its flags (R50). -/
def SegRun.request (sr : SegRun) (column : Column) (path : CheckPath) (speed : Nat) : CheckReq :=
  { owner := .engine, path := path, column := column, allowUnknown := sr.seg.allowUnknown,
    avoidRug := sr.seg.avoidRug, speed := speed }

/-- The Line-column check to the try's goal (R91, R157). -/
def askLine (env : Env) (phase : Phase) (sr : SegRun) (m : Motion) : Motion :=
  askInPhase env phase (sr.request .line (.target (sr.goal m).1 (sr.goal m).2) sr.seg.speed) m

/-- A Rotate-column check (R58). -/
def askRotate (env : Env) (phase : Phase) (sr : SegRun) (m : Motion) : Motion :=
  askInPhase env phase (sr.request .rotate .spot sr.seg.speed) m

/-- The Reverse-column check of a Reverse piece: along the heading fixed at VET, for the distance left and
StopMargin (R97). -/
def askReverse (env : Env) (sr : SegRun) (m : Motion) : Motion :=
  askInPhase env .reverse
    (sr.request .reverse (.heading (.fixed sr.revHeading) (sr.distLeft + env.tun.stopMargin * 1000))
      sr.seg.speed) m

/-- A ready grant goes out (R89): sent when the record is NONE, held when it is not, and with the link not
ONLINE the segment's outcome becomes DriveLost. -/
def issueGrant (g : ReadyGrant) (m : Motion) : Motion :=
  if m.dp.link ≠ .online then m.setTodo (.record .driveLost none)
  else if m.dp.grant.state = .none then
    (sendGrant g m).updSeg fun sr => { sr with wait := .grant, pieceCut := false, ready := none }
  else m.updSeg fun sr => { sr with wait := .held, pieceCut := false, ready := some g }

/-- A held grant is released once the record is NONE (R89). -/
def releaseHeld (m : Motion) : Motion :=
  match m.re.seg with
  | some sr =>
    match sr.wait, sr.ready with
    | .held, some g => if m.dp.grant.state = .none then issueGrant g m else m
    | _, _ => m
  | none => m

/-- A Travel, Reverse or Creep grant on a check's result, with the check's cap and corridor (R89, R62). -/
def pieceGrant (kind : GrantKind) (amount : Int) (res : CheckResult) : ReadyGrant :=
  { kind := kind, amount := amount, cap := res.cap, corridor := some (res.corridor amount) }

/-- A Rotate grant on a check's result; it has no corridor record (R62). -/
def rotateGrant (turn : Int) (res : CheckResult) : ReadyGrant :=
  { kind := .rotate, amount := turn, cap := res.cap, corridor := none }

/-- The allowance of a check, D − StopMargin × 1000 (R65, R91). -/
def allowance (env : Env) (res : CheckResult) : Int := (res.d : Int) - (env.tun.stopMargin * 1000 : Nat)

/-- PieceLength in µm. -/
def pieceMax (env : Env) : Int := (env.tun.pieceLength * 1000 : Nat)

/-- An amount too small to grant, MinPiece or less (R91, R93, R97). -/
def tooSmall (env : Env) (a : Int) : Bool := a ≤ (env.tun.minPiece * 1000 : Nat)

end Sys2Proof.Machine
end

