-- ==== Sys2Proof/Machine/Dock.lean ====
section
/-! DEFINITION. Dock.lean: the Dock Unit's phases of a Dock segment (chapter 8): the beacon judgements,
SEEK, CLOSE, MATE, and DOCKED with its snap. APPROACH is run as a Line's travel and turn. -/

namespace Sys2Proof.Machine
open Sys2Proof

/-- The beam pattern of a judgement (R156). -/
def beamPattern (b : Beacon) : Pattern :=
  if b.centre then .centre
  else if b.left && b.right then .split
  else if b.left then .left
  else if b.right then .right
  else .dark

/-- A dock phase is entered (R154). -/
def setDockPhase (p : DockPhase) (m : Motion) : Motion := { m with du := { m.du with phase := p } }

/-! ## DOCKED (R162) -/

/-- The dock snap: the pose takes the Dock Pose and U takes DockUncertainty (R48). -/
def dockSnap (env : Env) (m : Motion) : Motion :=
  match m.du.pose with
  | none => m
  | some d =>
    { m with pu := { m.pu with x := d.x, y := d.y, theta := d.theta, u := env.tun.dockUncertainty,
                               centre := cellOf d.x d.y, slip := 0 } }

/-- The grant record has reached NONE in DOCKED (R162): the snap, then the Lost comparison; when it hands no
Lost indication, the docked mark, Docked, and the record of Arrived. -/
def finishDocked (env : Env) (m : Motion) : Motion :=
  let q := dockSnap env m
  if env.tun.lostLimit ≤ q.pu.u then q.setTodo (.record .lost none)
  else (({ q with du := { q.du with docked := true } } : Motion).raise .docked).setTodo (.record .arrived none)

/-- A Dock segment enters DOCKED (R162). -/
def enterDocked (env : Env) (m : Motion) : Motion :=
  let q := (setDockPhase .docked (askStop .cancel (withdrawCheck (m.reachStage 4)))).updSeg fun sr =>
    { sr with phase := .docked, wait := .nothing, outcome := none, cell := none, ready := none }
  if q.dp.grant.state = .none then finishDocked env q else q

/-! ## SEEK, CLOSE and MATE -/

/-- A CLOSE piece begins (R159): its check runs along θ for 100 mm and StopMargin. -/
def beginClose (env : Env) (sr : SegRun) (m : Motion) : Motion :=
  askInPhase env .close
    (sr.request .dockClose (.heading .facing ((100 + env.tun.stopMargin) * 1000))
      (min sr.seg.speed (env.tun.mateSpeed * 2)))
    { m with du := { m.du with phase := .close, beamSeen := false, lastPattern := none } }

/-- MATE begins (R161): its check runs along θ for MateLimit and StopMargin. -/
def beginMate (env : Env) (sr : SegRun) (m : Motion) : Motion :=
  askInPhase env .mate
    (sr.request .dockClose (.heading .facing ((env.tun.mateLimit + env.tun.stopMargin) * 1000))
      (min sr.seg.speed env.tun.mateSpeed))
    (setDockPhase .mate m)

/-- A SEEK judgement (R158): on entering SEEK and after each step's Done. -/
def judgeSeek (env : Env) (sr : SegRun) (m : Motion) : Motion :=
  let q := setDockPhase .seek m
  if beamPattern q.du.beacon = .centre then beginClose env sr q
  else if q.du.seekTurn < 65536 then askRotate env .seek sr q
  else endTry .dockNotFound none q

/-- The check of a SEEK step hands its result (R158). -/
def seekResult (env : Env) (res : CheckResult) (m : Motion) : Motion :=
  if res.blocked.isSome then endTry .blocked res.cell m
  else
    issueGrant (rotateGrant env.tun.seekStep res)
      { m with du := { m.du with seekTurn := m.du.seekTurn + env.tun.seekStep } }

/-- A Creep's amount a on a check, from its full length in µm (R159, R161). -/
def creepAmount (env : Env) (full : Nat) (res : CheckResult) : Int :=
  min (full : Int) (min (allowance env res) (pieceMax env))

/-- A Creep is issued, or the try ends Blocked when its amount is too small (R159, R161). The piece counts as
limited when the check, and neither the length nor PieceLength, bounded it; an equal one did (DESIGN CHOICE,
assumption 36). -/
def issueCreep (env : Env) (full : Nat) (res : CheckResult) (m : Motion) : Motion :=
  let a := creepAmount env full res
  if tooSmall env a then endTry .blocked res.cell m
  else
    issueGrant (pieceGrant .creep a res)
      (m.updSeg fun sr =>
        { sr with pieceLimited := allowance env res < min (full : Int) (pieceMax env), pieceCell := res.cell })

/-- A judgement of the beacon lines under an ACTIVE CLOSE Creep, with the nudge it may ask for (R159). -/
def judgeClose (env : Env) (m : Motion) : Motion :=
  let p := beamPattern m.du.beacon
  let q : Motion :=
    { m with du := { m.du with beamSeen := m.du.beamSeen || p ≠ .dark, lastPattern := some p } }
  if m.du.lastPattern = some p ∨ env.tun.nudgeStep = 0 then q
  else
    match p with
    | .left => trimNudge env.tun.nudgeStep q
    | .right => trimNudge (-env.tun.nudgeStep) q
    | _ => q

/-- Twice DockStandoff in µm (R160). -/
def closeLimit (m : Motion) : Nat :=
  match m.du.pose with
  | some d => 2 * d.standoff * 1000
  | none => 0

/-- A CLOSE piece's Done (R160). -/
def closeDone (env : Env) (sr : SegRun) (m : Motion) : Motion :=
  let seen := m.du.beamSeen || beamPattern m.du.beacon ≠ .dark
  let travel := m.du.closeTravel + m.re.amountDone.toNat
  let q : Motion := { m with du := { m.du with beamSeen := seen, closeTravel := travel } }
  if m.du.beacon.near then beginMate env sr q
  else if seen ∧ travel ≤ closeLimit m then
    beginClose env sr { q with du := { q.du with lossCount := 0 } }
  else if seen = false ∧ m.du.lossCount + 1 < 3 then
    beginClose env sr { q with du := { q.du with lossCount := m.du.lossCount + 1 } }
  else if m.du.losses = 0 then
    judgeSeek env sr
      { q with du := { q.du with losses := 1, lossCount := 0, closeTravel := 0, seekTurn := 0 } }
  else
    endTry .dockLost none
      { q with du := { q.du with lossCount := if seen then m.du.lossCount else m.du.lossCount + 1 } }

/-- A MATE Creep's Done (R161). With the contact already On the segment enters DOCKED instead (R162). -/
def mateDone (env : Env) (sr : SegRun) (m : Motion) : Motion :=
  if m.du.contact then enterDocked env m
  else if sr.pieceLimited || sr.pieceCut then endTry .blocked sr.pieceCell m
  else endTry .dockMissed none m

/-- A try of a Dock segment begins (R157): the counters return to 0; on the contacts it enters DOCKED at
once, otherwise APPROACH begins with its first check. -/
def beginDock (env : Env) (sr : SegRun) (m : Motion) : Motion :=
  let q : Motion :=
    { m with du := { m.du with seekTurn := 0, lossCount := 0, losses := 0, closeTravel := 0 } }
  if m.du.contact then enterDocked env q else askLine env .vet sr (setDockPhase .approach q)

end Sys2Proof.Machine
end

