-- ==== Sys2Proof/Machine/Engine.lean ====
section
/-! DEFINITION. Engine.lean: the Route Engine (chapter 5): the pieces of each kind of segment, what each
event does to the segment in progress, recording, the lists and passes, halting, stopping and posting. -/

namespace Sys2Proof.Machine
open Sys2Proof

/-! ## Rotate pieces (R92) -/

/-- A Rotate piece's check is asked for, its wanted heading and turn taken from the pose (R92). -/
def beginRotate (env : Env) (phase : Phase) (wanted : Nat) (sr : SegRun) (m : Motion) : Motion :=
  askRotate env phase sr
    (m.updSeg fun r => { r with rotWanted := wanted, rotTurn := turnTo m.pu.theta wanted, rotCorr := 0 })

/-- A TURN, or a Rotate segment's ROTATE, ends as reached: a Dock segment goes on to SEEK (R157), any other
try has reached its target (R95, R96). -/
def turnReached (env : Env) (sr : SegRun) (m : Motion) : Motion :=
  match sr.seg.kind with
  | .dock => judgeSeek env sr m
  | _ => endTry .arrived none m

/-- Whether a turn lies within AlignTolerance (R92). -/
def aligned (env : Env) (turn : Int) : Bool := turn.natAbs ≤ env.tun.alignTolerance

/-- A TURN or ROTATE begins: at once reached, or a Rotate piece (R92). -/
def beginTurn (env : Env) (phase : Phase) (wanted : Nat) (sr : SegRun) (m : Motion) : Motion :=
  if aligned env (turnTo m.pu.theta wanted) then turnReached env sr m
  else beginRotate env phase wanted sr m

/-! ## Line travel (R91, R93 to R95, R157) -/

/-- TRAVEL ends as reached (R95): the end heading follows, θd for a Dock segment (R157). -/
def travelReached (env : Env) (sr : SegRun) (m : Motion) : Motion :=
  match sr.seg.kind, m.du.pose, sr.seg.heading with
  | .dock, some d, _ => beginTurn env .turn d.theta sr m
  | .dock, none, _ => judgeSeek env sr m
  | _, _, some h => beginTurn env .turn h sr m
  | _, _, none => endTry .arrived none m

/-- A Travel grant is issued for a piece (R93). The segment is in TRAVEL with it, also on the check that VET made,
so that its Done comes back to the loop (R94). -/
def issueTravel (a : Int) (full : Bool) (res : CheckResult) (m : Motion) : Motion :=
  issueGrant (pieceGrant .travel a res) (m.updSeg fun sr => { sr with phase := .travel, pieceFull := full })

/-- Steps 4 and 5 of the loop (R93), with the limit of two corrections (R94). DEDUCED (assumption 9): with
a clear corridor r is the clear distance D of the check. -/
def judgeTravel (env : Env) (sr : SegRun) (res : CheckResult) (m : Motion) : Motion :=
  let a := min (allowance env res) (pieceMax env)
  if res.blocked.isSome then
    if tooSmall env a then endTry .blocked res.cell m else issueTravel a false res m
  else if res.d ≤ (env.tun.stopMargin + env.tun.arriveTolerance) * 1000 then travelReached env sr m
  else if tooSmall env a then endTry .short none m
  else if a = allowance env res then
    if 3 ≤ sr.fullDone then endTry .short none m else issueTravel a true res m
  else issueTravel a false res m

/-- The distance r from the pose to the try's goal (R91). -/
def goalDistance (sr : SegRun) (m : Motion) : Nat :=
  distance m.pu.x m.pu.y (sr.goal m).1 (sr.goal m).2

/-- The bearing from the pose to the try's goal (R91). -/
def goalBearing (sr : SegRun) (m : Motion) : Nat :=
  bearing (((sr.goal m).1 : Int) - m.pu.x) (((sr.goal m).2 : Int) - m.pu.y)

/-- One pass of the loop (R93); the check made at VET serves when one is given. -/
def travelLoop (env : Env) (vet : Option CheckResult) (sr : SegRun) (m : Motion) : Motion :=
  if goalDistance sr m ≤ env.tun.arriveTolerance * 1000 then travelReached env sr m
  else if !aligned env (turnTo m.pu.theta (goalBearing sr m)) then
    beginRotate env .align (goalBearing sr m) sr m
  else
    match vet with
    | some res => judgeTravel env sr res m
    | none => askLine env .travel sr m

/-- The result of VET (R91): a corridor blocked too near ends the try Blocked before any ALIGN. -/
def vetResult (env : Env) (sr : SegRun) (res : CheckResult) (m : Motion) : Motion :=
  if res.blocked.isSome ∧ tooSmall env (min (allowance env res) (pieceMax env)) then
    endTry .blocked res.cell m
  else travelLoop env (some res) sr m

/-- A Rotate piece's check hands its result (R92). -/
def rotateResult (sr : SegRun) (res : CheckResult) (m : Motion) : Motion :=
  if res.blocked.isSome then endTry .blocked res.cell m else issueGrant (rotateGrant sr.rotTurn res) m

/-- A Rotate piece's Done (R92): reached, a correction, or Short after two. -/
def rotateDone (env : Env) (sr : SegRun) (m : Motion) : Motion :=
  let turn := turnTo m.pu.theta sr.rotWanted
  if aligned env turn then
    match sr.phase with
    | .align => travelLoop env none sr m
    | _ => turnReached env sr m
  else if 2 ≤ sr.rotCorr then endTry .short none m
  else askRotate env sr.phase sr (m.updSeg fun r => { r with rotTurn := turn, rotCorr := sr.rotCorr + 1 })

/-! ## Reverse (R97) and backoff (R102) -/

/-- A Reverse piece's check hands its result (R97). DESIGN CHOICE (assumption 36): D limits the piece when its
allowance is below the distance left and PieceLength; at an equal PieceLength the piece counts as not limited. -/
def reverseResult (env : Env) (sr : SegRun) (res : CheckResult) (m : Motion) : Motion :=
  let a := min (sr.distLeft : Int) (min (allowance env res) (pieceMax env))
  if tooSmall env a then endTry .blocked res.cell m
  else
    issueGrant (pieceGrant .reverse a res)
      (m.updSeg fun r =>
        { r with pieceLimited := allowance env res < min (sr.distLeft : Int) (pieceMax env),
                 pieceCell := res.cell })

/-- A Reverse piece's Done (R97): the distance left falls by the amount the grant had. -/
def reverseDone (env : Env) (sr : SegRun) (m : Motion) : Motion :=
  let left := sr.distLeft - m.dp.grant.amount.toNat
  if sr.pieceLimited || sr.pieceCut then endTry .blocked sr.pieceCell m
  else if left = 0 then endTry .arrived none m
  else askReverse env { sr with distLeft := left } (m.updSeg fun r => { r with distLeft := left })

/-- The backoff ends or is skipped and the try's outcome takes effect (R102). -/
def endBackoff (sr : SegRun) (m : Motion) : Motion :=
  match sr.outcome with
  | some o => takeEffect o sr.cell m
  | none => m

/-- BACKOFF is entered (R102): its check runs along the reversed heading for BackoffDistance and StopMargin. -/
def beginBackoff (env : Env) (sr : SegRun) (m : Motion) : Motion :=
  askInPhase env .backoff
    (sr.request .reverse (.heading .reversed ((env.tun.backoffDistance + env.tun.stopMargin) * 1000))
      sr.seg.speed)
    (setDockPhase .none m)

/-- The backoff's check hands its result (R102). -/
def backoffResult (env : Env) (sr : SegRun) (res : CheckResult) (m : Motion) : Motion :=
  if tooSmall env (allowance env res) then endBackoff sr m
  else
    issueGrant
      (pieceGrant .reverse
        (min ((env.tun.backoffDistance * 1000 : Nat) : Int) (min (allowance env res) (pieceMax env))) res) m

/-- SETTLE ends with the grant record NONE (R90): a fault records, a backoff in hand ends, and otherwise the
hazard outcome takes effect, by way of BACKOFF for CliffStop, BumpStop and Stall. -/
def endSettle (env : Env) (sr : SegRun) (m : Motion) : Motion :=
  match sr.outcome with
  | none => m
  | some o =>
    if o.cls = .fault then m.setTodo (.record o none)
    else if sr.inBackoff then endBackoff sr m
    else if o.backsOff ∧ 0 < env.tun.backoffDistance then beginBackoff env sr m
    else takeEffect o sr.cell m

/-! ## Events of the other blocks -/

/-- A check's result reaches its requester (R57, R88). -/
def checkHanded (env : Env) (res : CheckResult) (m : Motion) : Motion :=
  match m.re.seg with
  | none => m
  | some sr =>
    if sr.wait ≠ .check then m
    else
      let q := (m.reachStage 1).updSeg fun r => { r with wait := .nothing }
      let p : Motion :=
        { q with re := { q.re with progress := { q.re.progress with
            unknownSeen := q.re.progress.unknownSeen || res.unknownSeen } } }
      match sr.phase with
      | .vet => vetResult env sr res p
      | .align => rotateResult sr res p
      | .travel => judgeTravel env sr res p
      | .turn => rotateResult sr res p
      | .rotate => rotateResult sr res p
      | .reverse => reverseResult env sr res p
      | .seek => seekResult env res p
      | .close => issueCreep env 100000 res p
      | .mate => issueCreep env (env.tun.mateLimit * 1000) res p
      | .backoff => backoffResult env sr res p
      | .docked => p
      | .settle => p
      | .dwell => p

/-- The piece is complete: its grant's Done (R90, R126). -/
def pieceDone (env : Env) (m : Motion) : Motion :=
  match m.re.seg with
  | none => m
  | some sr =>
    if sr.wait ≠ .grant then m
    else
      let p := m.updSeg fun r => { r with wait := .nothing }
      match sr.phase with
      | .align => rotateDone env sr p
      | .turn => rotateDone env sr p
      | .rotate => rotateDone env sr p
      | .travel =>
        let n := if sr.pieceFull && !sr.pieceCut then sr.fullDone + 1 else sr.fullDone
        travelLoop env none { sr with fullDone := n } (p.updSeg fun r => { r with fullDone := n })
      | .reverse => reverseDone env sr p
      | .seek => judgeSeek env sr p
      | .close => closeDone env sr p
      | .mate => mateDone env sr p
      | .backoff => endBackoff sr p
      | .vet => p
      | .docked => p
      | .settle => p
      | .dwell => p

/-- A piece is ended by a Stop with a hazard outcome (R90): SETTLE, and under the backoff grant the try keeps
its first outcome and no second backoff follows (R102). -/
def pieceStopped (o : SegOutcome) (cell : Option CellIx) (m : Motion) : Motion :=
  match m.re.seg with
  | none => m
  | some sr =>
    if sr.wait ≠ .grant then m
    else if sr.phase = .backoff then
      m.updSeg fun r => { r with phase := .settle, wait := .nothing, inBackoff := true }
    else enterSettle o cell m

/-- A Trim is sent for the grant: the piece is cut, by this re-check's first blocking cell (R90, R97). -/
def pieceTrimmed (cell : Option CellIx) (m : Motion) : Motion :=
  m.updSeg fun r => if r.wait = .grant then { r with pieceCut := true, pieceCell := cell } else r

/-- The grant has settled, or is gone, and the record is NONE (R90, R130, R162). -/
def grantSettled (env : Env) (m : Motion) : Motion :=
  match m.re.seg with
  | none => m
  | some sr =>
    match sr.phase with
    | .settle => endSettle env sr m
    | .docked => finishDocked env m
    | _ => m

/-- The engine enters HALTED (R107). DESIGN CHOICE (assumption 43): the sub-state then reads Segment. -/
def haltEngine (cause : SegOutcome) (m : Motion) : Motion :=
  let q : Motion :=
    { m with
      re := { m.re with state := .halted, haltedOn := m.re.active, active := none, sub := .segment,
                        haltCause := some cause, switchPending := false, keptStop := false,
                        keptExpiry := false, seg := none, todo := .none }
      eu := { m.eu with timer := if m.eu.timer.state = .pass then .idle else m.eu.timer } }
  q.raise .routeHalted

/-- A fault reaches the segment in progress (R98, R103, R104): one already pending stands; with a grant
outstanding the engine waits in SETTLE, and with none the segment records. -/
def faultTry (o : SegOutcome) (m : Motion) : Motion :=
  match m.re.seg with
  | none => m
  | some sr =>
    let worst := if sr.faulted then sr.outcome.getD o else o
    let q := withdrawCheck m
    if m.dp.grant.state = .none then q.setTodo (.record worst none) else enterSettle worst none q

/-- A Lost indication (R103): during a segment it stops a SENT or ACTIVE grant with reason Lost and gives
the try the outcome Lost; with no segment in progress it has no effect. -/
def lostIndication (m : Motion) : Motion :=
  match m.re.seg with
  | none => m
  | some sr => if sr.faulted then m else faultTry .lost (askStop .lost m)

/-- DriveFault or DriveLost (R104): it acts on the segment in progress, and with none it halts the engine.
DEDUCED (assumption 12): R104 says so of an IDLE engine, and the model takes it of one between segments. -/
def driveFailure (o : SegOutcome) (m : Motion) : Motion :=
  match m.re.seg with
  | none => if m.re.state = .halted then m else haltEngine o m
  | some _ => faultTry o m

/-- The guard tells the engine of a trip (R143). Under a grant and in SETTLE it gives CliffStop or BumpStop; in a
SETTLE that ends a backoff as well, so a backoff follows (R98, assumption 23). In BACKOFF it gives
GuardInBackoff. In DOCKED the outcome stands and the latch is left to R148, whatever grant is outstanding
(DEDUCED, assumption 37). With nothing under way it releases the guard (R100). -/
def tripReported (o : SegOutcome) (m : Motion) : Motion :=
  match m.re.seg with
  | none => m
  | some sr =>
    let q : Motion := { m with re := { m.re with progress := { m.re.progress with guardTrip := true } } }
    match sr.phase with
    | .docked => q
    | .settle =>
      if sr.faulted then q
      else q.updSeg fun r => { r with outcome := some o, cell := none, inBackoff := false }
    | .backoff => faultTry .guardInBackoff (askStop .hazard q)
    | _ => if sr.wait = .grant then enterSettle o none (askStop .hazard q) else releaseGuard q

/-! ## Lists, passes and recording -/

/-- A list. -/
def RouteEngine.list (re : RouteEngine) : ListId → RunList
  | .main => re.main
  | .priority => re.priority

/-- A list is replaced. -/
def RouteEngine.setList (re : RouteEngine) (id : ListId) (l : RunList) : RouteEngine :=
  match id with
  | .main => { re with main := l }
  | .priority => { re with priority := l }

/-- The descriptor of the entry at a place is changed. -/
def RunList.updDesc (l : RunList) (i : Nat) (f : Descriptor → Descriptor) : RunList :=
  { l with entries := l.entries.modify i fun e => { e with desc := f e.desc } }

/-- A run list is engaged (R71). -/
def RouteEngine.engaged (re : RouteEngine) (id : ListId) : Bool :=
  ((re.state = .running || re.state = .draining) && re.active = some id) ||
  (re.state = .halted && re.haltedOn = some id) ||
  (match id with
   | .main => re.suspended.isSome
   | .priority => re.switchPending)

/-- The engine becomes IDLE (R105, R108): it stops the Pass Timer and drops an expiry it keeps. A suspended
Main List stays suspended. DESIGN CHOICE (assumption 43): the sub-state then reads Segment. -/
def becomeIdle (m : Motion) : Motion :=
  { m with
    re := { m.re with state := .idle, active := none, sub := .segment, switchPending := false,
                      keptStop := false, keptExpiry := false, seg := none, todo := .none }
    eu := { m.eu with timer := if m.eu.timer.state = .pass then .idle else m.eu.timer } }

/-- The engine runs a list: RUNNING on it, a segment to begin at its position (R86, R110). -/
def runList (id : ListId) (m : Motion) : Motion :=
  { m with re := { m.re with state := .running, active := some id, sub := .segment, seg := none,
                             todo := .begin } }

/-- A start of the Pass Timer copies the settings; with initial count 0 the timer stays STOPPED (R180). -/
def startTimer (st : TimerState) (m : Motion) : Motion :=
  if m.eu.settings.initial = 0 then m
  else
    { m with eu := { m.eu with timer :=
        { state := st, count := m.eu.settings.initial, reloads := m.eu.settings.reloadCount,
          tickBase := m.eu.settings.tickBase, reload := m.eu.settings.reload, ms := 0 } } }

/-- Passes remain when passes is 0 or passes done is below it (R106). -/
def RunList.passesRemain (l : RunList) : Bool := l.passes = 0 || l.passesDone < l.passes

/-- A pass of the Main List has ended (R106): passes done rises, held at 255; with passes remaining the
position returns to 0, and with none ListDone is raised. -/
def countPass (m : Motion) : Motion :=
  let l : RunList := { m.re.main with passesDone := min 255 (m.re.main.passesDone + 1) }
  if l.passesRemain then { m with re := { m.re with main := { l with position := 0 } } }
  else ({ m with re := { m.re with main := l } } : Motion).raise .listDone

/-- The Main List's position has reached its length (R106). -/
def mainEnd (m : Motion) : Motion :=
  let q := countPass m
  let remain := q.re.main.passesRemain
  if m.re.state = .draining then
    becomeIdle (if remain then q.raise .listDone else q)
  else if !remain then becomeIdle q
  else if m.eu.settings.initial = 0 then runList .main q
  else startTimer .pass { q with re := { q.re with sub := .passWait, seg := none, todo := .none } }

/-- The Main List resumes and its suspension is dropped (R108, R111). -/
def resumeMain (sub : SubState) (m : Motion) : Motion :=
  let q := runList .main { m with re := { m.re with suspended := none } }
  match sub with
  | .segment => q
  | .passWait =>
    if m.re.keptExpiry then { q with re := { q.re with keptExpiry := false } }
    else { q with re := { q.re with sub := .passWait, todo := .none } }

/-- The Priority List's position has reached its length (R111). `docked` says that its last segment was a
Dock segment that recorded Arrived. -/
def priorityEnd (docked : Bool) (m : Motion) : Motion :=
  let q := m.raise .listDone
  if m.re.keptStop || m.re.state = .draining || docked then becomeIdle q
  else
    match m.re.suspended with
    | some sub => resumeMain sub q
    | none => becomeIdle q

/-- A list's end is handled (R105, case 6). -/
def listEnd (id : ListId) (docked : Bool) (m : Motion) : Motion :=
  match id with
  | .main => mainEnd m
  | .priority => priorityEnd docked m

/-- The switch to the Priority List (R110): the Main List is suspended with its sub-state, unless a drain or
a StopOnHazard stop is kept, to take effect at the Priority List's end. -/
def switchList (kept : Bool) (sub : SubState) (m : Motion) : Motion :=
  runList .priority
    { m with re := { m.re with suspended := if kept then none else some sub, keptStop := kept,
                               switchPending := false } }

/-- The end error of a recording (R81), in mm: rhaz of the distance to the goal point over 1000, at most
65,535. -/
def endError (sr : SegRun) (m : Motion) : Nat :=
  let err := fun (x y : Nat) => min 65535 ((isqrt (dist2 m.pu.x m.pu.y x y) + 500) / 1000)
  match sr.seg.kind, m.du.pose with
  | .line, _ => err (sr.goal m).1 (sr.goal m).2
  | .dock, some d => err d.x d.y
  | .dock, none => 0
  | .rotate, _ => 0
  | .reverse, _ => 0

/-- The descriptor's values at a recording (R80, R81). -/
def recordedDesc (o : SegOutcome) (cell : Option CellIx) (sr : SegRun) (m : Motion) (d : Descriptor) :
    Descriptor :=
  { d with outcome := .recorded o, finish := m.eu.time, attempts := m.re.attempt,
           altUsed := sr.seg.altTry m.re.attempt,
           blocking := if o = .blocked then cell else none, endError := endError sr m }

/-- RECORD up to SegmentDone (R80, R105): the descriptor, the last outcome, the last blocking cell of a
Blocked outcome, and SegmentDone for a record with Notify. The segment is then no longer in progress. -/
def writeRecord (o : SegOutcome) (cell : Option CellIx) (m : Motion) : Motion :=
  match m.re.seg, m.re.active with
  | some sr, some id =>
    let l := m.re.list id
    let re := m.re.setList id (l.updDesc l.position (recordedDesc o cell sr m))
    let q : Motion :=
      { m with
        re := { re with lastOutcome := some o, seg := none,
                        lastBlocking := if o = .blocked then cell else m.re.lastBlocking }
        du := { m.du with phase := .none } }
    if sr.seg.notify then q.raise .segmentDone else q
  | _, _ => m

/-- A halt for a full tally is due at a recording (R101). -/
def tallyHalt (o : SegOutcome) (m : Motion) : Bool :=
  m.re.tally = 255 && (o.cls = .hazard || (o.cls = .done && 1 < m.re.attempt))

/-- A pass that a StopOnHazard stop or an AtSegment drain ends (R105, cases 3 and 5): it is counted. DEDUCED
(assumption 33): a drain in AtPass mode raises ListDone here too, whether or not passes remain (R106). -/
def finishPass (m : Motion) : Motion :=
  let q := countPass m
  if m.re.state = .draining ∧ m.re.drain = .atPass ∧ q.re.main.passesRemain then q.raise .listDone else q

/-- A drain has ended, or a StopOnHazard stop acts (R105, cases 3 and 5). -/
def endRun (id : ListId) (m : Motion) : Motion :=
  let l := m.re.list id
  match id with
  | .main => becomeIdle (if l.entries.length ≤ l.position then finishPass m else m)
  | .priority => becomeIdle (if l.entries.length ≤ l.position then m.raise .listDone else m)

/-- The engine goes on after a recording (R105): the first case that holds. DESIGN CHOICE (assumption 44): a switch
made by case 4 at the end of a pass of the Main List does not count the pass (R106); it is counted once the list
resumes at its length, and never after a drain that was kept. -/
def goOn (id : ListId) (o : SegOutcome) (docked halt : Bool) (m : Motion) : Motion :=
  let l := m.re.list id
  if o.cls = .fault then haltEngine o m
  else if halt then haltEngine .tallyFull m
  else if o.cls = .cancel then becomeIdle m
  else if o.cls = .hazard ∧ l.stopOnHazard then
    if id = .main ∧ m.re.switchPending then
      switchList true .segment (if l.entries.length ≤ l.position then countPass m else m)
    else endRun id m
  else if id = .main ∧ m.re.switchPending then switchList (m.re.state = .draining) .segment m
  else if m.re.state = .draining ∧ m.re.drain = .atSegment then endRun id m
  else if l.entries.length ≤ l.position then listEnd id docked m
  else m.setTodo .begin

/-- The list's position at a recording (R105): past the entry for a Done or hazard outcome. -/
def advance (id : ListId) (o : SegOutcome) (m : Motion) : Motion :=
  let l := m.re.list id
  if o.cls = .done ∨ o.cls = .hazard then
    { m with re := m.re.setList id { l with position := l.position + 1 } }
  else m

/-- RECORD (R105). -/
def recordSegment (o : SegOutcome) (cell : Option CellIx) (m : Motion) : Motion :=
  match m.re.seg, m.re.active with
  | some sr, some id =>
    goOn id o (sr.seg.kind = .dock && o = .arrived) (tallyHalt o m) (advance id o (writeRecord o cell m))
  | _, _ => m

/-! ## Beginning a segment and a try -/

/-- The segment in progress as FETCH leaves it. -/
def SegRun.fresh (slot : Nat) (seg : Segment) : SegRun :=
  { slot := slot, seg := seg, phase := .vet, wait := .nothing, outcome := none, cell := none,
    inBackoff := false, rotWanted := 0, rotTurn := 0, rotCorr := 0, fullDone := 0, revHeading := 0,
    distLeft := 0, pieceFull := false, pieceLimited := false, pieceCut := false, pieceCell := none,
    ready := none, dwellLeft := 0 }

/-- The reading of an Empty slot: no field holds anything. -/
def Segment.blank : Segment :=
  { kind := .rotate, targetX := 0, targetY := 0, heading := none, reverseDist := 0, speed := 0,
    allowUnknown := false, avoidRug := false, notify := false, retries := 0, dwell := 0, alt := none }

/-- FETCH finds the record not fit to run (R87, step 2). -/
def fetchInvalid (env : Env) (m : Motion) : Option Segment → Bool
  | none => true
  | some seg => seg.kind = .dock && (m.du.pose.isNone || env.dockTotal = 0)

/-- The descriptor FETCH opens (R79). -/
def openedDesc (time : Word) : Descriptor :=
  { Descriptor.fresh with outcome := .inProgress, start := time }

/-- FETCH (R79, R87, R88): the descriptor is opened, the record read, the sense items set and a latch that
still stands released. -/
def fetchSegment (env : Env) (id : ListId) (entry : Entry) (m : Motion) : Motion :=
  let l := m.re.list id
  let rec' := m.re.slotAt entry.slot
  let re := m.re.setList id (l.updDesc l.position fun _ => openedDesc m.eu.time)
  releaseGuard
    { m with re := { re with
        poolIndex := some entry.slot, attempt := 1, progress := .reset, sub := .segment,
        seg := some (SegRun.fresh entry.slot (rec'.getD Segment.blank)),
        todo := if fetchInvalid env m rec' then .record .invalid none else .startTry } }

/-- The engine begins the segment at the active list's position (R87). A switch that waits for the Main List
is made first, and a position at the length is the list's end (assumption 11). -/
def beginSegment (env : Env) (m : Motion) : Motion :=
  match m.re.active with
  | none => m
  | some id =>
    if id = .main ∧ m.re.switchPending then switchList (m.re.state = .draining) .segment m
    else
      match (m.re.list id).entries[(m.re.list id).position]? with
      | none => listEnd id false m
      | some entry =>
        if env.tun.lostLimit ≤ m.pu.u then haltEngine .lost m else fetchSegment env id entry m

/-- A try begins at VET with stage 0 and its counts at 0 (R99), by the segment's kind. DESIGN CHOICE (assumption
42): the reverse heading is taken at every try, as R97 says, and not once for the segment, as R68 says. -/
def startTry (env : Env) (m : Motion) : Motion :=
  match m.re.seg with
  | none => m
  | some sr0 =>
    let sr : SegRun :=
      { sr0 with outcome := none, cell := none, inBackoff := false, rotCorr := 0, fullDone := 0,
                 wait := .nothing, ready := none, revHeading := wrapHeading (m.pu.theta + 32768),
                 distLeft := sr0.seg.reverseDist * 1000 }
    let q : Motion :=
      { m with re := { m.re with seg := some sr, progress := { m.re.progress with stage := 0 } } }
    match sr.seg.kind with
    | .line => askLine env .vet sr q
    | .rotate => beginTurn env .rotate (sr.seg.heading.getD 0) sr q
    | .reverse => askReverse env sr q
    | .dock => beginDock env sr q

/-- One move of the engine's own. -/
def engineMove (env : Env) (m : Motion) : Motion :=
  match m.re.todo with
  | .none => m
  | .begin => beginSegment env (m.setTodo .none)
  | .startTry => startTry env (m.setTodo .none)
  | .record o cell => recordSegment o cell (m.setTodo .none)

/-- The engine's own moves until none is left, at most n of them. -/
def runEngine (env : Env) : Nat → Motion → Motion
  | 0, m => m
  | n + 1, m => if m.re.todo = .none then m else runEngine env n (engineMove env m)

/-! ## Stopping and posting -/

/-- The segment in progress is cancelled (R109): a SENT or ACTIVE grant gets a Stop with reason Cancel, its
check is withdrawn, and it records Cancelled with its position left. -/
def cancelSegment (m : Motion) : Motion := writeRecord .cancelled none (withdrawCheck (askStop .cancel m))

/-- A fault outcome is pending on the try of the segment in progress. -/
def RouteEngine.faultPending (re : RouteEngine) : Bool :=
  match re.seg with
  | some sr => sr.faulted
  | none => false

/-- The engine is in PassWait: the sub-state of the list that runs. -/
def RouteEngine.inPassWait (re : RouteEngine) : Bool :=
  (re.state = .running || re.state = .draining) && re.sub = .passWait

/-- A drain begins (R109); one that is already in AtSegment mode keeps it when AtPass is asked for. -/
def beginDrain (mode : DrainMode) (m : Motion) : Motion :=
  if m.re.state = .draining ∧ mode = .atPass then m
  else { m with re := { m.re with state := .draining, drain := mode } }

/-- STOP ROUTE AtSegment or AtPass in RUNNING or DRAINING (R108, R109). -/
def stopLater (mode : DrainMode) (m : Motion) : Motion :=
  if m.re.inPassWait then
    becomeIdle (match mode with
      | .atPass => m.raise .listDone
      | .atSegment => m)
  else beginDrain mode m

/-- STOP ROUTE Now in RUNNING or DRAINING (R108, R109): with a fault pending the try stays in SETTLE and
records the fault; otherwise the segment records Cancelled and the engine becomes IDLE. -/
def stopNow (env : Env) (m : Motion) : Motion :=
  match m.re.seg with
  | some sr =>
    if sr.faulted then
      let q : Motion := { m with re := { m.re with state := .running, switchPending := false, keptStop := false } }
      if m.dp.grant.state = .none then endSettle env sr q else q
    else becomeIdle (cancelSegment m)
  | none => becomeIdle m

/-- An accepted POST PRIORITY, or the engine's own posting (R110, R112). -/
def postList (urgent : Bool) (m0 : Motion) : Motion :=
  let m : Motion := { m0 with re := { m0.re with priority := { m0.re.priority with position := 0 } } }
  let pend : Motion := { m with re := { m.re with switchPending := true } }
  if m.re.state = .idle then runList .priority m
  else if m.re.inPassWait then switchList (m.re.state = .draining) .passWait m
  else if urgent && m.re.seg.isSome && !m.re.faultPending then
    switchList (m.re.state = .draining) .segment (cancelSegment m)
  else pend

/-- A Pass Timer expiry in PASS (R108): the next pass begins, or the expiry is kept while the Priority List
runs. -/
def passExpired (m : Motion) : Motion :=
  if m.re.inPassWait && m.re.active = some .main then runList .main m
  else if m.re.suspended = some .passWait ∧ m.re.active = some .priority then
    { m with re := { m.re with keptExpiry := true } }
  else m

/-- A change of the motion blocks followed by the engine's own moves. -/
def State.engine (f : Env → Motion → Motion) (s : State) : State :=
  { s with mo := runEngine s.env Config.engineMoves (f s.env s.mo) }

end Sys2Proof.Machine
end

