-- ==== Sys2Proof/Machine/FloorMap.lean ====
section
/-! DEFINITION. FloorMap.lean: the Floor Map (chapter 1): one cell's change with its sector counts and map
change, the merge rules, the Change Queue, the cursor's walk, the fill and the map sweep, and the map
requests. A request's owner gives the state it leaves and the response it places. -/

namespace Sys2Proof.Machine
open Sys2Proof

/-! ## The Sector Table (R10) -/

/-- A change of the count a class is kept in; Free cells are not counted (section 1.2). -/
def SectorRec.atClass (c : CellClass) (f : Nat → Nat) (r : SectorRec) : SectorRec :=
  match c with
  | .unknown => { r with unknown := f r.unknown }
  | .free => r
  | .rug => { r with rug := f r.rug }
  | .obstacle => { r with obstacle := f r.obstacle }
  | .cliff => { r with cliff := f r.cliff }
  | .keepOut => { r with keepOut := f r.keepOut }
  | .dock => { r with dock := f r.dock }

/-- The class counts after a cell's class changes (R10). -/
def SectorRec.moveClass (old new : CellClass) (r : SectorRec) : SectorRec :=
  if old = new then r else (r.atClass old (· - 1)).atClass new (· + 1)

/-- The visited count after a cell's mark changes (R10). -/
def SectorRec.moveVisited (old new : Bool) (r : SectorRec) : SectorRec :=
  match old, new with
  | false, true => { r with visited := r.visited + 1 }
  | true, false => { r with visited := r.visited - 1 }
  | _, _ => r

/-- A sector's counts after one of its cells changes (R10). -/
def SectorRec.move (old new : CellRec) (r : SectorRec) : SectorRec :=
  (r.moveClass old.cls new.cls).moveVisited old.visited new.visited

/-- A cell takes a record and its sector's counts follow in the same operation (R10). -/
def FloorMap.putCell (c : CellIx) (new : CellRec) (fm : FloorMap) : FloorMap :=
  if new = fm.cellAt c then fm
  else
    { fm with
      cells := Memory.write CellRec.swept fm.cells c.addr new
      sectors := Memory.write SectorRec.swept fm.sectors c.sector
        ((fm.sectorAt c.sector).move (fm.cellAt c) new) }

/-! ## One cell's change (R3) -/

/-- A map change is handed when the class, the confidence or the origin is altered (R3). -/
def CellRec.altered (old new : CellRec) : Bool :=
  old.cls ≠ new.cls || old.conf ≠ new.conf || old.origin ≠ new.origin

/-- The map change of one cell reaches the Clearance Unit (R3). `held` says that a WRITE CELLS is part way
through presenting its cells (R59). -/
def State.handChange (held : Bool) (c : CellIx) (old new : CellRec) (s : State) : State :=
  if old.altered new then
    { s with mo := takeMapChange { s.env with mapBusy := held || s.env.mapBusy } c new s.mo }
  else s

/-- A cell takes a record: the cell, its sector's counts, then the map change (R3). -/
def State.changeCell (held : Bool) (c : CellIx) (new : CellRec) (s : State) : State :=
  State.handChange held c (s.fm.cellAt c) new { s with fm := s.fm.putCell c new }

/-! ## Planner writes (R4) -/

/-- A cell that a planner write leaves whole, and that only a release may change (R4, R7, R9). -/
def CellRec.sensedCliff (r : CellRec) : Bool := r.cls = .cliff && r.origin = .sensed

/-- A planner write presents a record at a cell (R4). -/
def State.plannerWrite (held : Bool) (c : CellIx) (rec' : CellRec) (s : State) : State :=
  if (s.fm.cellAt c).sensedCliff then s else s.changeCell held c { rec' with origin := .planner }

/-! ## Sensed marks (R5, R6) and the Change Queue (R25 to R27) -/

/-- A sensed mark: the cell, the cause and the sensor (section 1.1). -/
structure SensedMark where
  cell   : CellIx
  cause  : MarkCause
  sensor : MarkSensor
  deriving DecidableEq, Repr

/-- A CliffTrip or WheelDrop comes with a Cliff mark, a Bump or Stall with an Obstacle mark (section 1.1). -/
def MarkCause.isCliff : MarkCause → Bool
  | .cliffTrip => true
  | .wheelDrop => true
  | .bump => false
  | .stall => false

/-- A sensed Cliff mark on a record (R5). -/
def CellRec.cliffMark (r : CellRec) : CellRec :=
  if r.sensedCliff then r else { r with cls := .cliff, conf := 7, origin := .sensed }

/-- A sensed Obstacle mark on a record (R6). -/
def CellRec.obstacleMark (r : CellRec) : CellRec :=
  match r.cls with
  | .unknown => { r with cls := .obstacle, conf := 3, origin := .sensed }
  | .free => { r with cls := .obstacle, conf := 3, origin := .sensed }
  | .rug => { r with cls := .obstacle, conf := 3, origin := .sensed }
  | .obstacle => { r with conf := if r.conf = 7 then 7 else r.conf + 1, origin := .sensed }
  | .cliff => r
  | .keepOut => r
  | .dock => r

/-- A record after a mark of a cause. -/
def CellRec.marked (cause : MarkCause) (r : CellRec) : CellRec :=
  if cause.isCliff then r.cliffMark else r.obstacleMark

/-- A class change by a sensed mark makes an entry: it joins the queue, with ChangesWaiting when the count
then stands at ChangeNotice or above, or finds 64 entries and is dropped with ChangeLost (R25 to R27). -/
def State.queueEntry (m : SensedMark) (old new : CellClass) (s : State) : State :=
  if s.fm.changes.length < Config.queueCap then
    let e : ChangeEntry :=
      { cell := m.cell, old := old, new := new, cause := m.cause, sensor := m.sensor, time := s.mo.eu.time }
    let q : State := { s with fm := { s.fm with changes := s.fm.changes ++ [e] } }
    if s.tun.changeNotice ≤ s.fm.changes.length + 1 then { q with mo := q.mo.raise .changesWaiting } else q
  else { s with fm := { s.fm with changeLost := true }, mo := s.mo.raise .changeLost }

/-- A sensed mark is taken: the merge, the counts, the entry for a class change, then the map change (R3). -/
def State.sensedMark (m : SensedMark) (s : State) : State :=
  let old := s.fm.cellAt m.cell
  let new := old.marked m.cause
  let q : State := { s with fm := s.fm.putCell m.cell new }
  State.handChange false m.cell old new
    (if old.cls ≠ new.cls then State.queueEntry m old.cls new.cls q else q)

/-- A sensed mark, where there is one. -/
def State.markIf (m : Option SensedMark) (s : State) : State :=
  match m with
  | some k => s.sensedMark k
  | none => s

/-- The Pose Unit asks for a visited mark on the cell the centre enters (R8, R44). -/
def FloorMap.visit (c : CellIx) (fm : FloorMap) : FloorMap :=
  fm.putCell c { fm.cellAt c with visited := true }

/-! ## Window, cursor and entry mode (R14 to R17) -/

/-- The bound of an axis from which a direction starts (R14). -/
def Dir.first (d : Dir) (lo hi : Nat) : Nat :=
  match d with
  | .inc => lo
  | .dec => hi

/-- One step along an axis, unless it leaves the bounds (R17). -/
def Dir.step (d : Dir) (lo hi i : Nat) : Option Nat :=
  match d with
  | .inc => if i < hi then some (i + 1) else none
  | .dec => if lo < i then some (i - 1) else none

/-- The start corner of a window (R14). -/
def Window.start (w : Window) (m : EntryMode) : CellIx :=
  { cx := m.xDir.first w.x0 w.x1, cy := m.yDir.first w.y0 w.y1 }

/-- The cells of a window. -/
def Window.count (w : Window) : Nat := (w.x1 - w.x0 + 1) * (w.y1 - w.y0 + 1)

/-- The cursor's advance (R17). -/
def Window.advance (w : Window) (m : EntryMode) (c : CellIx) : CellIx :=
  match m.primary with
  | .x =>
    match m.xDir.step w.x0 w.x1 c.cx with
    | some x => { c with cx := x }
    | none =>
      match m.yDir.step w.y0 w.y1 c.cy with
      | some y => { cx := m.xDir.first w.x0 w.x1, cy := y }
      | none => w.start m
  | .y =>
    match m.yDir.step w.y0 w.y1 c.cy with
    | some y => { c with cy := y }
    | none =>
      match m.xDir.step w.x0 w.x1 c.cx with
      | some x => { cx := x, cy := m.yDir.first w.y0 w.y1 }
      | none => w.start m

/-- The cursor advances (R17). -/
def FloorMap.advance (fm : FloorMap) : FloorMap := { fm with cursor := fm.win.advance fm.mode fm.cursor }

/-! ## The fill (R21, R22) -/

/-- The fill presents the cell it has reached and goes on to the next (R22). -/
def State.fillStep (s : State) : State :=
  match s.fm.fill with
  | none => s
  | some f =>
    let held := (s.fm.cellAt f.pos).sensedCliff
    let q := s.plannerWrite false f.pos f.cell
    let g : Fill :=
      { f with pos := f.win.advance f.mode f.pos, left := f.left - 1, held := f.held + held.toNat }
    { q with fm := { q.fm with fill := some g } }

/-- The fill presents its next n cells. -/
def State.fillSteps : Nat → State → State
  | 0, s => s
  | n + 1, s => State.fillSteps n s.fillStep

/-- The fill ends: MapHeld from its held count, and FillDone (R19, R22). -/
def State.fillEnd (s : State) : State :=
  match s.fm.fill with
  | none => s
  | some f => { s with fm := { s.fm with fill := none, mapHeld := 0 < f.held }, mo := s.mo.raise .fillDone }

/-! ## The map sweep (R189) -/

/-- The sweep writes the cell it has reached. -/
def FloorMap.sweepStep (fm : FloorMap) : FloorMap :=
  match fm.sweep with
  | none => fm
  | some a =>
    if a < Config.gridCells then { fm.putCell (CellIx.ofAddr a) CellRec.swept with sweep := some (a + 1) }
    else fm

/-- The sweep writes its next n cells. -/
def FloorMap.sweepSteps : Nat → FloorMap → FloorMap
  | 0, fm => fm
  | n + 1, fm => FloorMap.sweepSteps n fm.sweepStep

/-! ## Map requests -/

/-- What a request's owner gives: the state it leaves and the response it places. -/
abbrev Answer := State × Response

/-- A fill is running. -/
def State.filling (s : State) : Bool := s.fm.fill.isSome

/-- A check is in progress, WAITING or SAMPLING (R59). -/
def State.checking (s : State) : Bool := s.mo.cu.checks ≠ []

/-- The first bad field of a SET WINDOW, in the order of R15. -/
def windowBad (xs xe ys ye primary xDir yDir : Byte) : Option Nat :=
  if xe < xs then some 3
  else if ye < ys then some 5
  else if 1 < primary then some 6
  else if 1 < xDir then some 7
  else if 1 < yDir then some 8
  else none

/-- A direction of its code (section 12.1). -/
def Dir.ofByte (b : Byte) : Dir := if b = 0 then .inc else .dec

/-- The entry mode of a SET WINDOW. -/
def entryMode (primary xDir yDir : Byte) : EntryMode :=
  { primary := if primary = 0 then .x else .y, xDir := .ofByte xDir, yDir := .ofByte yDir }

/-- SET WINDOW (R15, R24). -/
def serveSetWindow (xs xe ys ye primary xDir yDir : Byte) (s : State) : Answer :=
  match windowBad xs xe ys ye primary xDir yDir with
  | some n => (s, .invalid n 0)
  | none =>
    if s.filling then (s, .busy)
    else
      let w : Window := { x0 := xs.toNat, x1 := xe.toNat, y0 := ys.toNat, y1 := ye.toNat }
      let m := entryMode primary xDir yDir
      ({ s with fm := { s.fm with win := w, mode := m, cursor := w.start m } }, .done [])

/-- SET CURSOR (R16, R24). -/
def serveSetCursor (cx cy : Byte) (s : State) : Answer :=
  if cx.toNat < s.fm.win.x0 ∨ s.fm.win.x1 < cx.toNat then (s, .invalid 2 0)
  else if cy.toNat < s.fm.win.y0 ∨ s.fm.win.y1 < cy.toNat then (s, .invalid 3 0)
  else if s.filling then (s, .busy)
  else ({ s with fm := { s.fm with cursor := { cx := cx.toNat, cy := cy.toNat } } }, .done [])

/-- The place of the first byte of a list that carries class code 7, counted from n. -/
def firstBadCell : Nat → List Byte → Option Nat
  | _, [] => none
  | n, b :: bs => if (CellRec.ofByte b).isNone then some n else firstBadCell (n + 1) bs

/-- One byte of a WRITE CELLS: presented at the cursor, which then advances (R18). -/
def State.writeByte (b : Byte) (s : State) : State :=
  let q := match CellRec.ofByte b with
    | some r => s.plannerWrite true s.fm.cursor r
    | none => s
  { q with fm := q.fm.advance }

/-- The bytes of a WRITE CELLS in body order, with the held count so far (R18). -/
def writeBytes : List Byte → Nat → State → State × Nat
  | [], n, s => (s, n)
  | b :: bs, n, s =>
    writeBytes bs (n + (s.fm.cellAt s.fm.cursor).sensedCliff.toNat) (s.writeByte b)

/-- WRITE CELLS (R18, R19, R24). -/
def serveWriteCells (cells : List Byte) (s : State) : Answer :=
  if cells = [] then (s, .invalid 1 0)
  else
    match firstBadCell 0 cells with
    | some n => (s, .invalid 2 n)
    | none =>
      if s.filling || s.checking then (s, .busy)
      else
        let q := (writeBytes cells 0 s).1
        let held := (writeBytes cells 0 s).2
        ({ q with fm := { q.fm with mapHeld := 0 < held } }, .done (leBytes 2 held))

/-- The bytes of n cells from the cursor on, and the Floor Map with the cursor advanced (R20). DEDUCED
(assumption 34): a byte shows its cell as it stands, so with every mark taken before the read. -/
def readBytes : Nat → FloorMap → FloorMap × List Byte
  | 0, fm => (fm, [])
  | n + 1, fm =>
    ((readBytes n fm.advance).1, (fm.cellAt fm.cursor).toByte :: (readBytes n fm.advance).2)

/-- READ CELLS (R20, R24). -/
def serveReadCells (count : Half) (s : State) : Answer :=
  if count = 0 ∨ 1024 < count.toNat then (s, .invalid 2 0)
  else if s.filling then (s, .busy)
  else ({ s with fm := (readBytes count.toNat s.fm).1 }, .done (readBytes count.toNat s.fm).2)

/-- FILL WINDOW (R21, R24). -/
def serveFillWindow (cell : Byte) (s : State) : Answer :=
  match CellRec.ofByte cell with
  | none => (s, .invalid 2 0)
  | some r =>
    if s.filling || s.checking then (s, .busy)
    else
      let f : Fill :=
        { cell := r, win := s.fm.win, mode := s.fm.mode, pos := s.fm.win.start s.fm.mode,
          left := s.fm.win.count, held := 0 }
      ({ s with fm := { s.fm with fill := some f } }, .started)

/-- RELEASE HAZARD (R9, R24). -/
def serveReleaseHazard (cx cy cls : Byte) (s : State) : Answer :=
  match CellClass.ofCode cls.toNat with
  | none => (s, .invalid 4 0)
  | some k =>
    let c : CellIx := { cx := cx.toNat, cy := cy.toNat }
    if s.filling || s.checking then (s, .busy)
    else if (s.fm.cellAt c).sensedCliff then
      (s.changeCell false c { s.fm.cellAt c with cls := k, conf := 7, origin := .planner }, .done [])
    else (s, .rejected .notHazard)

/-- READ SECTORS (R13, R24). -/
def serveReadSectors (start count : Byte) (s : State) : Answer :=
  if count = 0 ∨ 64 < count.toNat ∨ 256 < start.toNat + count.toNat then (s, .invalid 3 0)
  else if s.filling then (s, .busy)
  else
    (s, .done ((List.range count.toNat).flatMap fun k => (s.fm.sectorAt (start.toNat + k)).bytes))

/-- READ CHANGES (R28). -/
def serveReadChanges (count : Byte) (s : State) : Answer :=
  if count = 0 ∨ 64 < count.toNat then (s, .invalid 2 0)
  else
    let taken := s.fm.changes.take count.toNat
    let rest := s.fm.changes.drop count.toNat
    ({ s with fm := { s.fm with changes := rest, changeLost := s.fm.changeLost && rest ≠ [] } },
     .done (byte taken.length :: taken.flatMap ChangeEntry.bytes))

end Sys2Proof.Machine
end

