-- ==== Sys2Proof/Machine/Event.lean ====
section
/-! DEFINITION. Event.lean: the Event Unit (chapter 10): waking, the time base and the Pass Timer, parking,
and the requests over flags, notices and wake enables. -/

namespace Sys2Proof.Machine
open Sys2Proof

/-! ## Waking (R183, R184) -/

/-- The levels of the four switch lines at the model's k-th free moment (assumption 3). -/
def freeLevels (k : Nat) : LineLevels :=
  { wl := Config.lineLevel k .wl, wr := Config.lineLevel k .wr, bl := Config.lineLevel k .bl,
    br := Config.lineLevel k .br }

/-- The held sample of a line. -/
def LineLevels.get (l : LineLevels) : SwitchLine → Bool
  | .wl => l.wl
  | .wr => l.wr
  | .bl => l.bl
  | .br => l.br

/-- The held sample of a line is set. -/
def LineLevels.set (l : LineLevels) (line : SwitchLine) (v : Bool) : LineLevels :=
  match line with
  | .wl => { l with wl := v }
  | .wr => { l with wr := v }
  | .bl => { l with bl := v }
  | .br => { l with br := v }

/-- The guard as it stands ARMED after a reset or on wake, with given held samples (R150). -/
def HazardGuard.armed (lines : LineLevels) : HazardGuard :=
  { state := .armed, fl := .reset, fr := .reset, sl := .reset, sr := .reset, lines := lines, window := none }

/-- The device is PARKED. -/
def State.parked (s : State) : Bool := s.mo.eu.device = .parked

/-- The Event Unit on a wake: RUN, a timer in ALARM stopped, the record and the cause (R184). -/
def EventUnit.wake (cause : WakeCause) (eu : EventUnit) : EventUnit :=
  EventUnit.raise .woke
    { eu with device := .run, woke := some cause,
              timer := if eu.timer.state = .alarm then .idle else eu.timer }

/-- A wake (R184) with the line levels of the moment: device, guard, watch, timer, record and cause. -/
def State.wakeWith (cause : WakeCause) (lines : LineLevels) (s : State) : State :=
  { s with
    mo := startWatch s.env { s.mo with eu := s.mo.eu.wake cause, hg := .armed lines }
    moments := s.moments + 1 }

/-- A wake (R184); the line levels at that moment are free. -/
def State.wake (cause : WakeCause) (s : State) : State := s.wakeWith cause (freeLevels s.moments)

/-- An event that is a wake cause when its enable is set (R183). -/
def State.wakeIf (enabled : Bool) (cause : WakeCause) (s : State) : State :=
  if s.parked && enabled then s.wake cause else s

/-- A frame wakes a PARKED part (R166). -/
def State.frameWake (s : State) : State := s.wakeIf true .frame

/-! ## Time base and Pass Timer (R179, R180) -/

/-- A count lowered by one while it runs. -/
def downBy1 (n : Option Nat) : Option Nat := n.map (· - 1)

/-- One ms of the Pass Timer: a tick each tick-base ms lowers the working count; a count at 0 stays there
until its reload or expiry is taken (R180). -/
def TimerRun.tick (t : TimerRun) : TimerRun :=
  if t.state = .stopped ∨ t.count = 0 then t
  else if t.tickBase ≤ t.ms + 1 then { t with ms := 0, count := t.count - 1 }
  else { t with ms := t.ms + 1 }

/-- The dwell counts while the segment is in DWELL (R99). -/
def SegRun.tick (sr : SegRun) : SegRun :=
  if sr.phase = .dwell then { sr with dwellLeft := sr.dwellLeft - 1 } else sr

/-- One ms in the motion blocks: the time base, the watch, the dwell and the Pass Timer (R179). -/
def Motion.tick (m : Motion) : Motion :=
  { m with
    dp := { m.dp with watch := downBy1 m.dp.watch }
    re := { m.re with seg := m.re.seg.map SegRun.tick }
    eu := { m.eu with time := m.eu.time + 1, timer := m.eu.timer.tick } }

/-- One ms of the time base (R179), the burn's count included (R187). -/
def State.tick (s : State) : State :=
  { s with
    mo := s.mo.tick
    cs := { s.cs with burn := s.cs.burn.map fun b => { b with left := b.left - 1 } } }

/-- The working count has reached 0 in PASS or ALARM. -/
def TimerRun.due (t : TimerRun) : Bool := t.state ≠ .stopped && t.count = 0

/-- A reload (R180): the working count takes the reload value and the reloads left fall by 1. -/
def TimerRun.takeReload (t : TimerRun) : TimerRun :=
  if t.due && 0 < t.reloads then { t with count := t.reload, reloads := t.reloads - 1 } else t

/-- The Pass Timer expires (R180): in PASS the Route Engine takes it (R108), in ALARM the part wakes (R183). -/
def State.timerExpiry (s : State) : State :=
  if s.mo.eu.timer.due && s.mo.eu.timer.reloads = 0 then
    let q : State := { s with mo := { s.mo with eu := { s.mo.eu with timer := .idle } } }
    match s.mo.eu.timer.state with
    | .pass => q.engine fun _ m => passExpired m
    | .alarm => q.wakeIf true .timer
    | .stopped => s
  else s

/-! ## Requests -/

/-- The Woke record's code (section 12.1). -/
def wokeCode : Option WakeCause → Nat
  | none => 0
  | some .frame => 1
  | some .line => 2
  | some .moved => 3
  | some .undocked => 4
  | some .batteryLow => 5
  | some .timer => 6

/-- The Event Unit after a READ EVENTS (R176). -/
def EventUnit.readOut (eu : EventUnit) : EventUnit :=
  { eu with flags := 0, slipSeen := false, jumpSeen := false, woke := none,
            enables := eu.enables &&& ~~~eu.asserting }

/-- READ EVENTS (R176). -/
def serveReadEvents (s : State) : Answer :=
  let eu := s.mo.eu
  ({ s with mo := { s.mo with eu := eu.readOut } },
   .done (halfBytes eu.flags ++
     [byte (bitsByte [eu.slipSeen, eu.jumpSeen]), byte (wokeCode eu.woke)] ++ halfBytes eu.readOut.enables))

/-- ARM NOTICES (R177). -/
def serveArmNotices (set clear : Half) (s : State) : Answer :=
  if set &&& clear ≠ 0 then (s, .invalid 3 (lowestCause (set &&& clear)))
  else
    let e := (s.mo.eu.enables ||| set) &&& ~~~clear
    ({ s with mo := { s.mo with eu := { s.mo.eu with enables := e } } }, .done (halfBytes e))

/-- ARM WAKE (R178). -/
def serveArmWake (hazard undocked battery : Byte) (s : State) : Answer :=
  if 1 < hazard then (s, .invalid 2 0)
  else if 1 < undocked then (s, .invalid 3 0)
  else if 1 < battery then (s, .invalid 4 0)
  else
    ({ s with mo := { s.mo with eu := { s.mo.eu with
        wakeHazard := hazard = 1, wakeUndocked := undocked = 1, wakeBattery := battery = 1 } } },
     .done [hazard, undocked, battery])

/-- A tick base the timer has (R180). -/
def tickBaseOk (t : Half) : Bool := t = 1 || t = 10 || t = 100 || t = 1000

/-- SET PASS TIMER (R181). -/
def serveSetPassTimer (tickBase : Half) (initial reload reloadCount : Byte) (s : State) : Answer :=
  if tickBaseOk tickBase = false then (s, .invalid 2 0)
  else if reload = 0 then (s, .invalid 4 0)
  else if s.mo.eu.timer.state = .pass then (s, .rejected .notIdle)
  else
    ({ s with mo := { s.mo with eu := { s.mo.eu with settings :=
        { tickBase := tickBase.toNat, initial := initial.toNat, reload := reload.toNat,
          reloadCount := reloadCount.toNat } } } },
     .done [])

/-- What PARK does to the motion blocks (R115, R150, R182). -/
def Motion.park (alarm : Bool) (m : Motion) : Motion :=
  let q : Motion :=
    { m with
      hg := { m.hg with state := .off, fl := .reset, fr := .reset, sl := .reset, sr := .reset,
                        window := none }
      dp := { m.dp with watch := none }
      eu := { m.eu with device := .parked } }
  if alarm then startTimer .alarm q else q

/-- The conditions of PARK (R182). -/
def State.mayPark (s : State) : Bool :=
  s.mo.re.state = .idle && s.mo.dp.grant.state = .none && !s.filling && s.cs.burn.isNone

/-- PARK (R182). -/
def servePark (alarm : Byte) (s : State) : Answer :=
  if 1 < alarm then (s, .invalid 2 0)
  else if alarm = 1 ∧ s.mo.eu.settings.initial = 0 then (s, .invalid 2 0)
  else if s.mayPark = false then (s, .rejected .notIdle)
  else ({ s with mo := s.mo.park (alarm = 1) }, .done [])

end Sys2Proof.Machine
end

