-- ==== Sys2Proof/Machine/Pose.lean ====
section
/-! DEFINITION. Pose.lean: the Pose Unit (chapter 2): the baseline, the eleven stages of an integrated
report, the jump, and the pose requests. -/

namespace Sys2Proof.Machine
open Sys2Proof

/-- The deltas of stage 1 (R34). -/
structure Deltas where
  left  : Int
  right : Int
  yaw   : Int
  deriving DecidableEq, Repr

/-- A 16-bit count's signed difference (R34). -/
def countDelta (new old : Half) : Int := signed16 (new.toNat + 65536 - old.toNat)

/-- Stage 1 (R34). -/
def Baseline.deltas (b : Baseline) (r : Report) : Deltas :=
  { left := countDelta r.left b.left, right := countDelta r.right b.right, yaw := countDelta r.yaw b.yaw }

/-- A jump (R35). -/
def Deltas.jump (d : Deltas) : Bool := 2047 < d.left.natAbs || 2047 < d.right.natAbs || 4095 < d.yaw.natAbs

/-- The baseline a report leaves, Held (R33, R35). -/
def Report.baseline (r : Report) : Baseline := { left := r.left, right := r.right, yaw := r.yaw, held := true }

/-- U raised by an amount, saturating (R30). -/
def raiseU (u n : Nat) : Nat := min Config.uMax (u + n)

/-- Stage 2: d2, twice the centre's travel in 1/16 µm (R36). -/
def Deltas.d2 (d : Deltas) (tickScale : Nat) : Int := d.left * tickScale + d.right * tickScale

/-- Stage 4: the mid heading (R38). -/
def midHeading (theta : Nat) (dG : Int) : Nat := wrapHeading (theta + dG / 2)

/-- Stage 5: the displacement (R39). -/
def displacement (d2 : Int) (f : Nat) (mid : Nat) : Int × Int :=
  (rhaz (d2 * f * cosT mid) 134217728, rhaz (d2 * f * sinV mid) 134217728)

/-- Stage 6: a coordinate after its clamp (R40). -/
def clampCoord (v : Int) : Nat := clampTo Config.mapMax v

/-- Stage 6: whether a coordinate is clamped (R40). -/
def outOfMap (v : Int) : Bool := v < 0 || (Config.mapMax : Int) < v

/-- Stage 8: the travel t (R42). -/
def travelOf (d2 : Int) (f : Nat) : Nat := (rhaz (d2 * f).natAbs 8192).toNat

/-- Stage 9: the wheels' heading change hw (R43). -/
def wheelTurn (d : Deltas) (cal : Calibration) : Int :=
  rhaz ((d.right * cal.tickScale - d.left * cal.tickScale) * 10430) (16000 * cal.wheelBase)

/-- Stage 9: the mismatch m (R43). -/
def mismatch (d : Deltas) (cal : Calibration) : Nat := (wheelTurn d cal - d.yaw).natAbs

/-- Stage 9: the slip counter after the report, and whether a slip is declared (R43). -/
def slipTest (tun : Tuning) (cal : Calibration) (d : Deltas) (slip : Nat) : Nat × Bool :=
  if tun.slipLimit = 0 then (0, false)
  else if mismatch d cal ≤ tun.slipLimit then (0, false)
  else if tun.slipReports ≤ slip + 1 then (0, true)
  else (slip + 1, false)

/-- What stages 2 to 9 work out for a report. -/
structure PoseStep where
  x       : Nat
  y       : Nat
  theta   : Nat
  u       : Nat
  slip    : Nat
  clamped : Bool
  slipped : Bool
  travel  : Nat
  deriving DecidableEq, Repr

/-- Stages 2 to 9 (R36 to R43), with the rug factor of stage 3. -/
def integrate (tun : Tuning) (cal : Calibration) (f : Nat) (d : Deltas) (pu : PoseUnit) : PoseStep :=
  let d2 := d.d2 cal.tickScale
  let move := displacement d2 f (midHeading pu.theta d.yaw)
  let t := travelOf d2 f
  let grown := raiseU pu.u (t * tun.growthRate / 1024)
  let st := slipTest tun cal d pu.slip
  { x := clampCoord (pu.x + move.1), y := clampCoord (pu.y + move.2), theta := wrapHeading (pu.theta + d.yaw),
    u := if st.2 then raiseU grown tun.slipPenalty else grown, slip := st.1,
    clamped := outOfMap (pu.x + move.1) || outOfMap (pu.y + move.2), slipped := st.2, travel := t }

/-- Stage 3: the rug factor from the centre cell's class (R37). -/
def rugFactor (tun : Tuning) (cls : CellClass) : Nat := if cls = .rug then tun.rugFactor else 256

/-- The pose unit after an integrated report. -/
def PoseUnit.moved (r : Report) (d : Deltas) (p : PoseStep) (pu : PoseUnit) : PoseUnit :=
  { pu with x := p.x, y := p.y, theta := p.theta, u := p.u, centre := cellOf p.x p.y, base := r.baseline,
            slip := p.slip, travel := p.travel, turn := d.yaw }

/-- The pose unit after a baseline report (R33). DESIGN CHOICE (assumption 35): a report that hands on no travel
leaves the held travel and turn at 0. -/
def PoseUnit.baselined (r : Report) (pu : PoseUnit) : PoseUnit :=
  { pu with base := r.baseline, slip := 0, travel := 0, turn := 0 }

/-- The pose unit after a jump (R35); the held travel and turn at 0 (DESIGN CHOICE, assumption 35). -/
def PoseUnit.jumped (tun : Tuning) (r : Report) (pu : PoseUnit) : PoseUnit :=
  { pu with base := r.baseline, u := raiseU pu.u tun.jumpPenalty, travel := 0, turn := 0 }

/-- The Lost comparison (R46). -/
def State.lostTest (s : State) : State :=
  if s.tun.lostLimit ≤ s.mo.pu.u then s.engine fun _ m => lostIndication m else s

/-- A Slip raising with sub-cause Slip (R174). -/
def EventUnit.raiseSlip (eu : EventUnit) : EventUnit := EventUnit.raise .slip { eu with slipSeen := true }

/-- A Slip raising with sub-cause Jump (R174). -/
def EventUnit.raiseJump (eu : EventUnit) : EventUnit := EventUnit.raise .slip { eu with jumpSeen := true }

/-- The causes stages 6 and 9 raise (R40, R43). -/
def EventUnit.posed (p : PoseStep) (eu : EventUnit) : EventUnit :=
  let e := if p.clamped then eu.raise .edgeClamp else eu
  if p.slipped then e.raiseSlip else e

/-- The amount done rises by the report's travel, or by its turn under a Rotate, while a grant is outstanding
(R45, R62). -/
def RouteEngine.credit (g : GrantRec) (t : Nat) (dG : Int) (re : RouteEngine) : RouteEngine :=
  if g.state.outstanding then
    { re with amountDone := re.amountDone + (if g.kind = .rotate then dG else (t : Int)) }
  else re

/-- The visited mark of the cell the centre enters (R44). -/
def FloorMap.enter (old new : CellIx) (fm : FloorMap) : FloorMap :=
  if new ≠ old ∧ (fm.cellAt new).visited = false then fm.visit new else fm

/-- The stages 2 to 10 of an integrated report, with what R45 hands on. -/
def State.integrateReport (r : Report) (d : Deltas) (s : State) : State :=
  let p := integrate s.tun s.cs.working (rugFactor s.tun (s.fm.cellAt s.mo.pu.centre).cls) d s.mo.pu
  { s with
    fm := s.fm.enter s.mo.pu.centre (cellOf p.x p.y)
    mo := { s.mo with pu := s.mo.pu.moved r d p, eu := s.mo.eu.posed p,
                      re := s.mo.re.credit s.mo.dp.grant p.travel d.yaw } }

/-- The Moved indication wakes a PARKED part (R45, R183). -/
def State.movedWake (d : Deltas) (s : State) : State :=
  s.wakeIf (s.mo.eu.wakeHazard && (d.left ≠ 0 || d.right ≠ 0)) .moved

/-- The Pose Unit takes a report: a baseline, a jump or an integration, then the Lost comparison (R32 to
R46). -/
def State.takePose (r : Report) (s : State) : State :=
  if s.mo.pu.base.held = false ∨ r.restart then
    { s with mo := { s.mo with pu := s.mo.pu.baselined r } }
  else
    let d := s.mo.pu.base.deltas r
    if d.jump then
      State.lostTest
        { s with mo := { s.mo with pu := s.mo.pu.jumped s.tun r, eu := s.mo.eu.raiseJump } }
    else ((s.integrateReport r d).movedWake d).lostTest

/-! ## Requests -/

/-- The pose record of READ POSE (section 12.2). -/
def PoseUnit.bytes (pu : PoseUnit) : List Byte :=
  leBytes 4 pu.x ++ leBytes 4 pu.y ++ leBytes 2 pu.theta ++ leBytes 4 pu.u ++
  [byte pu.centre.cx, byte pu.centre.cy, flagByte pu.base.held, byte pu.slip]

/-- FIX POSE (R47). -/
def serveFixPose (x y : Word) (theta : Half) (u : Word) (s : State) : Answer :=
  if Config.mapMax < x.toNat then (s, .invalid 2 0)
  else if Config.mapMax < y.toNat then (s, .invalid 3 0)
  else if Config.uMax < u.toNat then (s, .invalid 5 0)
  else if s.mo.dp.grant.state.outstanding || s.checking then (s, .rejected .grantActive)
  else
    (State.lostTest
      { s with mo := { s.mo with pu := { s.mo.pu with
          x := x.toNat, y := y.toNat, theta := theta.toNat, u := u.toNat,
          centre := cellOf x.toNat y.toNat, slip := 0 } } },
     .done [])

/-- READ POSE (R49). -/
def serveReadPose (s : State) : Answer := (s, .done s.mo.pu.bytes)

/-- The standoff point (R153). -/
def standoffPoint (x y theta standoff : Nat) : Int × Int :=
  pointAlong x y (wrapHeading (theta + 32768)) (standoff * 1000 : Nat)

/-- A standoff, 0 standing for the default of 300 (R153). -/
def standoffOf (d : Half) : Nat := if d = 0 then 300 else d.toNat

/-- The first bad field of a SET DOCK POSE in the form Set (R153). -/
def dockPoseBad (x y : Word) (theta standoff : Half) : Option Nat :=
  if Config.mapMax < x.toNat then some 3
  else if Config.mapMax < y.toNat then some 4
  else if standoffOf standoff < 150 ∨ 600 < standoffOf standoff then some 6
  else
    let p := standoffPoint x.toNat y.toNat theta.toNat (standoffOf standoff)
    if (cellOfPoint p.1 p.2).isNone then some 6 else none

/-- A Dock segment is in progress. -/
def RouteEngine.docking (re : RouteEngine) : Bool :=
  match re.seg with
  | some sr => sr.seg.kind = .dock
  | none => false

/-- SET DOCK POSE in the form Set (R153). -/
def serveSetDock (x y : Word) (theta standoff : Half) (s : State) : Answer :=
  match dockPoseBad x y theta standoff with
  | some n => (s, .invalid n 0)
  | none =>
    if s.mo.re.docking then (s, .rejected .inUse)
    else
      let p := standoffPoint x.toNat y.toNat theta.toNat (standoffOf standoff)
      let d : DockPose :=
        { x := x.toNat, y := y.toNat, theta := theta.toNat, standoff := standoffOf standoff,
          sx := p.1.toNat, sy := p.2.toNat }
      ({ s with mo := { s.mo with du := { s.mo.du with pose := some d } } },
       .done (leBytes 4 d.sx ++ leBytes 4 d.sy))

/-- SET DOCK POSE in the form Clear (R153). -/
def serveClearDock (s : State) : Answer :=
  if s.mo.re.docking then (s, .rejected .inUse)
  else if s.mo.du.pose.isNone then (s, .rejected .noDockPose)
  else ({ s with mo := { s.mo with du := { s.mo.du with pose := none } } }, .done [])

/-- SET DOCK POSE (R153). -/
def serveSetDockPose (form : Byte) (x y : Word) (theta standoff : Half) (s : State) : Answer :=
  match form.toNat with
  | 0 => serveSetDock x y theta standoff s
  | 1 => serveClearDock s
  | _ => (s, .invalid 2 0)

end Sys2Proof.Machine
end

