-- ==== Sys2Proof/Machine/Guard.lean ====
section
/-! DEFINITION. Guard.lean: the Hazard Guard (chapter 7): cliff samples and their confirmation, wheel-drop and
bump trips, the bump window, and what a trip does. -/

namespace Sys2Proof.Machine
open Sys2Proof

/-! ## Marks and trips (R141 to R146) -/

/-- The mark of a trip at a point: none outside the map or with the pose lost (R142). -/
def State.tripMark (p : Int × Int) (cause : MarkCause) (sensor : MarkSensor) (s : State) :
    Option SensedMark :=
  if s.tun.lostLimit ≤ s.mo.pu.u then none
  else (cellOfPoint p.1 p.2).map fun c => { cell := c, cause := cause, sensor := sensor }

/-- The latch is set (R141). -/
def Motion.latch (m : Motion) : Motion := { m with hg := { m.hg with state := .tripped } }

/-- The latch and the Stop of a trip taken while ARMED; a further trip makes neither (R141, R144). -/
def State.tripStop (s : State) : State :=
  match s.mo.hg.state with
  | .armed => { s with mo := askStop .hazard s.mo.latch }
  | .tripped => s
  | .off => s

/-- A trip: latch and Stop, the mark, the word to the Route Engine, HazardTrip (R141, R143, R144). In OFF no
trip occurs. -/
def State.trip (o : SegOutcome) (mark : Option SensedMark) (s : State) : State :=
  if s.mo.hg.state = .off then s
  else
    let q := ((s.tripStop).markIf mark).engine fun _ m => tripReported o m
    { q with mo := q.mo.raise .hazardTrip }

/-! ## Cliff sensors (R134 to R137) -/

/-- The name of a sensor in marks (R133). -/
def sensorMark : CliffSensor → MarkSensor
  | .fl => .fl
  | .fr => .fr
  | .sl => .sl
  | .sr => .sr

/-- A sensor's offset forward and to the left, in mm (R134). -/
def sensorOffset (c : Calibration) : CliffSensor → Int × Int
  | .fl => (c.flF, c.flL)
  | .fr => (c.frF, c.frL)
  | .sl => (c.slF, c.slL)
  | .sr => (c.srF, c.srL)

/-- A sensor's record. -/
def HazardGuard.cliff (hg : HazardGuard) : CliffSensor → CliffRec
  | .fl => hg.fl
  | .fr => hg.fr
  | .sl => hg.sl
  | .sr => hg.sr

/-- A sensor's record is set. -/
def HazardGuard.setCliff (hg : HazardGuard) (k : CliffSensor) (r : CliffRec) : HazardGuard :=
  match k with
  | .fl => { hg with fl := r }
  | .fr => { hg with fr := r }
  | .sl => { hg with sl := r }
  | .sr => { hg with sr := r }

/-- The projected point of a sample (R134). -/
def State.projected (k : CliffSensor) (s : State) : Int × Int :=
  pointBeside s.mo.pu.x s.mo.pu.y s.mo.pu.theta (sensorOffset s.cs.working k).1 (sensorOffset s.cs.working k).2 1000

/-- The class a sample reads, Unknown outside the map (R134). -/
def State.classUnder (k : CliffSensor) (s : State) : CellClass :=
  match cellOfPoint (s.projected k).1 (s.projected k).2 with
  | some c => (s.fm.cellAt c).cls
  | none => .unknown

/-- The required count for a class; over Dock a sample does not trip (R136). -/
def requiredCount (tun : Tuning) : CellClass → Option Nat
  | .rug => some tun.rugConfirm
  | .dock => none
  | .unknown => some 1
  | .free => some 1
  | .obstacle => some 1
  | .cliff => some 1
  | .keepOut => some 1

/-- A sensor after a sample, and whether it trips (R136). -/
def CliffRec.sample (tun : Tuning) (cls : CellClass) (level : Nat) (r : CliffRec) : CliffRec × Bool :=
  if tun.cliffLevel ≤ level then ({ state := .clear, count := 0 }, false)
  else if r.state = .tripped then (r, false)
  else
    let n := min 15 (r.count + 1)
    match requiredCount tun cls with
    | some k => if k ≤ n then ({ state := .tripped, count := n }, true) else ({ state := .suspect, count := n }, false)
    | none => ({ state := .suspect, count := n }, false)

/-- A cliff sample (R136); OFF takes none (R151). -/
def State.cliffSample (k : CliffSensor) (level : Byte) (s : State) : State :=
  if s.mo.hg.state = .off then s
  else
    let r := (s.mo.hg.cliff k).sample s.tun (s.classUnder k) level.toNat
    let q : State := { s with mo := { s.mo with hg := s.mo.hg.setCliff k r.1 } }
    if r.2 then q.trip .cliffStop (s.tripMark (s.projected k) .cliffTrip (sensorMark k)) else q

/-! ## Lines (R138 to R140, R151) -/

/-- The mark point of a wheel-drop; `lat` is the lateral offset in µm (R139). -/
def wheelPoint (pu : PoseUnit) (lat : Int) : Int × Int := pointBeside pu.x pu.y pu.theta 0 lat 1

/-- Half the wheel base in µm (R139). -/
def halfBase (cal : Calibration) : Int := (cal.wheelBase * 500 : Nat)

/-- A wheel-drop trip (R139). -/
def State.wheelTrip (left : Bool) (s : State) : State :=
  let lat := if left then halfBase s.cs.working else -halfBase s.cs.working
  s.trip .cliffStop (s.tripMark (wheelPoint s.mo.pu lat) .wheelDrop (if left then .wl else .wr))

/-- The mark point of a bump or a stall: RobotRadius + 25 mm from the centre along a heading (R127, R140). -/
def bodyPoint (cal : Calibration) (x y h : Nat) : Int × Int :=
  pointAlong x y h ((cal.robotRadius + 25) * 1000 : Nat)

/-- The direction of a bump's side mark (R140). -/
def BumpWindow.sideHeading (w : BumpWindow) : Nat :=
  if w.byLeft then wrapHeading (w.theta + 5461) else wrapHeading ((w.theta : Int) - 5461)

/-- The window closes, with the mark of one side or of both bumpers (R140). -/
def State.closeWindow (both : Bool) (w : BumpWindow) (s : State) : State :=
  let h := if both then w.theta else w.sideHeading
  let sensor : MarkSensor := if both then .bb else if w.byLeft then .bl else .br
  let q : State := { s with mo := { s.mo with hg := { s.mo.hg with window := none } } }
  q.markIf (s.tripMark (bodyPoint s.cs.working w.x w.y h) .bump sensor)

/-- Milliseconds since a window opened. -/
def State.windowAge (w : BumpWindow) (s : State) : Nat := (s.mo.eu.time - w.time).toNat

/-- A bump trip opens its window (R140): the pose and the time are recorded and the trip is taken; its mark
waits for the close. -/
def State.openWindow (left : Bool) (s : State) : State :=
  let w : BumpWindow :=
    { byLeft := left, x := s.mo.pu.x, y := s.mo.pu.y, theta := s.mo.pu.theta, time := s.mo.eu.time }
  let q : State := { s with mo := { s.mo with hg := { s.mo.hg with window := some w } } }
  q.trip .bumpStop none

/-- A bumper's assertion (R140). DEDUCED (assumption 16): a window older than 5 ms whose close has not been
taken closes first. -/
def State.bumpTrip (left : Bool) (s : State) : State :=
  match s.mo.hg.window with
  | none => s.openWindow left
  | some w =>
    if Config.bumpWindow < s.windowAge w then (s.closeWindow false w).openWindow left
    else if w.byLeft = left then s
    else s.closeWindow true w

/-- An assertion of a line while the guard watches (R139, R140). -/
def State.lineTrip (line : SwitchLine) (s : State) : State :=
  match line with
  | .wl => s.wheelTrip true
  | .wr => s.wheelTrip false
  | .bl => s.bumpTrip true
  | .br => s.bumpTrip false

/-- The held sample of a line is updated (R138). -/
def State.holdLine (line : SwitchLine) (v : Bool) (s : State) : State :=
  { s with mo := { s.mo with hg := { s.mo.hg with lines := s.mo.hg.lines.set line v } } }

/-- A line's assertion wakes a PARKED part (R151, R183, R184). The line that woke it is known to stand
asserted; the levels of the others at that moment are free. -/
def State.lineWake (line : SwitchLine) (s : State) : State :=
  if s.parked && s.mo.eu.wakeHazard then s.wakeWith .line ((freeLevels s.moments).set line true) else s

/-- A line sample (R138): an assertion when the line is asserted and its held sample was not; a trip while
the guard watches, a wake cause while it is OFF. -/
def State.lineSample (line : SwitchLine) (now : Bool) (s : State) : State :=
  let q := s.holdLine line now
  if now && !s.mo.hg.lines.get line then
    if s.mo.hg.state = .off then q.lineWake line else q.lineTrip line
  else q

/-- 5 ms have passed with no other bumper (R140). -/
def State.windowTimeout (s : State) : State :=
  match s.mo.hg.window with
  | some w => if Config.bumpWindow ≤ s.windowAge w then s.closeWindow false w else s
  | none => s

end Sys2Proof.Machine
end

