-- ==== Sys2Proof/Machine/Report.lean ====
section
/-! DEFINITION. Report.lean: what the Drive Port does with the bytes of RXD and with an accepted report
(sections 6.1, 6.2 and 6.4), the battery latch and the guard's own release. -/

namespace Sys2Proof.Machine
open Sys2Proof

/-! ## The receiver (R117) -/

/-- The receiver takes bytes and discards what must be discarded (R117). -/
def DrivePort.receive (bytes : List Byte) (dp : DrivePort) : DrivePort :=
  { dp with rx := huntFrame (dp.rx ++ bytes) }

/-- The reports received whole that wait in the receiver, one behind another, without what must be discarded
between them and without the frame cut short behind the last (R117). The number bounds how many are looked for. -/
def wholeFrames : Nat → List Byte → List Byte
  | 0, _ => []
  | n + 1, rx =>
    match takeFrame rx with
    | some (_, rest) => rx.take 15 ++ wholeFrames n (huntFrame rest)
    | none => []

/-- A gap of more than 100 µs (R117). A frame cut short is discarded; a frame that began inside it is cut short
by the same gap, so nothing is left but the reports received whole (assumption 14). -/
def DrivePort.gap (dp : DrivePort) : DrivePort := { dp with rx := wholeFrames dp.rx.length dp.rx }

/-! ## The link (R114 to R116) -/

/-- The link and watch on an accepted report (R114 to R116). -/
def State.takeLink (s : State) : State :=
  let m := s.mo
  let q : Motion := { m with dp := { m.dp with link := .online } }
  let w := startWatch s.env q
  { s with mo := if m.dp.link = .silent then w.raise .driveBack else w }

/-! ## The grant record (R125 to R130) -/

/-- A DriveFault without a settling limit (R129): the Stop, then the word to the Route Engine. -/
def State.faultGrant (s : State) : State :=
  s.engine fun _ m => driveFailure .driveFault (askStop .fault m)

/-- The miss count (R125, R128). -/
def Motion.setMiss (n : Nat) (m : Motion) : Motion :=
  { m with dp := { m.dp with grant := { m.dp.grant with miss := n } } }

/-- The settle count (R130). -/
def Motion.setSettle (n : Nat) (m : Motion) : Motion :=
  { m with dp := { m.dp with grant := { m.dp.grant with settle := n } } }

/-- A miss (R125, R128). -/
def State.missReport (s : State) : State :=
  let n := s.mo.dp.grant.miss + 1
  let q : State := { s with mo := s.mo.setMiss n }
  if s.tun.echoLimit ≤ n then q.faultGrant else q

/-- The direction of a stall mark (R127). -/
def stallHeading (kind : GrantKind) (theta : Nat) : Nat :=
  match kind with
  | .reverse => wrapHeading (theta + 32768)
  | .travel => theta
  | .creep => theta
  | .rotate => theta

/-- The stall mark, where its point lies in the map (R127). -/
def State.stallMark (s : State) : Option SensedMark :=
  let p := bodyPoint s.cs.working s.mo.pu.x s.mo.pu.y (stallHeading s.mo.dp.grant.kind s.mo.pu.theta)
  (cellOfPoint p.1 p.2).map fun c => { cell := c, cause := .stall, sensor := .drv }

/-- A Stalled report under an ACTIVE grant: the Stop, the mark, then the outcome (R126). -/
def State.stallReport (s : State) : State :=
  State.engine (fun _ m => pieceStopped .stall none m)
    (State.markIf s.stallMark { s with mo := askStop .hazard s.mo })

/-- A Done under an ACTIVE grant (R126). -/
def State.doneReport (s : State) : State := s.engine fun env m => pieceDone env (endGrant m)

/-- A report that echoes an ACTIVE grant (R126). -/
def State.activeReport (d : DriveState) (s : State) : State :=
  let q : State := { s with mo := s.mo.setMiss 0 }
  match d with
  | .moving => { q with mo := q.mo.reachStage 3 }
  | .done => q.doneReport
  | .stalled => q.stallReport
  | .holding => q.faultGrant
  | .idle => q.faultGrant

/-- The echo of a SENT grant (R125): ACTIVE, stage 2, then the same report as for ACTIVE. -/
def State.echoReport (d : DriveState) (s : State) : State :=
  State.activeReport d { s with mo := (setGrantState .active s.mo).reachStage 2 }

/-- A report while STOPPING (R130). -/
def State.settleReport (d : DriveState) (s : State) : State :=
  match d with
  | .holding => s.engine fun env m => grantSettled env (endGrant m)
  | .idle => s.engine fun env m => grantSettled env (endGrant m)
  | _ =>
    let n := s.mo.dp.grant.settle + 1
    let q : State := { s with mo := s.mo.setSettle n }
    if s.tun.echoLimit ≤ n then q.engine fun _ m => driveFailure .driveFault (endGrant m) else q

/-- Step 3 of an accepted report (R119). -/
def State.takeGrant (r : Report) (s : State) : State :=
  match s.mo.dp.grant.state with
  | .none => s
  | .sent => if r.echo.toNat = s.mo.dp.grant.id then s.echoReport r.drive else s.missReport
  | .active => if r.echo.toNat = s.mo.dp.grant.id then s.activeReport r.drive else s.missReport
  | .stopping => s.settleReport r.drive

/-- The beacon judgement of CLOSE under a grant that is still ACTIVE (R159). -/
def State.closeJudgement (s : State) : State :=
  match s.mo.re.seg with
  | some sr =>
    if sr.phase = .close ∧ sr.wait = .grant ∧ s.mo.dp.grant.state = .active then
      { s with mo := judgeClose s.env s.mo }
    else s
  | none => s

/-- The drive shows that it is at rest. -/
def DriveState.atRest : DriveState → Bool
  | .holding => true
  | .idle => true
  | .moving => false
  | .done => false
  | .stalled => false

/-- The guard releases its own latch (R148). -/
def State.selfRelease (d : DriveState) (s : State) : State :=
  if s.mo.re.seg = none ∧ d.atRest ∧ s.mo.dp.grant.state = .none then { s with mo := releaseGuard s.mo }
  else s

/-! ## The battery (R112) -/

/-- The battery level of a report after its clamp (R118). -/
def Report.level (r : Report) : Nat := min 100 r.battery.toNat

/-- The conditions under which a crossing posts the Priority List (R112, R183). -/
def State.mayHome (s : State) : Bool :=
  !s.parked && s.mo.re.priority.homeOnLow && s.mo.re.priority.entries ≠ [] &&
  (s.mo.re.state = .idle || (s.mo.re.state = .running && s.mo.re.active = some .main)) &&
  !s.mo.re.switchPending

/-- The battery latch is set, in the motion blocks. -/
def Motion.setLatch (l : BatteryLatch) (m : Motion) : Motion := { m with re := { m.re with latch := l } }

/-- A crossing (R112): it may wake a PARKED part first (R183), and then raises and posts. -/
def State.crossing (s : State) : State :=
  let q := s.wakeIf s.mo.eu.wakeBattery .batteryLow
  let p : State := { q with mo := (q.mo.setLatch .below).raise .batteryLow }
  if p.mayHome then p.engine fun _ m => postList false m else p

/-- Step 4 of an accepted report (R112). -/
def State.takeBattery (level : Nat) (s : State) : State :=
  match s.mo.re.latch with
  | .above => if level < s.tun.homeLevel then s.crossing else s
  | .below => if s.tun.homeLevel + 5 ≤ level then { s with mo := s.mo.setLatch .above } else s

/-! ## The report whole (R119) -/

/-- Step 5 of an accepted report (R119). -/
def State.takeSense (r : Report) (s : State) : State :=
  { s with mo := { s.mo with dp := { s.mo.dp with seq := r.seq, battery := r.level } } }

/-- An accepted report (R119). -/
def State.takeReport (r : Report) (s : State) : State :=
  ((((((s.takeLink).takePose r).takeGrant r).closeJudgement.selfRelease r.drive).takeBattery r.level)).takeSense r

/-- The beacon lines as they stand. -/
def State.setBeacon (b : Beacon) (s : State) : State :=
  { s with mo := { s.mo with du := { s.mo.du with beacon := b } } }

/-- Bytes on RXD that may complete a report (R117, R119): with one received whole, the bytes after it stay in
the receiver and it is taken. -/
def State.driveBytes (bytes : List Byte) (s : State) : State :=
  let dp := s.mo.dp.receive bytes
  match takeFrame dp.rx with
  | some (r, rest) => State.takeReport r { s with mo := { s.mo with dp := { dp with rx := huntFrame rest } } }
  | none => { s with mo := { s.mo with dp := dp } }

/-! ## The watch (R115, R131) -/

/-- An outstanding grant is dropped on the watch's expiry (R131); the waiting Trims removed are those of the grant
(DESIGN CHOICE, assumption 45). -/
def dropGrant (m : Motion) : Motion :=
  let stopped := if m.dp.grant.state = .stopping then m else makeFrame (.stop m.dp.grant.id .fault) (dropTrims m)
  endGrant (dropTrims stopped)

/-- The watch expires (R115, R131). -/
def State.watchExpiry (s : State) : State :=
  if s.mo.dp.watch = some 0 then
    let q : State := { s with mo := (loseLink .silent s.mo).raise .driveSilent }
    if s.mo.dp.grant.state.outstanding then q.engine fun _ m => driveFailure .driveLost (dropGrant m) else q
  else s

end Sys2Proof.Machine
end

