-- ==== Sys2Proof/Machine/Lists.lean ====
section
/-! DEFINITION. Lists.lean: the requests over the Segment Pool, the run lists and the route (chapters 4
and 5). -/

namespace Sys2Proof.Machine
open Sys2Proof

/-! ## The Segment Pool (R67 to R73) -/

/-- The kind of a code; Empty and unknown codes are refused (R69, section 12.3). -/
def SegKind.ofByte (b : Byte) : Option SegKind :=
  match b.toNat with
  | 1 => some .rotate
  | 2 => some .line
  | 3 => some .reverse
  | 4 => some .dock
  | _ => none

/-- A kind whose heading present field is checked (R69). -/
def SegKind.hasHeading : SegKind → Bool
  | .rotate => true
  | .line => true
  | .reverse => false
  | .dock => false

/-- The first of a list of checks that fails, by the field it names. -/
def firstFault : List (Bool × Nat) → Option Nat
  | [] => none
  | (bad, n) :: rest => if bad then some n else firstFault rest

/-- The first bad field of a segment record of a kind (R69, step 3). -/
def segmentBad (k : SegKind) (f : SegmentFields) : Option Nat :=
  firstFault
    [(k = .line && Config.mapMax < f.targetX.toNat, 4),
     (k = .line && Config.mapMax < f.targetY.toNat, 5),
     (k.hasHeading && 1 < f.headingPresent.toNat, 6),
     (k = .rotate && f.headingPresent = 0, 6),
     (k = .reverse && f.reverseDist = 0, 8),
     (f.speed = 0, 9),
     (7 < f.retries.toNat, 11),
     (k = .line && 1 < f.altPresent.toNat, 13),
     (k = .line && f.altPresent = 1 && Config.mapMax < f.altX.toNat, 14),
     (k = .line && f.altPresent = 1 && Config.mapMax < f.altY.toNat, 15)]

/-- The stored speed (R70). -/
def storedSpeed (v : Half) : Nat := max 20 (min 500 v.toNat)

/-- The stored reverse distance (R70). -/
def storedDistance (v : Half) : Nat := min 500 v.toNat

/-- The record as it is stored (R70): the fields the kind does not use are zero, no or absent. -/
def storedSegment (k : SegKind) (f : SegmentFields) : Segment :=
  { kind := k
    targetX := if k = .line then f.targetX.toNat else 0
    targetY := if k = .line then f.targetY.toNat else 0
    heading := if k.hasHeading && f.headingPresent = 1 then some f.heading.toNat else none
    reverseDist := if k = .reverse then storedDistance f.reverseDist else 0
    speed := storedSpeed f.speed
    allowUnknown := (k = .line || k = .dock) && f.flags.getLsbD 0
    avoidRug := (k = .line || k = .dock) && f.flags.getLsbD 1
    notify := f.flags.getLsbD 2
    retries := f.retries.toNat
    dwell := f.dwell.toNat
    alt := if k = .line && f.altPresent = 1 then some (f.altX.toNat, f.altY.toNat) else none }

/-- The marks of a LOAD SEGMENT's DONE (R70, section 12.1). DESIGN CHOICE (assumption 40): Distance adjusted is set
for a Reverse alone, as the table of R70 names it, and not for the zero a kind that has no distance is stored with. -/
def loadMarks (k : SegKind) (f : SegmentFields) : Byte :=
  byte (bitsByte [storedSpeed f.speed ≠ f.speed.toNat,
    k = .reverse && storedDistance f.reverseDist ≠ f.reverseDist.toNat])

/-- A slot is named by an entry that is ahead in an engaged list (R71, R72). -/
def RouteEngine.namedAhead (re : RouteEngine) (id : ListId) (slot : Nat) : Bool :=
  re.engaged id && ((re.list id).entries.drop (re.list id).position).any fun e => e.slot = slot

/-- A slot is named by any entry of a list (R73). -/
def RunList.names (l : RunList) (slot : Nat) : Bool := l.entries.any fun e => e.slot = slot

/-- A pool slot takes a record or becomes Empty. -/
def RouteEngine.setSlot (re : RouteEngine) (slot : Nat) (seg : Option Segment) : RouteEngine :=
  { re with pool := Memory.write none re.pool slot seg }

/-- A change to the Route Engine. -/
def State.setRe (re : RouteEngine) (s : State) : State := { s with mo := { s.mo with re := re } }

/-- LOAD SEGMENT (R69, R70, R72). -/
def serveLoadSegment (slot : Byte) (f : SegmentFields) (s : State) : Answer :=
  if 127 < slot.toNat then (s, .invalid 2 0)
  else
    match SegKind.ofByte f.kind with
    | none => (s, .invalid 3 0)
    | some k =>
      match segmentBad k f with
      | some n => (s, .invalid n 0)
      | none =>
        if s.mo.re.namedAhead .main slot.toNat || s.mo.re.namedAhead .priority slot.toNat then
          (s, .rejected .inUse)
        else
          (s.setRe (s.mo.re.setSlot slot.toNat (some (storedSegment k f))), .done [loadMarks k f])

/-- CLEAR SEGMENT (R73). -/
def serveClearSegment (slot : Byte) (s : State) : Answer :=
  if 127 < slot.toNat then (s, .invalid 2 0)
  else if s.mo.re.main.names slot.toNat || s.mo.re.priority.names slot.toNat then (s, .rejected .inUse)
  else (s.setRe (s.mo.re.setSlot slot.toNat none), .done [])

/-! ## The run lists (R74 to R77, R83) -/

/-- The list of a code (section 12.3). -/
def ListId.ofByte (b : Byte) : Option ListId :=
  match b.toNat with
  | 0 => some .main
  | 1 => some .priority
  | _ => none

/-- Entries a list holds (R74). -/
def ListId.cap : ListId → Nat
  | .main => 64
  | .priority => 16

/-- The place of the first slot number that names no record, counted from n (R76). -/
def firstBadSlot (re : RouteEngine) : Nat → List Byte → Option Nat
  | _, [] => none
  | n, b :: bs =>
    if 127 < b.toNat ∨ (re.slotAt b.toNat).isNone then some n else firstBadSlot re (n + 1) bs

/-- A list as LOAD LIST leaves it (R77), with the values R74 fixes for the other list's fields. -/
def loadedList (id : ListId) (passes flags : Byte) (slots : List Byte) : RunList :=
  { entries := slots.map fun b => { slot := b.toNat, desc := .fresh }
    position := 0
    passes := if id = .main then passes.toNat else 1
    passesDone := 0
    stopOnHazard := flags.getLsbD 0
    homeOnLow := id = .priority && flags.getLsbD 1 }

/-- LOAD LIST (R76, R77). -/
def serveLoadList (list length passes flags : Byte) (slots : List Byte) (s : State) : Answer :=
  match ListId.ofByte list with
  | none => (s, .invalid 2 0)
  | some id =>
    if id.cap < length.toNat then (s, .invalid 3 0)
    else if slots.length ≠ length.toNat then (s, .invalid 3 0)
    else
      match firstBadSlot s.mo.re 0 slots with
      | some n => (s, .invalid 6 n)
      | none =>
        if s.mo.re.engaged id then (s, .rejected .inUse)
        else (s.setRe (s.mo.re.setList id (loadedList id passes flags slots)), .done [])

/-- The list image of READ LIST (section 12.3). -/
def RouteEngine.image (re : RouteEngine) (id : ListId) : List Byte :=
  let l := re.list id
  let flags := bitsByte [l.stopOnHazard, l.homeOnLow, re.engaged id, id = .main && re.suspended.isSome]
  [byte (if id = .main then 0 else 1), byte l.entries.length, byte l.position, byte l.passes,
   byte l.passesDone, byte flags] ++ l.entries.flatMap fun e => byte e.slot :: e.desc.bytes

/-- READ LIST (R83). -/
def serveReadList (list : Byte) (s : State) : Answer :=
  match ListId.ofByte list with
  | none => (s, .invalid 2 0)
  | some id => (s, .done (s.mo.re.image id))

/-! ## The route (R86, R109, R110, R113) -/

/-- Why a START ROUTE is refused (R86). -/
def State.startRefusal (s : State) : Option Reason :=
  if s.mo.re.state = .halted then some .halted
  else if s.mo.re.state ≠ .idle then some .notIdle
  else if s.mo.re.main.entries = [] then some .listEmpty
  else if s.mo.dp.link ≠ .online then some .driveOffline
  else if s.tun.lostLimit ≤ s.mo.pu.u then some .notLocalised
  else none

/-- The Main List as START ROUTE Fresh sets it up (R86). -/
def RunList.fromStart (l : RunList) : RunList := { l with position := 0, passesDone := 0 }

/-- The Main List as START ROUTE Resume sets it up (R86). -/
def RunList.resumed (suspended : Bool) (l : RunList) : RunList :=
  if suspended = false ∧ l.position = l.entries.length then { l with position := 0 } else l

/-- An accepted START ROUTE (R86). -/
def startMain (fresh : Bool) (m : Motion) : Motion :=
  let l := if fresh then m.re.main.fromStart else m.re.main.resumed m.re.suspended.isSome
  runList .main { m with re := { m.re with main := l, suspended := none } }

/-- START ROUTE (R86). -/
def serveStartRoute (mode : Byte) (s : State) : Answer :=
  if 1 < mode then (s, .invalid 2 0)
  else
    match s.startRefusal with
    | some r => (s, .rejected r)
    | none => (s.engine fun _ m => startMain (mode = 0) m, .done [])

/-- The engine is running a list (R84). -/
def RouteEngine.active? (re : RouteEngine) : Bool := re.state = .running || re.state = .draining

/-- What STOP ROUTE does in RUNNING or DRAINING (R108, R109). -/
def stopRoute (env : Env) (mode : Nat) (m : Motion) : Motion :=
  match mode with
  | 0 => stopLater .atSegment m
  | 1 => stopLater .atPass m
  | _ => stopNow env m

/-- STOP ROUTE (R109). -/
def serveStopRoute (mode : Byte) (s : State) : Answer :=
  if 2 < mode then (s, .invalid 2 0)
  else if s.mo.re.active? then (s.engine fun env m => stopRoute env mode.toNat m, .done [])
  else (s, .done [])

/-- Why a POST PRIORITY is refused (R110). -/
def RouteEngine.postRefusal (re : RouteEngine) : Option Reason :=
  if re.priority.entries = [] then some .listEmpty
  else if re.state = .halted then some .halted
  else if (re.active? && re.active = some .priority) || re.switchPending then some .priorityActive
  else none

/-- An Urgent posting with a fault pending acts as STOP ROUTE Now does, with the posting waiting as a pending
switch (R110). -/
def postUrgentFault (env : Env) (m : Motion) : Motion :=
  let q := stopNow env m
  { q with re := { q.re with switchPending := true, priority := { q.re.priority with position := 0 } } }

/-- An accepted POST PRIORITY (R110). -/
def postPriority (urgent : Bool) (env : Env) (m : Motion) : Motion :=
  if urgent && m.re.faultPending then postUrgentFault env m else postList urgent m

/-- POST PRIORITY (R110). -/
def servePostPriority (urgent : Byte) (s : State) : Answer :=
  if 1 < urgent then (s, .invalid 2 0)
  else
    match s.mo.re.postRefusal with
    | some r => (s, .rejected r)
    | none => (s.engine fun env m => postPriority (urgent = 1) env m, .done [])

/-- The engine after an accepted ACKNOWLEDGE (R113). -/
def RouteEngine.acknowledged (re : RouteEngine) : RouteEngine :=
  { re with state := .idle, haltedOn := none, tally := 0, haltCause := none }

/-- ACKNOWLEDGE (R113). -/
def serveAcknowledge (s : State) : Answer :=
  if s.mo.re.state ≠ .halted then (s, .done [])
  else if s.mo.re.haltCause = some .lost ∧ s.tun.lostLimit ≤ s.mo.pu.u then (s, .rejected .notLocalised)
  else (s.setRe s.mo.re.acknowledged, .done [])

end Sys2Proof.Machine
end

