-- ==== Sys2Proof/Machine/Store.lean ====
section
/-! DEFINITION. Store.lean: the Calibration Store and its one-time slots, the tuning block, the two resets
(chapter 11, R170) and the sense record (sections 9.5 and 12.5). -/

namespace Sys2Proof.Machine
open Sys2Proof

/-! ## Tuning (R170, R171) -/

/-- WRITE TUNING (R170). -/
def serveWriteTuning (t : Tuning) (s : State) : Answer :=
  match firstOutside 2 tuningRanges (tuningList t) with
  | some n => (s, .invalid n 0)
  | none => ({ s with tun := t }, .done [])

/-- READ TUNING (R171). -/
def serveReadTuning (s : State) : Answer := (s, .done (tuningBytes s.tun))

/-! ## The calibration record and its slots (R185 to R188) -/

/-- WRITE CALIBRATION (R185). -/
def serveWriteCalibration (c : Calibration) (s : State) : Answer :=
  match calibrationOutside c with
  | some n => (s, .invalid n 0)
  | none =>
    if s.mo.re.state ≠ .idle then (s, .rejected .notIdle)
    else ({ s with cs := { s.cs with working := c } }, .done [])

/-- The code of a slot's state (section 12.1). -/
def CalSlot.code : CalSlot → Nat
  | .blank => 0
  | .written _ => 1
  | .spoiled => 2

/-- The code of the calibration source (section 12.1). -/
def CalSource.code : CalSource → Nat
  | .defaults => 0
  | .first => 1
  | .second => 2

/-- READ CALIBRATION (R185). -/
def serveReadCalibration (s : State) : Answer :=
  (s, .done (calibrationBytes s.cs.working ++
    [byte s.cs.first.code, byte s.cs.second.code, byte s.cs.source.code]))

/-- The slot a burn chooses (R187). -/
def CalStore.burnSlot (cs : CalStore) : Option SlotId :=
  if cs.first = .blank then some .first else if cs.second = .blank then some .second else none

/-- BURN CALIBRATION (R187). -/
def serveBurnCalibration (s : State) : Answer :=
  if s.cs.burn.isSome then (s, .busy)
  else if s.mo.re.state ≠ .idle then (s, .rejected .notIdle)
  else
    match s.cs.burnSlot with
    | none => (s, .rejected .slotsExhausted)
    | some k =>
      let b : Burn := { slot := k, copy := s.cs.working, left := Config.burnTime }
      ({ s with cs := { s.cs with burn := some b } }, .started)

/-- A slot takes a state. -/
def CalStore.setSlot (cs : CalStore) (k : SlotId) (v : CalSlot) : CalStore :=
  match k with
  | .first => { cs with first := v }
  | .second => { cs with second := v }

/-- The end of a burn (R187): the slot is Written with the burn's copy, and BurnDone is raised. -/
def State.burnEnd (s : State) : State :=
  match s.cs.burn with
  | some b =>
    if b.left = 0 then
      { s with cs := { s.cs.setSlot b.slot (.written b.copy) with burn := none }, mo := s.mo.raise .burnDone }
    else s
  | none => s

/-- A burn cut short by a power-on reset spoils its slot (R186). -/
def CalStore.spoil (cs : CalStore) : CalStore :=
  match cs.burn with
  | some b => { cs.setSlot b.slot .spoiled with burn := none }
  | none => cs

/-- The load at power-on (R188). -/
def CalStore.load (cs : CalStore) : CalStore :=
  match cs.second, cs.first with
  | .written r, _ => { cs with working := r, source := .second, calDefault := false }
  | _, .written r => { cs with working := r, source := .first, calDefault := false }
  | _, _ => { cs with working := Config.calibration, source := .defaults, calDefault := true }

/-! ## Resets (R167, R189 and each block's chapter) -/

/-- A power-on reset (R189, steps 1 and 2): every block at its power-on values, the calibration loaded, the map
sweep about to begin. The cells and the Sector Table stand until the sweep writes them (assumption 2), and the
lines' levels are free (assumption 3). What waits to be commanded is no part of the FN-212 and stays. -/
def State.powerOn (s : State) : State :=
  { State.reset with
    fm := { FloorMap.reset with cells := s.fm.cells, sectors := s.fm.sectors }
    cs := s.cs.spoil.load
    mo := { Motion.reset with hg := .armed (freeLevels s.moments) }
    moments := s.moments + 1
    pending := s.pending }

/-- The Floor Map after a soft reset (R2, R12, R14, R19, R23, R29). -/
def FloorMap.soft (fm : FloorMap) : FloorMap :=
  { fm with win := .whole, cursor := { cx := 0, cy := 0 }, mode := .reset, mapHeld := false, fill := none,
            changes := [], changeLost := false }

/-- The Pose Unit after a soft reset (R31). -/
def PoseUnit.soft (pu : PoseUnit) : PoseUnit :=
  { pu with base := { pu.base with held := false }, slip := 0, travel := 0, turn := 0 }

/-- A descriptor after a soft reset (R82); the tries begun and the alternate are the segment's in progress. -/
def Descriptor.soft (time : Word) (attempts : Nat) (alt : Bool) (d : Descriptor) : Descriptor :=
  if d.outcome = .inProgress then
    { d with outcome := .recorded .cancelled, finish := time, attempts := max 1 attempts, altUsed := alt,
             blocking := none, endError := 0 }
  else d

/-- A list after a soft reset (R74, R82). -/
def RunList.soft (time : Word) (attempts : Nat) (alt : Bool) (l : RunList) : RunList :=
  { l with entries := l.entries.map fun e => { e with desc := e.desc.soft time attempts alt },
           position := 0, passesDone := 0 }

/-- A try at the alternate target has been begun. -/
def RouteEngine.altBegun (re : RouteEngine) : Bool :=
  match re.seg with
  | some sr => sr.seg.altTry re.attempt
  | none => false

/-- The Route Engine after a soft reset (R67, R74, R82, R84, R85, R173). -/
def RouteEngine.soft (time : Word) (re : RouteEngine) : RouteEngine :=
  { RouteEngine.reset with
    pool := re.pool
    main := re.main.soft time re.attempt re.altBegun
    priority := re.priority.soft time re.attempt re.altBegun }

/-- The Drive Port after a soft reset (R120, R132): the waiting frames are removed, a Cancel Stop is made for
an outstanding grant, the record is NONE, the link OFFLINE, and a part-received frame is discarded. DESIGN CHOICE
(assumption 38): with it goes a report received whole whose DRIVE_REPORT has not been taken. -/
def softDrive (m : Motion) : Motion :=
  let q : Motion := { m with dp := { m.dp with txQueue := [] } }
  let p := if m.dp.grant.state.outstanding then makeFrame (.stop m.dp.grant.id .cancel) q else q
  let r := setGrantState .none p
  { r with dp := { r.dp with link := .offline, watch := none, rx := [] } }

/-- The Dock Unit after a soft reset (R153, R154). -/
def DockUnit.soft (du : DockUnit) : DockUnit :=
  { du with phase := .none, docked := false, seekTurn := 0, lossCount := 0, losses := 0, closeTravel := 0,
            beamSeen := false, lastPattern := none }

/-- The Event Unit after a soft reset (R174, R175, R178 to R180, R182). -/
def EventUnit.soft (eu : EventUnit) : EventUnit :=
  { EventUnit.reset with time := eu.time, settings := eu.settings }

/-- The motion blocks after a soft reset (R61, R62, R150 and the blocks' own rules). -/
def Motion.soft (lines : LineLevels) (m : Motion) : Motion :=
  { pu := m.pu.soft, cu := .reset, re := m.re.soft m.eu.time, dp := (softDrive m).dp, hg := .armed lines,
    du := m.du.soft, eu := m.eu.soft }

/-- A soft reset of every block (R167); the lines' levels are free (assumption 3). -/
def State.softReset (s : State) : State :=
  { s with
    fm := s.fm.soft
    mo := s.mo.soft (freeLevels s.moments)
    pp := { s.pp with slot := none, buffer := none }
    moments := s.moments + 1 }

/-- SOFT RESET (R167, R187). -/
def serveSoftReset (s : State) : Answer :=
  if s.cs.burn.isSome then (s, .busy) else (s.softReset, .done [])

/-! ## The sense record (R172, section 12.5) -/

/-- The code of an engine state. -/
def EngineState.code : EngineState → Nat
  | .idle => 0
  | .running => 1
  | .draining => 2
  | .halted => 3

/-- The code of the active list, 0 for none. -/
def activeCode : Option ListId → Nat
  | none => 0
  | some .main => 1
  | some .priority => 2

/-- The code of an outcome, 0 for none. -/
def outcomeCode (o : Option SegOutcome) : Nat := (o.map SegOutcome.code).getD 0

/-- The progress byte. -/
def Progress.code (p : Progress) : Nat :=
  p.stage + 16 * bitsByte [p.retryInUse, p.altInUse, p.guardTrip, p.unknownSeen]

/-- The code of a guard state. -/
def GuardState.code : GuardState → Nat
  | .armed => 0
  | .tripped => 1
  | .off => 2

/-- The code of a cliff sensor's state. -/
def CliffState.code : CliffState → Nat
  | .clear => 0
  | .suspect => 1
  | .tripped => 2

/-- The code of a link state. -/
def LinkState.code : LinkState → Nat
  | .offline => 0
  | .online => 1
  | .silent => 2

/-- The code of a grant state. -/
def GrantState.code : GrantState → Nat
  | .none => 0
  | .sent => 1
  | .active => 2
  | .stopping => 3

/-- The code of a dock phase. -/
def DockPhase.code : DockPhase → Nat
  | .none => 0
  | .approach => 1
  | .seek => 2
  | .close => 3
  | .mate => 4
  | .docked => 5

/-- The dock phase the sense record shows (R154). -/
def Motion.shownPhase (m : Motion) : DockPhase :=
  if m.re.docking then m.du.phase else if m.du.docked then .docked else .none

/-- The flags of the sense record. -/
def State.senseFlags (s : State) : Nat :=
  bitsByte [s.fm.sweep.isSome, s.filling, s.cs.burn.isSome, s.fm.changeLost, s.fm.mapHeld, s.cs.calDefault,
    s.mo.re.suspended.isSome]

/-- The Route Engine's items, bytes 2 to 16. -/
def RouteEngine.senseBytes (re : RouteEngine) : List Byte :=
  [byte re.state.code, byte (if re.sub = .passWait then 1 else 0), byte (activeCode re.active),
   byte re.main.position, byte re.priority.position, byte re.main.passesDone,
   byte (re.poolIndex.getD 255), byte re.progress.code, byte re.attempt, byte re.tally,
   byte (outcomeCode re.haltCause), byte (outcomeCode re.lastOutcome), flagByte re.lastBlocking.isSome] ++
  cellBytes re.lastBlocking

/-- The Pose Unit's items, bytes 17 to 32. -/
def PoseUnit.senseBytes (pu : PoseUnit) : List Byte :=
  leBytes 4 pu.x ++ leBytes 4 pu.y ++ leBytes 2 pu.theta ++ [byte pu.centre.cx, byte pu.centre.cy] ++
  leBytes 4 pu.u

/-- The Hazard Guard's items, bytes 37 to 41. -/
def HazardGuard.senseBytes (hg : HazardGuard) : List Byte :=
  [byte hg.state.code, byte hg.fl.state.code, byte hg.fr.state.code, byte hg.sl.state.code,
   byte hg.sr.state.code]

/-- The Drive Port's items, bytes 42 to 46. -/
def DrivePort.senseBytes (dp : DrivePort) : List Byte :=
  [byte dp.link.code, byte dp.grant.state.code, byte dp.grant.id, dp.seq, byte dp.battery]

/-- The sense record, 50 bytes. -/
def State.senseRecord (s : State) : List Byte :=
  [flagByte (s.mo.eu.device = .parked), byte s.senseFlags] ++ s.mo.re.senseBytes ++ s.mo.pu.senseBytes ++
  leBytes 4 s.fm.coverage ++ s.mo.hg.senseBytes ++ s.mo.dp.senseBytes ++
  [byte s.mo.shownPhase.code, byte s.cs.source.code, byte s.fm.changes.length]

/-- READ SENSE (R172). -/
def serveReadSense (s : State) : Answer := (s, .done s.senseRecord)

end Sys2Proof.Machine
end

