-- ==== Sys2Proof/Machine/Port.lean ====
section
/-! DEFINITION. Port.lean: the Planner Port (sections 9.1 and 9.2): frames and their taking, the order in which
a frame is dealt with, the response slot, FETCH, and the meanings of FETCH, TRANSACTION END and INVALID FRAME. -/

namespace Sys2Proof.Machine
open Sys2Proof

/-- The outcome of a command: no command of the FN-212 stops. -/
abbrev Result := Host.Outcome State Fault Refusal

/-! ## Serving (R166) -/

/-- The owner of a request, handed its fields (R166, step 5). A command that is no request is never handed
here; it would be a code that names none. -/
def serve (i : Instr) : State → Answer :=
  match i with
  | .setWindow a b c d e f g => serveSetWindow a b c d e f g
  | .setCursor a b => serveSetCursor a b
  | .writeCells cells => serveWriteCells cells
  | .readCells n => serveReadCells n
  | .fillWindow b => serveFillWindow b
  | .releaseHazard a b c => serveReleaseHazard a b c
  | .readSectors a b => serveReadSectors a b
  | .readChanges n => serveReadChanges n
  | .fixPose x y t u => serveFixPose x y t u
  | .readPose => serveReadPose
  | .setDockPose f x y t d => serveSetDockPose f x y t d
  | .loadSegment slot f => serveLoadSegment slot f
  | .clearSegment slot => serveClearSegment slot
  | .loadList l n p f slots => serveLoadList l n p f slots
  | .readList l => serveReadList l
  | .startRoute m => serveStartRoute m
  | .stopRoute m => serveStopRoute m
  | .postPriority u => servePostPriority u
  | .acknowledge => serveAcknowledge
  | .writeTuning t => serveWriteTuning t
  | .readTuning => serveReadTuning
  | .writeCalibration c => serveWriteCalibration c
  | .readCalibration => serveReadCalibration
  | .burnCalibration => serveBurnCalibration
  | .readEvents => serveReadEvents
  | .armNotices a b => serveArmNotices a b
  | .armWake a b c => serveArmWake a b c
  | .setPassTimer t i r n => serveSetPassTimer t i r n
  | .readSense => serveReadSense
  | .park a => servePark a
  | .softReset => serveSoftReset
  | .powerOnReset => fun s => (s, .invalid 0 0)
  | .mapSweepProgress _ => fun s => (s, .invalid 0 0)
  | .mapSweepDone => fun s => (s, .invalid 0 0)
  | .timeBaseTick => fun s => (s, .invalid 0 0)
  | .transactionEnd _ => fun s => (s, .invalid 0 0)
  | .fetch _ => fun s => (s, .invalid 0 0)
  | .invalidFrame _ _ _ => fun s => (s, .invalid 0 0)
  | .fillProgress _ => fun s => (s, .invalid 0 0)
  | .fillDone => fun s => (s, .invalid 0 0)
  | .burnDone => fun s => (s, .invalid 0 0)
  | .checkBegin => fun s => (s, .invalid 0 0)
  | .checkSample => fun s => (s, .invalid 0 0)
  | .checkResult _ => fun s => (s, .invalid 0 0)
  | .recheckResult => fun s => (s, .invalid 0 0)
  | .heldGrantRelease => fun s => (s, .invalid 0 0)
  | .txFrameDone => fun s => (s, .invalid 0 0)
  | .rxFrameDiscard _ => fun s => (s, .invalid 0 0)
  | .rxGapTimeout => fun s => (s, .invalid 0 0)
  | .driveReport _ _ => fun s => (s, .invalid 0 0)
  | .dwellEnd => fun s => (s, .invalid 0 0)
  | .driveWatchExpiry => fun s => (s, .invalid 0 0)
  | .cliffSample _ _ => fun s => (s, .invalid 0 0)
  | .lineSample _ _ => fun s => (s, .invalid 0 0)
  | .bumpWindowTimeout => fun s => (s, .invalid 0 0)
  | .dckSample _ => fun s => (s, .invalid 0 0)
  | .contactChange => fun s => (s, .invalid 0 0)
  | .passTimerReload => fun s => (s, .invalid 0 0)
  | .passTimerExpiry => fun s => (s, .invalid 0 0)

/-- The code of READ SENSE, the one request the map sweep does not hold off (R166, R172). -/
def senseCode : Byte := 0x54

/-- A frame whose length is above 1024, or that has more body bytes than its length gives (R166, step 2). -/
def Frame.badEnvelope (f : Frame) : Bool := 1024 < f.length.toNat || f.length.toNat < f.body.length

/-- The map sweep holds a request off (R166, step 4). -/
def State.sweepHolds (code : Byte) (s : State) : Bool := s.fm.sweep.isSome && code ≠ senseCode

/-- Steps 2 to 5 of R166, with the owner that the frame's code and body name. -/
def dealWith (f : Frame) (owner : State → Answer) (s : State) : Answer :=
  if f.badEnvelope then (s, .invalid 1 0)
  else if s.sweepHolds f.code then (s, .busy)
  else owner s

/-- A frame is taken for serving: the slot is emptied, and a PARKED part wakes (R166, step 1). -/
def State.takeFrame (s : State) : State := State.frameWake { s with pp := { s.pp with slot := none } }

/-- What a frame's code and body lead to (R166, steps 3 and 5). A code that names no request is judged before
the sweep is. DESIGN CHOICE (assumption 39): the length of a body is judged before every other check of its
owner, also for a request with no body fields. -/
def serveFrame (f : Frame) (s : State) : Answer :=
  match parseRequest f.code f.body with
  | .noCode => if f.badEnvelope then (s, .invalid 1 0) else (s, .invalid 0 0)
  | .badLength => dealWith f (fun q => (q, .invalid 1 0)) s
  | .request i => dealWith f (serve i) s

/-- The response is placed: the slot takes it, so RDY rises (R167). -/
def State.place (a : Answer) : State := { a.1 with pp := { a.1.pp with slot := some a.2 } }

/-- An answer is held until its owner places it (R165). -/
def State.holdAnswer (a : Answer) : State := { a.1 with pp := { a.1.pp with serving := some a.2 } }

/-- A complete frame waits in the receive buffer, replacing one that waits (R165). -/
def State.bufferFrame (f : Frame) (s : State) : State := { s with pp := { s.pp with buffer := some f } }

/-- The part shifts out 0 in every byte of a request transaction (R164). -/
def State.misoZeros (n : Nat) (s : State) : State :=
  { s with pp := { s.pp with miso := List.replicate n 0 } }

/-- A request whose frame arrives complete and whose response is placed in the same step (R165 to R167). While
another request is being served its frame waits instead. -/
def State.request (i : Instr) (owner : State → Answer) (s : State) : Result :=
  match requestFrame i with
  | none => .next s
  | some f =>
    let q := s.misoZeros (3 + f.body.length)
    if s.pp.serving.isSome then .next (q.bufferFrame f)
    else .next (State.place (dealWith f owner q.takeFrame))

/-- A complete frame on its own: taken and served, its answer held until it is placed; while another request
is being served it waits (R165). -/
def State.arrive (f : Frame) (s : State) : State :=
  if s.pp.serving.isSome then s.bufferFrame f else State.holdAnswer (serveFrame f s.takeFrame)

/-- The answer of the request being served is placed, and a frame that waits is then taken (R165, R167). -/
def State.placeHeld (s : State) : State :=
  match s.pp.serving with
  | none => s
  | some r =>
    let q : State := { s with pp := { s.pp with slot := some r, serving := none, buffer := none } }
    match s.pp.buffer with
    | none => q
    | some f => q.arrive f

/-! ## FETCH (R168) -/

/-- The bytes a FETCH shifts out, without the zeros after them. -/
def PlannerPort.outBytes (pp : PlannerPort) : List Byte :=
  match pp.slot with
  | some r => r.bytes
  | none => emptyBytes

/-- A FETCH in which n bytes are clocked out after its code (R168). -/
def PlannerPort.fetch (n : Nat) (pp : PlannerPort) : PlannerPort :=
  { pp with
    miso := (pp.outBytes ++ List.replicate n 0).take n
    slot := if pp.outBytes.length ≤ n then none else pp.slot }

/-- A FETCH wakes a PARKED part and is then served (R166, R168). -/
def State.fetch (n : Nat) (s : State) : State :=
  let q := s.frameWake
  { q with pp := q.pp.fetch n }

/-- FETCH (R168). -/
def execFetch (n : Nat) (s : State) : Result := .next (s.fetch n)

/-! ## Transactions (R164) -/

/-- How a transaction's bytes are judged when SELN rises (R164). -/
inductive Transaction where
  | empty
  | fetch (clocked : Nat)
  | aborted
  | complete (f : Frame)
  deriving DecidableEq, Repr

/-- The body bytes a frame keeps of those clocked in after its length (R164): its own length's and one more that
shows it oversize, and no more than 1024 of a frame too long. -/
def keptBody (length : Half) (rest : List Byte) : List Byte :=
  rest.take (if 1024 < length.toNat then 1024 else length.toNat + 1)

/-- A request transaction's judgement from its code, its length and the bytes after them (R164). -/
def judgeRequest (code : Byte) (length : Half) (rest : List Byte) : Transaction :=
  if length.toNat ≤ 1024 ∧ rest.length < length.toNat then .aborted
  else .complete { code := code, length := length, body := keptBody length rest }

/-- The judgement of a transaction (R164). -/
def judgeTransaction : List Byte → Transaction
  | [] => .empty
  | code :: rest =>
    if code = 0 then .fetch rest.length
    else
      match rest with
      | l0 :: l1 :: body => judgeRequest code (half l0 l1) body
      | _ => .aborted

/-- TRANSACTION END (R164): SELN rises after these bytes were clocked in. -/
def execTransactionEnd (bytes : List Byte) (s : State) : Result :=
  match judgeTransaction bytes with
  | .empty => .next s
  | .fetch n => .next (s.fetch n)
  | .aborted => .next (s.misoZeros bytes.length)
  | .complete f => .next ((s.misoZeros bytes.length).arrive f)

/-- INVALID FRAME (R164, R166): the frame arrives complete, is taken, and its answer is placed in the same
step. -/
def execInvalidFrame (code : Byte) (length : Half) (body : List Byte) (s : State) : Result :=
  let f : Frame := { code := code, length := length, body := keptBody length body }
  let q := s.misoZeros (3 + body.length)
  if s.pp.serving.isSome then .next (q.bufferFrame f) else .next (State.place (serveFrame f q.takeFrame))

end Sys2Proof.Machine
end

