-- ==== Sys2Proof/Machine/Requests.lean ====
section
/-! DEFINITION. Requests.lean: the meanings of the requests of the catalogue (section 9.3). Each is its owner's
work, taken and answered by the Planner Port as R165 to R167 give. -/

namespace Sys2Proof.Machine
open Sys2Proof

/-- SET WINDOW (R15). -/
def execSetWindow (xs xe ys ye primary xDir yDir : Byte) (s : State) : Result :=
  s.request (.setWindow xs xe ys ye primary xDir yDir) (serveSetWindow xs xe ys ye primary xDir yDir)

/-- SET CURSOR (R16). -/
def execSetCursor (cx cy : Byte) (s : State) : Result :=
  s.request (.setCursor cx cy) (serveSetCursor cx cy)

/-- WRITE CELLS (R18). -/
def execWriteCells (cells : List Byte) (s : State) : Result :=
  s.request (.writeCells cells) (serveWriteCells cells)

/-- READ CELLS (R20). -/
def execReadCells (count : Half) (s : State) : Result :=
  s.request (.readCells count) (serveReadCells count)

/-- FILL WINDOW (R21). -/
def execFillWindow (cell : Byte) (s : State) : Result :=
  s.request (.fillWindow cell) (serveFillWindow cell)

/-- RELEASE HAZARD (R9). -/
def execReleaseHazard (cx cy cls : Byte) (s : State) : Result :=
  s.request (.releaseHazard cx cy cls) (serveReleaseHazard cx cy cls)

/-- READ SECTORS (R13). -/
def execReadSectors (start count : Byte) (s : State) : Result :=
  s.request (.readSectors start count) (serveReadSectors start count)

/-- READ CHANGES (R28). -/
def execReadChanges (count : Byte) (s : State) : Result :=
  s.request (.readChanges count) (serveReadChanges count)

/-- FIX POSE (R47). -/
def execFixPose (x y : Word) (theta : Half) (u : Word) (s : State) : Result :=
  s.request (.fixPose x y theta u) (serveFixPose x y theta u)

/-- READ POSE (R49). -/
def execReadPose (s : State) : Result :=
  s.request .readPose serveReadPose

/-- SET DOCK POSE (R153). -/
def execSetDockPose (form : Byte) (x y : Word) (theta standoff : Half) (s : State) : Result :=
  s.request (.setDockPose form x y theta standoff) (serveSetDockPose form x y theta standoff)

/-- LOAD SEGMENT (R69). -/
def execLoadSegment (slot : Byte) (fields : SegmentFields) (s : State) : Result :=
  s.request (.loadSegment slot fields) (serveLoadSegment slot fields)

/-- CLEAR SEGMENT (R73). -/
def execClearSegment (slot : Byte) (s : State) : Result :=
  s.request (.clearSegment slot) (serveClearSegment slot)

/-- LOAD LIST (R76). -/
def execLoadList (list length passes flags : Byte) (slots : List Byte) (s : State) : Result :=
  s.request (.loadList list length passes flags slots) (serveLoadList list length passes flags slots)

/-- READ LIST (R83). -/
def execReadList (list : Byte) (s : State) : Result :=
  s.request (.readList list) (serveReadList list)

/-- START ROUTE (R86). -/
def execStartRoute (mode : Byte) (s : State) : Result :=
  s.request (.startRoute mode) (serveStartRoute mode)

/-- STOP ROUTE (R109). -/
def execStopRoute (mode : Byte) (s : State) : Result :=
  s.request (.stopRoute mode) (serveStopRoute mode)

/-- POST PRIORITY (R110). -/
def execPostPriority (urgent : Byte) (s : State) : Result :=
  s.request (.postPriority urgent) (servePostPriority urgent)

/-- ACKNOWLEDGE (R113). -/
def execAcknowledge (s : State) : Result :=
  s.request .acknowledge serveAcknowledge

/-- WRITE TUNING (R170). -/
def execWriteTuning (block : Tuning) (s : State) : Result :=
  s.request (.writeTuning block) (serveWriteTuning block)

/-- READ TUNING (R171). -/
def execReadTuning (s : State) : Result :=
  s.request .readTuning serveReadTuning

/-- WRITE CALIBRATION (R185). -/
def execWriteCalibration (record : Calibration) (s : State) : Result :=
  s.request (.writeCalibration record) (serveWriteCalibration record)

/-- READ CALIBRATION (R185). -/
def execReadCalibration (s : State) : Result :=
  s.request .readCalibration serveReadCalibration

/-- BURN CALIBRATION (R187). -/
def execBurnCalibration (s : State) : Result :=
  s.request .burnCalibration serveBurnCalibration

/-- READ EVENTS (R176). -/
def execReadEvents (s : State) : Result :=
  s.request .readEvents serveReadEvents

/-- ARM NOTICES (R177). -/
def execArmNotices (set clear : Half) (s : State) : Result :=
  s.request (.armNotices set clear) (serveArmNotices set clear)

/-- ARM WAKE (R178). -/
def execArmWake (hazard undocked battery : Byte) (s : State) : Result :=
  s.request (.armWake hazard undocked battery) (serveArmWake hazard undocked battery)

/-- SET PASS TIMER (R181). -/
def execSetPassTimer (tickBase : Half) (initial reload reloadCount : Byte) (s : State) : Result :=
  s.request (.setPassTimer tickBase initial reload reloadCount)
    (serveSetPassTimer tickBase initial reload reloadCount)

/-- READ SENSE (R172). -/
def execReadSense (s : State) : Result :=
  s.request .readSense serveReadSense

/-- PARK (R182). -/
def execPark (alarm : Byte) (s : State) : Result :=
  s.request (.park alarm) (servePark alarm)

/-- SOFT RESET (R167). -/
def execSoftReset (s : State) : Result :=
  s.request .softReset serveSoftReset

end Sys2Proof.Machine
end

