-- ==== Sys2Proof/Machine/Occurrences.lean ====
section
/-! DEFINITION. Occurrences.lean: the meanings of the commands that are no requests: resets and the sweep, the
time base, and the events of the fill, the burn, the checks, the drive, the lines, the dock and the Pass Timer.
An event whose condition does not hold changes nothing (assumption 5). -/

namespace Sys2Proof.Machine
open Sys2Proof

/-! ## Power-on, the sweep, the time base -/

/-- POWER ON RESET (R189). -/
def execPowerOnReset (s : State) : Result := .next s.powerOn

/-- MAP SWEEP PROGRESS (R189): the sweep writes its next `count` cells. -/
def execMapSweepProgress (count : Nat) (s : State) : Result :=
  .next { s with fm := s.fm.sweepSteps count }

/-- The sweep has written its last cell. -/
def FloorMap.sweepOver (fm : FloorMap) : Bool := fm.sweep = some Config.gridCells

/-- MAP SWEEP DONE (R189, step 4). -/
def execMapSweepDone (s : State) : Result :=
  if s.fm.sweepOver then .next { s with fm := { s.fm with sweep := none } } else .next s

/-- TIME BASE TICK (R179). -/
def execTimeBaseTick (s : State) : Result := .next s.tick

/-! ## The fill and the burn -/

/-- Cells a fill has left before its last. -/
def State.fillLeft (s : State) : Nat :=
  match s.fm.fill with
  | some f => f.left - 1
  | none => 0

/-- FILL PROGRESS (R22): the fill presents its next `count` cells, short of its last. -/
def execFillProgress (count : Nat) (s : State) : Result := .next (s.fillSteps (min count s.fillLeft))

/-- The fill has one cell left. -/
def State.fillAtLast (s : State) : Bool :=
  match s.fm.fill with
  | some f => f.left = 1
  | none => false

/-- FILL DONE (R22): the fill presents its last cell and ends. -/
def execFillDone (s : State) : Result := if s.fillAtLast then .next s.fillStep.fillEnd else .next s

/-- BURN DONE (R187). -/
def execBurnDone (s : State) : Result := .next s.burnEnd

/-! ## Checks and grants -/

/-- CHECK BEGIN (R59). -/
def execCheckBegin (s : State) : Result := .next { s with mo := beginWaiting s.env s.mo }

/-- CHECK SAMPLE (R59). -/
def execCheckSample (s : State) : Result := .next { s with mo := sampleHeld s.fm s.mo }

/-- The check at the front has ended: it, its sampling and the checks behind it. -/
def ClearanceUnit.ended (cu : ClearanceUnit) : Option (Check × Sampling × List Check) :=
  match cu.checks with
  | { req := req, run := some sp } :: rest =>
    if sp.finished then some ({ req := req, run := some sp }, sp, rest) else none
  | _ => none

/-- The check at the front leaves the unit (R59). -/
def Motion.dropFront (rest : List Check) (m : Motion) : Motion := { m with cu := { m.cu with checks := rest } }

/-- CHECK RESULT (R57): the ended check hands its result to its requester. -/
def State.checkResult (s : State) : State :=
  match s.mo.cu.ended with
  | some (k, sp, rest) =>
    if k.ofEngine then
      State.engine (fun env m => checkHanded env (sp.result k.req) m) { s with mo := s.mo.dropFront rest }
    else s
  | none => s

/-- CHECK RESULT (R57), with the beacon lines as they stand. -/
def execCheckResult (beacon : Beacon) (s : State) : Result := .next (s.setBeacon beacon).checkResult

/-- A re-check's new allowance A' (R65). -/
def newAllowance (env : Env) (sp : Sampling) : Int := (sp.clear : Int) - (env.tun.stopMargin * 1000 : Nat)

/-- What a re-check that found a blocked sample does (R65): Trim or Stop. -/
def recheckHands (env : Env) (sp : Sampling) (cell : CellIx) (m : Motion) : Motion :=
  if tooSmall env (newAllowance env sp) then pieceStopped .blocked (some cell) (askStop .hazard m)
  else pieceTrimmed (some cell) (trimAmount (sp.doneAtStart + newAllowance env sp) m)

/-- RECHECK RESULT (R65): the ended re-check leaves the unit, and a blocked one hands Trim or Stop. -/
def State.recheckResult (s : State) : State :=
  match s.mo.cu.ended with
  | some (k, sp, rest) =>
    if k.ofEngine then s
    else
      let q : State := { s with mo := s.mo.dropFront rest }
      match sp.blocked with
      | some b => q.engine fun env m => recheckHands env sp b.2.held m
      | none => q
  | none => s

/-- RECHECK RESULT (R65). -/
def execRecheckResult (s : State) : Result := .next s.recheckResult

/-- HELD GRANT RELEASE (R89). -/
def execHeldGrantRelease (s : State) : Result := .next (s.engine fun _ m => releaseHeld m)

/-! ## The Drive Link -/

/-- TX FRAME DONE (R120). -/
def execTxFrameDone (s : State) : Result := .next { s with mo := nextFrame s.mo }

/-- RX FRAME DISCARD (R117): bytes arrive and every frame that must be discarded is. -/
def execRxFrameDiscard (bytes : List Byte) (s : State) : Result :=
  .next { s with mo := { s.mo with dp := s.mo.dp.receive bytes } }

/-- RX GAP TIMEOUT (R117). -/
def execRxGapTimeout (s : State) : Result := .next { s with mo := { s.mo with dp := s.mo.dp.gap } }

/-- DRIVE REPORT (R119): bytes arrive that complete a frame, with the beacon lines as they stand. -/
def execDriveReport (bytes : List Byte) (beacon : Beacon) (s : State) : Result :=
  .next ((s.setBeacon beacon).driveBytes bytes)

/-- The dwell before a retry is over (R99). -/
def endDwell (m : Motion) : Motion :=
  match m.re.seg with
  | some sr =>
    if sr.phase = .dwell ∧ sr.dwellLeft = 0 then
      Motion.setTodo .startTry { m with re := { m.re with attempt := m.re.attempt + 1 } }
    else m
  | none => m

/-- DWELL END (R99). -/
def execDwellEnd (s : State) : Result := .next (s.engine fun _ m => endDwell m)

/-- DRIVE WATCH EXPIRY (R115). -/
def execDriveWatchExpiry (s : State) : Result := .next s.watchExpiry

/-! ## The sensor lines -/

/-- CLIFF SAMPLE (R136). -/
def execCliffSample (sensor : CliffSensor) (level : Byte) (s : State) : Result :=
  .next (s.cliffSample sensor level)

/-- LINE SAMPLE (R138). -/
def execLineSample (line : SwitchLine) (asserted : Bool) (s : State) : Result :=
  .next (s.lineSample line asserted)

/-- BUMP WINDOW TIMEOUT (R140). -/
def execBumpWindowTimeout (s : State) : Result := .next s.windowTimeout

/-! ## The dock contact (R155) -/

/-- A contact sample (R155): the run counts the samples that differ, and reaching ContactDebounce makes the
change due. -/
def DockUnit.sampled (debounce : Nat) (level : Bool) (du : DockUnit) : DockUnit :=
  if du.changeDue then du
  else if level = du.contact then { du with run := 0 }
  else { du with run := du.run + 1, changeDue := debounce ≤ du.run + 1 }

/-- DCK SAMPLE (R155). -/
def execDckSample (asserted : Bool) (s : State) : Result :=
  .next { s with mo := { s.mo with du := s.mo.du.sampled s.tun.contactDebounce asserted } }

/-- The contact state changes and the run returns to 0 (R155). -/
def DockUnit.flipped (du : DockUnit) : DockUnit :=
  { du with contact := !du.contact, run := 0, changeDue := false }

/-- A change to On enters DOCKED while a Dock segment is in a dock phase with no outcome pending (R155,
R162). -/
def contactOn (env : Env) (m : Motion) : Motion :=
  match m.re.seg with
  | some sr =>
    if sr.seg.kind = .dock ∧ m.du.phase ≠ .none ∧ sr.outcome = none ∧ sr.phase ≠ .docked then enterDocked env m
    else m
  | none => m

/-- A change to Off while a Dock segment is in progress (R155, R162): the mark clears, and the wait of DOCKED is
given up, to end DockMissed once the record is NONE. DESIGN CHOICE (assumption 41): that wait is a SETTLE, so a trip
taken in it replaces DockMissed with CliffStop or BumpStop, and a backoff follows (R98). -/
def contactOffDocking (m : Motion) : Motion :=
  let q : Motion := { m with du := { m.du with docked := false } }
  match m.re.seg with
  | some sr => if sr.phase = .docked then enterSettle .dockMissed none q else q
  | none => q

/-- The docked mark clears with Undocked raised (R155), which may wake a PARKED part first (R183). -/
def State.undock (s : State) : State :=
  let q := s.wakeIf s.mo.eu.wakeUndocked .undocked
  { q with mo := ({ q.mo with du := { q.mo.du with docked := false } } : Motion).raise .undocked }

/-- A change of the contact state (R155). -/
def State.contactChange (s : State) : State :=
  if s.mo.du.changeDue then
    let q : State := { s with mo := { s.mo with du := s.mo.du.flipped } }
    if q.mo.du.contact then q.engine contactOn
    else if s.mo.re.docking then q.engine fun _ m => contactOffDocking m
    else if s.mo.du.docked then q.undock
    else q
  else s

/-- CONTACT CHANGE (R155). -/
def execContactChange (s : State) : Result := .next s.contactChange

/-! ## The Pass Timer (R180) -/

/-- PASS TIMER RELOAD (R180). -/
def execPassTimerReload (s : State) : Result :=
  .next { s with mo := { s.mo with eu := { s.mo.eu with timer := s.mo.eu.timer.takeReload } } }

/-- PASS TIMER EXPIRY (R180). -/
def execPassTimerExpiry (s : State) : Result := .next s.timerExpiry

/-! ## The idle step -/

/-- The part at rest (assumption 4): the answer of a request being served is placed; failing that, the engine
makes any move of its own it has left. -/
def State.idle (s : State) : State :=
  if s.pp.serving.isSome then s.placeHeld else s.engine fun _ m => m

end Sys2Proof.Machine
end

