-- ==== Sys2Proof/Machine/Dispatch.lean ====
section
/-! DEFINITION. Dispatch.lean: the meaning of each command, one arm for each constructor of Instr. -/

namespace Sys2Proof.Machine
open Sys2Proof

def exec (i : Instr) (s : State) : Host.Outcome State Fault Refusal :=
  match i with
  | .powerOnReset => Sys2Proof.Machine.execPowerOnReset s
  | .mapSweepProgress count => Sys2Proof.Machine.execMapSweepProgress count s
  | .mapSweepDone => Sys2Proof.Machine.execMapSweepDone s
  | .timeBaseTick => Sys2Proof.Machine.execTimeBaseTick s
  | .transactionEnd bytes => Sys2Proof.Machine.execTransactionEnd bytes s
  | .fetch clocked => Sys2Proof.Machine.execFetch clocked s
  | .invalidFrame code length body => Sys2Proof.Machine.execInvalidFrame code length body s
  | .setWindow xStart xEnd yStart yEnd primary xDir yDir => Sys2Proof.Machine.execSetWindow xStart xEnd yStart yEnd primary xDir yDir s
  | .setCursor cx cy => Sys2Proof.Machine.execSetCursor cx cy s
  | .writeCells cells => Sys2Proof.Machine.execWriteCells cells s
  | .readCells count => Sys2Proof.Machine.execReadCells count s
  | .fillWindow cell => Sys2Proof.Machine.execFillWindow cell s
  | .fillProgress count => Sys2Proof.Machine.execFillProgress count s
  | .fillDone => Sys2Proof.Machine.execFillDone s
  | .releaseHazard cx cy cls => Sys2Proof.Machine.execReleaseHazard cx cy cls s
  | .readSectors start count => Sys2Proof.Machine.execReadSectors start count s
  | .readChanges count => Sys2Proof.Machine.execReadChanges count s
  | .fixPose x y theta u => Sys2Proof.Machine.execFixPose x y theta u s
  | .readPose => Sys2Proof.Machine.execReadPose s
  | .setDockPose form x y theta standoff => Sys2Proof.Machine.execSetDockPose form x y theta standoff s
  | .loadSegment slot fields => Sys2Proof.Machine.execLoadSegment slot fields s
  | .clearSegment slot => Sys2Proof.Machine.execClearSegment slot s
  | .loadList list length passes flags slots => Sys2Proof.Machine.execLoadList list length passes flags slots s
  | .readList list => Sys2Proof.Machine.execReadList list s
  | .startRoute mode => Sys2Proof.Machine.execStartRoute mode s
  | .stopRoute mode => Sys2Proof.Machine.execStopRoute mode s
  | .postPriority urgent => Sys2Proof.Machine.execPostPriority urgent s
  | .acknowledge => Sys2Proof.Machine.execAcknowledge s
  | .writeTuning block => Sys2Proof.Machine.execWriteTuning block s
  | .readTuning => Sys2Proof.Machine.execReadTuning s
  | .writeCalibration record => Sys2Proof.Machine.execWriteCalibration record s
  | .readCalibration => Sys2Proof.Machine.execReadCalibration s
  | .burnCalibration => Sys2Proof.Machine.execBurnCalibration s
  | .burnDone => Sys2Proof.Machine.execBurnDone s
  | .readEvents => Sys2Proof.Machine.execReadEvents s
  | .armNotices set clear => Sys2Proof.Machine.execArmNotices set clear s
  | .armWake hazard undocked battery => Sys2Proof.Machine.execArmWake hazard undocked battery s
  | .setPassTimer tickBase initial reload reloadCount => Sys2Proof.Machine.execSetPassTimer tickBase initial reload reloadCount s
  | .readSense => Sys2Proof.Machine.execReadSense s
  | .park alarm => Sys2Proof.Machine.execPark alarm s
  | .softReset => Sys2Proof.Machine.execSoftReset s
  | .checkBegin => Sys2Proof.Machine.execCheckBegin s
  | .checkSample => Sys2Proof.Machine.execCheckSample s
  | .checkResult beacon => Sys2Proof.Machine.execCheckResult beacon s
  | .recheckResult => Sys2Proof.Machine.execRecheckResult s
  | .heldGrantRelease => Sys2Proof.Machine.execHeldGrantRelease s
  | .txFrameDone => Sys2Proof.Machine.execTxFrameDone s
  | .rxFrameDiscard bytes => Sys2Proof.Machine.execRxFrameDiscard bytes s
  | .rxGapTimeout => Sys2Proof.Machine.execRxGapTimeout s
  | .driveReport bytes beacon => Sys2Proof.Machine.execDriveReport bytes beacon s
  | .dwellEnd => Sys2Proof.Machine.execDwellEnd s
  | .driveWatchExpiry => Sys2Proof.Machine.execDriveWatchExpiry s
  | .cliffSample sensor level => Sys2Proof.Machine.execCliffSample sensor level s
  | .lineSample line asserted => Sys2Proof.Machine.execLineSample line asserted s
  | .bumpWindowTimeout => Sys2Proof.Machine.execBumpWindowTimeout s
  | .dckSample asserted => Sys2Proof.Machine.execDckSample asserted s
  | .contactChange => Sys2Proof.Machine.execContactChange s
  | .passTimerReload => Sys2Proof.Machine.execPassTimerReload s
  | .passTimerExpiry => Sys2Proof.Machine.execPassTimerExpiry s

end Sys2Proof.Machine
end

