-- ==== Sys2Proof/Machine/Step.lean ====
section
/-! DEFINITION. Step.lean: one step: the command at the front of the queue, or an idle step. -/

namespace Sys2Proof.Machine
open Sys2Proof

/-- One step. The command at the front of the queue runs on the state with the queue's rest; on an empty queue
the part takes an idle step (assumption 4). -/
def step (s : State) : Host.Outcome State Fault Refusal :=
  match s.pending with
  | [] => .next s.idle
  | i :: rest => exec i { s with pending := rest }

/-- The state with the command a word spells put at the front of its queue; as it was where the word spells
none. -/
def State.withFetchWord (s : State) (nbits w : Nat) : State :=
  match decodeTableWord nbits w with
  | some i => { s with pending := i :: s.pending }
  | none => s

end Sys2Proof.Machine
end

