-- ==== Sys2Proof/WellFormed.lean ====
section
/-! DEFINITION. WellFormed.lean: which commands the outside can send: the counts of the running operations are
at least one, a body fits its frame, a field fits its bytes, and a frame given as refused is refused. -/

namespace Sys2Proof
open Sys2Proof.Machine

/-- Each of a list of fields fits its bytes. -/
def fits : List Nat → List Nat → Bool
  | w :: ws, v :: vs => decide (v < 256 ^ w) && fits ws vs
  | [], [] => true
  | _, _ => false

/-- An offset fits a signed two-byte field. -/
def fitsOffset (v : Int) : Bool := decide (-32768 ≤ v) && decide (v ≤ 32767)

/-- A calibration record whose fields fit their bytes (section 12.4). -/
def Calibration.carried (c : Calibration) : Bool :=
  fits [2, 2, 1] [c.tickScale, c.wheelBase, c.robotRadius] &&
  [c.flF, c.flL, c.frF, c.frL, c.slF, c.slL, c.srF, c.srL].all fitsOffset

/-- A frame that is complete (R164) and that R166 answers INVALID before any owner checks a field: a bad
envelope, a code that names no request, or a body of the wrong length. -/
def Machine.Frame.refused (f : Machine.Frame) : Bool :=
  f.code ≠ 0 && (decide (1024 < f.length.toNat) || decide (f.length.toNat ≤ f.body.length)) &&
  (f.badEnvelope ||
    match parseRequest f.code f.body with
    | .request _ => false
    | .noCode => true
    | .badLength => true)

/-- The commands the outside can send. -/
def Instr.wf : Instr → Bool
  | .powerOnReset => true
  | .mapSweepProgress count => decide (1 ≤ count)
  | .mapSweepDone => true
  | .timeBaseTick => true
  | .transactionEnd _ => true
  | .fetch _ => true
  | .invalidFrame code length body => ({ code := code, length := length, body := body } : Frame).refused
  | .setWindow _ _ _ _ _ _ _ => true
  | .setCursor _ _ => true
  | .writeCells cells => decide (cells.length ≤ 1024)
  | .readCells _ => true
  | .fillWindow _ => true
  | .fillProgress count => decide (1 ≤ count)
  | .fillDone => true
  | .releaseHazard _ _ _ => true
  | .readSectors _ _ => true
  | .readChanges _ => true
  | .fixPose _ _ _ _ => true
  | .readPose => true
  | .setDockPose _ _ _ _ _ => true
  | .loadSegment _ _ => true
  | .clearSegment _ => true
  | .loadList _ _ _ _ slots => decide (slots.length ≤ 1020)
  | .readList _ => true
  | .startRoute _ => true
  | .stopRoute _ => true
  | .postPriority _ => true
  | .acknowledge => true
  | .writeTuning block => fits tuningWidths (tuningList block)
  | .readTuning => true
  | .writeCalibration record => record.carried
  | .readCalibration => true
  | .burnCalibration => true
  | .burnDone => true
  | .readEvents => true
  | .armNotices _ _ => true
  | .armWake _ _ _ => true
  | .setPassTimer _ _ _ _ => true
  | .readSense => true
  | .park _ => true
  | .softReset => true
  | .checkBegin => true
  | .checkSample => true
  | .checkResult _ => true
  | .recheckResult => true
  | .heldGrantRelease => true
  | .txFrameDone => true
  | .rxFrameDiscard bytes => bytes ≠ []
  | .rxGapTimeout => true
  | .driveReport bytes _ => bytes ≠ []
  | .dwellEnd => true
  | .driveWatchExpiry => true
  | .cliffSample _ _ => true
  | .lineSample _ _ => true
  | .bumpWindowTimeout => true
  | .dckSample _ => true
  | .contactChange => true
  | .passTimerReload => true
  | .passTimerExpiry => true

end Sys2Proof
end

