-- ==== Sys2Proof/Safety.lean ====
section
/-! DEFINITION. Safety.lean: the terms the claims are stated in: a part ready for a request, the state an
answered request leaves, and the invariants of the manual. -/

namespace Sys2Proof.Machine
open Sys2Proof

/-! ## Requests -/

/-- The part is ready to serve a request at once: none is being served, the map sweep is over, and the device
is in RUN (R165, R166). -/
structure State.Ready (s : State) : Prop where
  idlePort : s.pp.serving = none
  swept    : s.fm.sweep = none
  running  : s.mo.eu.device = .run

/-- The state with a response in the slot, after a request transaction of n bytes (R164, R167). -/
def State.answered (n : Nat) (r : Response) (s : State) : State :=
  { s with pp := { s.pp with slot := some r, miso := List.replicate n 0 } }

/-- A response that says the request changed nothing (R169). -/
def Response.refuses : Response → Bool
  | .done _ => false
  | .started => false
  | .busy => true
  | .invalid _ _ => true
  | .rejected _ => true

/-- A frame as it is clocked in: the code, the length and the body (R164). -/
def Frame.bytes (f : Frame) : List Byte := f.code :: halfBytes f.length ++ f.body

/-! ## The Floor Map -/

/-- Bounds inside the map with start no greater than end (R14). -/
structure Window.Ok (w : Window) : Prop where
  x : w.x0 ≤ w.x1
  y : w.y0 ≤ w.y1
  xMax : w.x1 ≤ 255
  yMax : w.y1 ≤ 255

/-- A cell lies in a window (R14). -/
structure Window.Has (w : Window) (c : CellIx) : Prop where
  xLo : w.x0 ≤ c.cx
  xHi : c.cx ≤ w.x1
  yLo : w.y0 ≤ c.cy
  yHi : c.cy ≤ w.y1

/-- The cells a walk of n advances visits, from a cell on (R17). -/
def Window.walk (w : Window) (m : EntryMode) : Nat → CellIx → List CellIx
  | 0, _ => []
  | n + 1, c => c :: Window.walk w m n (w.advance m c)

/-- A fill in progress is within its window and has a cell left (R21). -/
structure Fill.Ok (f : Fill) : Prop where
  win  : f.win.Ok
  pos  : f.win.Has f.pos
  left : 1 ≤ f.left

/-- The Floor Map's standing form: the stores canonical, the cursor in the window (R14), the queue within its
64 entries (R25), a fill within its window, the sweep within the map. -/
structure FloorMap.Sound (fm : FloorMap) : Prop where
  cells   : Memory.wf CellRec.swept fm.cells
  sectors : Memory.wf SectorRec.swept fm.sectors
  win     : fm.win.Ok
  cursor  : fm.win.Has fm.cursor
  fill    : ∀ f, fm.fill = some f → f.Ok
  sweep   : ∀ a, fm.sweep = some a → a ≤ Config.gridCells
  queue   : fm.changes.length ≤ Config.queueCap

/-- The cells of a sector, by its index (chapter 0, The map frame). -/
def sectorCells (k : Nat) : List CellIx :=
  (List.range 256).map fun j => { cx := k % 16 * 16 + j % 16, cy := k / 16 * 16 + j / 16 }

/-- The number of a sector's cells whose record has a property. -/
def FloorMap.countIn (fm : FloorMap) (k : Nat) (p : CellRec → Bool) : Nat :=
  (sectorCells k).countP fun c => p (fm.cellAt c)

/-- A sector's record as its cells make it (R10). -/
def FloorMap.counted (fm : FloorMap) (k : Nat) : SectorRec :=
  { unknown := fm.countIn k fun r => r.cls = .unknown
    rug := fm.countIn k fun r => r.cls = .rug
    obstacle := fm.countIn k fun r => r.cls = .obstacle
    keepOut := fm.countIn k fun r => r.cls = .keepOut
    cliff := fm.countIn k fun r => r.cls = .cliff
    dock := fm.countIn k fun r => r.cls = .dock
    visited := fm.countIn k fun r => r.visited }

/-- The Sector Table agrees with the cells (R10). -/
def FloorMap.Tallied (fm : FloorMap) : Prop := ∀ k, k < 256 → fm.sectorAt k = fm.counted k

/-- A cell of the map. -/
def CellIx.InMap (c : CellIx) : Prop := c.cx ≤ 255 ∧ c.cy ≤ 255

/-- Whether a frame's code is that of RELEASE HAZARD. -/
def releaseCode : Byte := 0x15

/-- The commands that may take a cell out of Cliff with origin Sensed (R7): RELEASE HAZARD, alone or as a frame,
and a power-on reset with its map sweep. -/
def mayRelease : Instr → Bool
  | .releaseHazard _ _ _ => true
  | .powerOnReset => true
  | .mapSweepProgress _ => true
  | .transactionEnd bytes => bytes.head? = some releaseCode
  | .invalidFrame code _ _ => code = releaseCode
  | _ => false

/-- How many cells of a walk hold Cliff with origin Sensed: what the Held count of planner writes over it comes to
(R18, R22). -/
def FloorMap.heldOn (fm : FloorMap) (walk : List CellIx) : Nat := walk.countP fun c => (fm.cellAt c).sensedCliff

/-! ## The pose and the settings -/

/-- The tuning block lies in its ranges (section 9.4). -/
def tuningOk (t : Tuning) : Prop := firstOutside 2 tuningRanges (tuningList t) = none

/-- The fields of a calibration record in the order of section 11.1. -/
def calibrationValues (c : Calibration) : List Int :=
  [c.tickScale, c.wheelBase, c.robotRadius, c.flF, c.flL, c.frF, c.frL, c.slF, c.slL, c.srF, c.srL]

/-- The ranges of the calibration fields (section 11.1). -/
def calibrationRanges : List (Int × Int) :=
  [(1000, 65535), (120, 400), (100, 250)] ++ List.replicate 8 (-300, 300)

/-- A Dock Pose lies in the map (R153). -/
structure DockPose.Ok (d : DockPose) : Prop where
  x     : d.x ≤ Config.mapMax
  y     : d.y ≤ Config.mapMax
  theta : d.theta < 65536

/-- The pose record and the slip counter lie in their ranges (R30, R31). -/
structure PoseUnit.InRange (pu : PoseUnit) : Prop where
  x      : pu.x ≤ Config.mapMax
  y      : pu.y ≤ Config.mapMax
  theta  : pu.theta < 65536
  u      : pu.u ≤ Config.uMax
  centre : pu.centre = cellOf pu.x pu.y
  slip   : pu.slip ≤ 15

/-- What keeps the pose in range: itself, the tuning block and the Dock Pose. -/
structure State.PoseSound (s : State) : Prop where
  pose   : s.mo.pu.InRange
  tuning : tuningOk s.tun
  dock   : ∀ d, s.mo.du.pose = some d → d.Ok

/-! ## Lists and the route -/

/-- The fields of a segment record that LOAD SEGMENT accepts for a kind (R69, step 3). -/
structure SegmentFieldsOk (k : SegKind) (f : SegmentFields) : Prop where
  target    : k = .line → f.targetX.toNat ≤ 12799999 ∧ f.targetY.toNat ≤ 12799999
  present   : k = .line → f.headingPresent.toNat ≤ 1
  heading   : k = .rotate → f.headingPresent = 1
  distance  : k = .reverse → f.reverseDist ≠ 0
  speed     : f.speed ≠ 0
  retries   : f.retries.toNat ≤ 7
  alternate : k = .line → f.altPresent.toNat ≤ 1
  altPoint  : k = .line → f.altPresent = 1 → f.altX.toNat ≤ 12799999 ∧ f.altY.toNat ≤ 12799999

/-- A field of a segment record that LOAD SEGMENT refuses for a kind, by its number (R69, step 3). -/
def SegmentFieldBad (k : SegKind) (f : SegmentFields) : Nat → Prop
  | 4 => k = .line ∧ 12799999 < f.targetX.toNat
  | 5 => k = .line ∧ 12799999 < f.targetY.toNat
  | 6 => (k = .line ∨ k = .rotate) ∧ 1 < f.headingPresent.toNat ∨ k = .rotate ∧ f.headingPresent = 0
  | 8 => k = .reverse ∧ f.reverseDist = 0
  | 9 => f.speed = 0
  | 11 => 7 < f.retries.toNat
  | 13 => k = .line ∧ 1 < f.altPresent.toNat
  | 14 => k = .line ∧ f.altPresent = 1 ∧ 12799999 < f.altX.toNat
  | 15 => k = .line ∧ f.altPresent = 1 ∧ 12799999 < f.altY.toNat
  | _ => False

/-- One list: its position within its length, its length within its capacity, and every entry naming a record
(R75). -/
structure RouteEngine.ListOk (re : RouteEngine) (id : ListId) : Prop where
  position : (re.list id).position ≤ (re.list id).entries.length
  length   : (re.list id).entries.length ≤ id.cap
  named    : ∀ e ∈ (re.list id).entries, (re.slotAt e.slot).isSome

/-- The lists and the run (R75, R84): both lists are as R75 says, and a segment in progress is the one at the
position of the list that runs. -/
structure RouteEngine.Sound (re : RouteEngine) : Prop where
  pool     : Memory.wf none re.pool
  main     : re.ListOk .main
  priority : re.ListOk .priority
  segment  : re.seg.isSome → (re.state = .running ∨ re.state = .draining) ∧
    ∃ id, re.active = some id ∧ (re.list id).position < (re.list id).entries.length
  moves    : re.todo ≠ .none → re.state = .running ∨ re.state = .draining

/-- The phases in which a segment waits for no check and no grant of its own (R84, R90, R99, R162). -/
def Phase.standing : Phase → Bool
  | .settle => true
  | .docked => true
  | .dwell => true
  | _ => false

/-- A grant that is SENT or ACTIVE belongs to a segment in progress that waits for it, and a segment that waits for
a grant has one that is SENT or ACTIVE and is out of VET, whose Done moves nothing on (R91, R93, R94); with it what
ties the engine's state, its segment and its own moves together (R84, R90, R124). -/
structure Motion.GrantOwned (m : Motion) : Prop where
  owner : m.dp.grant.state.openTo = true →
    (m.re.state = .running ∨ m.re.state = .draining) ∧ ∃ sr, m.re.seg = some sr ∧ sr.wait = .grant
  moves : m.dp.grant.state.openTo = true → m.re.todo = .none
  pass  : m.re.sub = .passWait → m.re.seg = none
  run   : m.re.seg.isSome → m.re.state = .running ∨ m.re.state = .draining
  act   : m.re.todo ≠ .none → m.re.state = .running ∨ m.re.state = .draining
  rest  : m.re.todo ≠ .none → ∀ sr, m.re.seg = some sr → sr.wait = .nothing
  still : ∀ sr, m.re.seg = some sr → sr.phase.standing = true → sr.wait = .nothing
  waits : ∀ sr, m.re.seg = some sr → sr.wait = .grant → m.dp.grant.state.openTo = true
  vet   : ∀ sr, m.re.seg = some sr → sr.wait = .grant ∨ sr.wait = .held → sr.phase ≠ .vet

/-- What a grant handed over with the record NONE leaves (R89, R121, R124): the record SENT under the next id,
the frame made, the corridor record with the grant's id, and the amount done at 0. -/
structure Motion.Sent (m q : Motion) (kind : GrantKind) (amount : Int) (cap : Nat) : Prop where
  record : q.dp.grant = { state := .sent, id := m.dp.nextId, kind := kind, amount := amount, cap := cap,
                          miss := 0, settle := 0 }
  nextId : q.dp.nextId = if m.dp.nextId = 255 then 1 else m.dp.nextId + 1
  frame  : (m.dp.txNow = none → q.dp.txNow = some (.grant m.dp.nextId kind amount cap) ∧
              q.dp.txQueue = m.dp.txQueue) ∧
           (m.dp.txNow ≠ none → q.dp.txNow = m.dp.txNow ∧
              q.dp.txQueue = m.dp.txQueue ++ [.grant m.dp.nextId kind amount cap])
  done   : q.re.amountDone = 0
  link   : q.dp.link = .online
  todo   : q.re.todo = .none

/-! ## The calibration slots -/

/-- A burn runs only on a Blank slot (R187). -/
def CalStore.BurnOk (cs : CalStore) : Prop :=
  match cs.burn with
  | some b =>
    match b.slot with
    | .first => cs.first = .blank
    | .second => cs.second = .blank
  | none => True

/-- The state of a slot (R186). -/
def CalStore.slot (cs : CalStore) : SlotId → CalSlot
  | .first => cs.first
  | .second => cs.second

/-! ## Reports -/

/-- What the link step of a report leaves, before its pose step (R114 to R116, R119): the link ONLINE, DriveBack when
it was SILENT, the watch from full in RUN, and the beacon lines as they were read (assumption 10). -/
def State.linked (s : State) (b : Beacon) : State :=
  { s with mo := { s.mo with
      dp := { s.mo.dp with
        link := .online
        watch := if s.mo.eu.device = .run then some s.tun.driveWatch else s.mo.dp.watch }
      du := { s.mo.du with beacon := b }
      eu := if s.mo.dp.link = .silent then s.mo.eu.raise .driveBack else s.mo.eu } }

/-- The sense record with a report's seq and battery level (R118, R119). -/
def State.sensed (r : Report) (s : State) : State :=
  { s with mo := { s.mo with dp := { s.mo.dp with seq := r.seq, battery := r.level } } }

/-- The state after the first two steps of a report, its link and its pose (R119). -/
def State.posed (s : State) (r : Report) (b : Beacon) : State := ((s.setBeacon b).takeLink).takePose r

/-- What a report does after its grant step (R112, R119, R148, R159): the judgement of a CLOSE piece, the guard's
own release, the battery and the sense record. -/
def State.reportEnds (r : Report) (s : State) : State :=
  ((s.closeJudgement.selfRelease r.drive).takeBattery r.level).takeSense r

/-- A change of the Route Engine. -/
def State.withEngine (re : RouteEngine) (s : State) : State := { s with mo := { s.mo with re := re } }

/-- A change of the Pose Unit. -/
def State.withPose (pu : PoseUnit) (s : State) : State := { s with mo := { s.mo with pu := pu } }

/-- A change of the motion blocks. -/
def State.withMotion (m : Motion) (s : State) : State := { s with mo := m }

/-- A change of the Hazard Guard. -/
def State.withGuard (hg : HazardGuard) (s : State) : State := { s with mo := { s.mo with hg := hg } }

/-- The state once the engine, from given motion blocks, has made its own moves, `engineMove` after `engineMove`
(assumption 6). -/
def State.runs (m : Motion) (s : State) : State := { s with mo := runEngine s.env Config.engineMoves m }

/-- No segment is in progress and the engine has no move of its own to make. -/
structure Motion.Still (m : Motion) : Prop where
  seg  : m.re.seg = none
  todo : m.re.todo = .none

/-- A report that meets no segment, no grant, no trip, no battery crossing and no wake, with the receiver
hunting: it concerns the link, the pose and the sense record alone. -/
structure State.QuietFor (s : State) (r : Report) : Prop where
  rx      : s.mo.dp.rx = []
  still   : s.mo.Still
  grant   : s.mo.dp.grant.state = .none
  guard   : s.mo.hg.state ≠ .tripped
  latch   : s.mo.re.latch = .above
  battery : s.tun.homeLevel ≤ r.level
  wake    : s.mo.eu.device = .parked → s.mo.eu.wakeHazard = false

/-! ## Segments, grants and the guard, as the statements name them -/

/-- A segment in progress in a phase, waiting for something. -/
def SegRun.at (p : Phase) (w : Wait) (sr : SegRun) : SegRun := { sr with phase := p, wait := w }

/-- A segment in SETTLE with an outcome pending and its blocking cell (R90); a grant that was held back is given
up. -/
def SegRun.settling (o : SegOutcome) (cell : Option CellIx) (sr : SegRun) : SegRun :=
  { sr with phase := .settle, wait := .nothing, outcome := some o, cell := cell, inBackoff := false, ready := none }

/-- The segment in progress is replaced. -/
def Motion.withSeg (sr : SegRun) (m : Motion) : Motion := { m with re := { m.re with seg := some sr } }

/-- The segment in progress is to be recorded with an outcome and its blocking cell; it waits for nothing. -/
def Motion.toRecord (o : SegOutcome) (cell : Option CellIx) (sr : SegRun) (m : Motion) : Motion :=
  { m with re := { m.re with seg := some { sr with wait := .nothing }, todo := .record o cell } }

/-- The try reaches its goal (R88, R98): stage 4, and the segment is to be recorded Arrived. -/
def Motion.toArrive (sr : SegRun) (m : Motion) : Motion :=
  Motion.toRecord .arrived none sr
    { m with re := { m.re with progress := { m.re.progress with stage := max 4 m.re.progress.stage } } }

/-- A frame is made (R120): an idle transmitter sends it, a busy one keeps it behind the others. -/
def DrivePort.made (f : DriveFrame) (dp : DrivePort) : DrivePort :=
  if dp.txNow = none then { dp with txNow := some f } else { dp with txQueue := dp.txQueue ++ [f] }

/-- A SENT or ACTIVE grant is stopped (R62, R120, R123): the waiting Trims of it are removed, the Stop is made, the
record is STOPPING with the settle count at 0, and the corridor record and a re-check of it are gone. -/
def Motion.stopped (reason : StopReason) (m : Motion) : Motion :=
  { m with
    dp := { DrivePort.made (.stop m.dp.grant.id reason)
              { m.dp with txQueue := m.dp.txQueue.filter fun f => !f.trims m.dp.grant.id } with
            grant := { m.dp.grant with state := .stopping, settle := 0 } }
    cu := { checks := m.cu.checks.filter Check.ofEngine, corridor := none } }

/-- The grant record is NONE, and the corridor record and a re-check of its grant are gone (R62, R64, R126). -/
def Motion.grantOver (m : Motion) : Motion :=
  { m with dp := { m.dp with grant := { m.dp.grant with state := .none } }
           cu := { checks := m.cu.checks.filter Check.ofEngine, corridor := none } }

/-- An ended check hands its result to the segment (R57, R59, R88): it leaves the unit, the stage is at least 1,
unknown-seen follows, and the segment waits for nothing. -/
def Motion.handed (sp : Sampling) (rest : List Check) (sr : SegRun) (m : Motion) : Motion :=
  { m with
    cu := { m.cu with checks := rest }
    re := { m.re with seg := some { sr with wait := .nothing }
                      progress := { m.re.progress with
                        stage := max 1 m.re.progress.stage
                        unknownSeen := m.re.progress.unknownSeen || sp.unknownSeen } } }

/-- A trip's latch is set (R141). -/
def Motion.tripped (m : Motion) : Motion := { m with hg := { m.hg with state := .tripped } }

/-- The guard is released: TRIPPED becomes ARMED (R147, R149). -/
def Motion.released (m : Motion) : Motion :=
  { m with hg := { m.hg with state := if m.hg.state = .tripped then .armed else m.hg.state } }

/-- What a wake leaves (R184): RUN, the record and the Woke flag, an ALARM stopped, the guard ARMED with its
sensors CLEAR and no window, and the watch from full with the link ONLINE. -/
structure State.Woken (s t : State) (c : WakeCause) : Prop where
  device : t.mo.eu.device = .run
  record : t.mo.eu.woke = some c
  flag   : t.mo.eu.flagged .woke = true
  timer  : t.mo.eu.timer.state ≠ .alarm
  guard  : t.mo.hg.state = .armed
  window : t.mo.hg.window = none
  cliffs : ∀ k, t.mo.hg.cliff k = { state := .clear, count := 0 }
  watch  : s.mo.dp.link = .online → t.mo.dp.watch = some s.tun.driveWatch

/-! ## Checks -/

/-- A cell blocks at a point by the blocking table (R53, R58). -/
def Sampling.Blocks (req : CheckReq) (sp : Sampling) (fm : FloorMap) (p c : Int × Int) : Prop :=
  ∃ n : Nat, blockRadius req.column req.allowUnknown req.avoidRug sp.obstacleFloor sp.rh sp.rc sp.body
    (fm.seen c).1 (fm.seen c).2 = some n ∧ cellDist2 p.1 p.2 c ≤ (n * 1000) ^ 2

/-- A cell of a class lies in a disc about a point (R56). -/
def FloorMap.Near (fm : FloorMap) (p : Int × Int) (r : Nat) (k : CellClass) : Prop :=
  ∃ c : Int × Int, (fm.seen c).1 = k ∧ cellDist2 p.1 p.2 c ≤ (r * 1000) ^ 2

end Sys2Proof.Machine
end

