-- ==== Sys2Proof/Certificates/Slice0/Obligations.lean ====
section
/-! DEFINITION. Obligations.lean: the statements for the provers, each a proposition over the model. -/

open Sys2Proof Sys2Proof.Machine

/-! ## Steps and the Planner Port (sections 9.1 and 9.2) -/

/-- A step takes the command at the front of the queue and runs it on the state with the queue's rest. -/
def Obligations.StepRunsTheFrontCommand : Prop :=
  ∀ (c : Instr) (rest : List Instr) (s : State),
    step { s with pending := c :: rest } = exec c { s with pending := rest }

/-- The model's choices of how a frame and its answer are held (assumptions 4 and 7). A request's command is its
frame: the transaction of its bytes takes and serves it and holds the answer, and placing that answer leaves what
the request's own command leaves. With nothing waiting, a step places a held answer, RDY rises, and a frame that
waited is taken; with none held the engine makes the moves it has left, and with none left nothing changes. While
a request is served a complete frame waits in the receive buffer and replaces one that waits; a transaction of no
bytes, or with fewer bytes than its code, length and body, changes nothing but the zeros it shifted out (R164,
R165, R167). -/
def Obligations.FramesAreHeldAndAnswered : Prop :=
  ∀ s : State,
    (s.pending = [] →
      (s.pp.serving = none → step s = .next (s.runs s.mo)) ∧
      (s.pp.serving = none → s.mo.re.todo = .none → step s = .next s) ∧
      (∀ r : Response, s.pp.serving = some r → s.pp.buffer = none →
        ∃ t, step s = .next t ∧ t.pp.rdy = true ∧
          t = { s with pp := { s.pp with slot := some r, serving := none } }) ∧
      (∀ (r : Response) (f : Frame), s.pp.serving = some r → s.pp.buffer = some f →
        step s = .next (State.arrive f
          { s with pp := { s.pp with slot := some r, serving := none, buffer := none } }))) ∧
    (∀ (i : Instr) (f : Frame), i.wf = true → requestFrame i = some f →
      exec (.transactionEnd f.bytes) s = .next ((s.misoZeros (3 + f.body.length)).arrive f) ∧
      (s.pp.serving = none → s.pp.buffer = none →
        ∃ t, exec (.transactionEnd f.bytes) s = .next t ∧ exec i s = .next t.placeHeld) ∧
      (s.pp.serving.isSome = true → exec i s = .next { s with pp := { s.pp with
        buffer := some f, miso := List.replicate (3 + f.body.length) 0 } } ∧
        exec (.transactionEnd f.bytes) s = exec i s)) ∧
    exec (.transactionEnd []) s = .next s ∧
    ∀ (code l0 l1 : Byte) (body : List Byte), code ≠ 0 → (half l0 l1).toNat ≤ 1024 →
      body.length < (half l0 l1).toNat →
      exec (.transactionEnd [code]) s = .next { s with pp := { s.pp with miso := [0] } } ∧
      exec (.transactionEnd [code, l0]) s = .next { s with pp := { s.pp with miso := [0, 0] } } ∧
      exec (.transactionEnd (code :: l0 :: l1 :: body)) s =
        .next { s with pp := { s.pp with miso := List.replicate (3 + body.length) 0 } }

/-- A request answered BUSY, INVALID or REJECTED changes nothing but the slot (R169): on a ready part its
owner's refusal is placed and the rest of the state stands. -/
def Obligations.RefusedRequestsChangeNothing : Prop :=
  ∀ (i : Instr) (f : Frame) (s : State), s.Ready → requestFrame i = some f → f.badEnvelope = false →
    (serve i s).2.refuses = true →
    (serve i s).1 = s ∧ exec i s = .next (s.answered (3 + f.body.length) (serve i s).2)

/-- Frames and what they carry fit each other (sections 12.1 and 12.6, R117, R118, R191): every well-formed
request is read back from its frame with every field at every value, what a code and a body are read as has that
code and that body, and every report frame is received whole and read back, with the bytes after its CRC left
over. -/
def Obligations.FramesRoundTrip : Prop :=
  (∀ (i : Instr) (f : Frame), i.wf = true → requestFrame i = some f →
    parseRequest f.code f.body = .request i ∧ f.badEnvelope = false) ∧
  (∀ (code : Byte) (body : List Byte) (i : Instr), parseRequest code body = .request i →
    requestFrame i = some { code := code, length := BitVec.ofNat 16 body.length, body := body }) ∧
  ∀ (r : Report) (rest : List Byte), takeFrame (huntFrame (r.frame ++ rest)) = some (r, rest)

/-- FETCH (R168), whatever is being served and during the map sweep too. In RUN it shifts out the response, or
EMPTY with length 0, and zeros after it; the slot is emptied exactly when the last byte of a response has been
clocked out, and nothing else changes. In PARKED it wakes the part and is then served. A transaction of code 0 is
that FETCH, whatever bytes follow the code. -/
def Obligations.FetchShiftsOutTheSlot : Prop :=
  ∀ (n : Nat) (s : State),
    (s.mo.eu.device = .run →
      (∀ r, s.pp.slot = some r →
        exec (.fetch n) s = .next { s with pp := { s.pp with
          miso := (r.bytes ++ List.replicate n 0).take n
          slot := if r.bytes.length ≤ n then none else some r } }) ∧
      (s.pp.slot = none →
        exec (.fetch n) s = .next { s with pp := { s.pp with
          miso := ([6, 0, 0] ++ List.replicate n 0).take n } })) ∧
    (s.mo.eu.device = .parked → exec (.fetch n) s = exec (.fetch n) (s.wake .frame) ∧
      (s.wake .frame).mo.eu.device = .run) ∧
    ∀ rest : List Byte, rest.length = n → exec (.transactionEnd (0 :: rest)) s = exec (.fetch n) s

/-- The wakes of a PARKED part (R45, R151, R155, R166, R168, R183, R184). A wake leaves RUN, its record, Woke
raised, an ALARM stopped, the guard ARMED with its sensors CLEAR and no window, and the watch from full with the
link ONLINE; nothing else changes. A frame or a FETCH wakes the part and is then served. A line's assertion, a
report with wheel travel and the contact going Off on a docked part wake it when their enable is set, and with it
clear do what they do and wake nothing. (BatteryLow and Timer: BatteryAndGuardRelease, PassTimerRunsOut.) -/
def Obligations.WakesArmThePart : Prop :=
  ∀ s : State, s.mo.eu.device = .parked →
    (∀ c, s.Woken (s.wake c) c ∧
      s.wake c = { s with
        moments := s.moments + 1
        mo := { s.mo with hg := (s.wake c).mo.hg
                          dp := { s.mo.dp with watch := (s.wake c).mo.dp.watch }
                          eu := { s.mo.eu.raise .woke with device := .run, woke := some c
                                                           timer := (s.wake c).mo.eu.timer } } }) ∧
    (∀ n, exec (.fetch n) s = exec (.fetch n) (s.wake .frame)) ∧
    (∀ (i : Instr) (f : Frame), requestFrame i = some f → s.pp.serving = none →
      exec i s = exec i (s.wake .frame)) ∧
    (∀ line, s.mo.hg.state = .off → s.mo.hg.lines.get line = false →
      (s.mo.eu.wakeHazard = true → ∃ t, exec (.lineSample line true) s = .next t ∧ s.Woken t .line ∧
        t.mo.hg.lines.get line = true ∧ t.fm = s.fm ∧ t.mo.re = s.mo.re ∧ t.mo.pu = s.mo.pu) ∧
      (s.mo.eu.wakeHazard = false → exec (.lineSample line true) s =
        .next { s with mo := { s.mo with hg := { s.mo.hg with lines := s.mo.hg.lines.set line true } } })) ∧
    (∀ (r : Report) (b : Beacon), s.mo.dp.rx = [] → s.mo.Still → s.mo.dp.grant.state = .none →
      s.mo.hg.state = .off → s.mo.re.latch = .above → s.tun.homeLevel ≤ r.level → s.mo.pu.base.held = true →
      r.restart = false → s.mo.eu.wakeHazard = true →
      (r.left - s.mo.pu.base.left).toInt.natAbs ≤ 2047 → (r.right - s.mo.pu.base.right).toInt.natAbs ≤ 2047 →
      (r.yaw - s.mo.pu.base.yaw).toInt.natAbs ≤ 4095 →
      (r.left = s.mo.pu.base.left ∧ r.right = s.mo.pu.base.right →
        ∃ t, exec (.driveReport r.frame b) s = .next t ∧ t.mo.eu.device = .parked) ∧
      (r.left ≠ s.mo.pu.base.left ∨ r.right ≠ s.mo.pu.base.right →
        ∃ t u, exec (.driveReport r.frame b) s = .next t ∧ s.Woken t .moved ∧
          t.mo.dp.watch = some s.tun.driveWatch ∧
          exec (.driveReport r.frame b)
            { s with mo := { s.mo with eu := { s.mo.eu with wakeHazard := false } } } = .next u ∧
          u.mo.eu.device = .parked ∧ t.mo.pu = u.mo.pu ∧ t.fm = u.fm ∧ t.mo.re = u.mo.re)) ∧
    (s.mo.Still → s.mo.du.changeDue = true → s.mo.du.contact = true → s.mo.du.docked = true →
      (s.mo.eu.wakeUndocked = true → ∃ t, exec .contactChange s = .next t ∧ s.Woken t .undocked ∧
        t.mo.eu.flagged .undocked = true ∧ t.fm = s.fm ∧ t.mo.re = s.mo.re ∧
        t.mo.du = { s.mo.du with contact := false, run := 0, changeDue := false, docked := false }) ∧
      (s.mo.eu.wakeUndocked = false → exec .contactChange s = .next { s with mo := { s.mo with
        du := { s.mo.du with contact := false, run := 0, changeDue := false, docked := false }
        eu := s.mo.eu.raise .undocked } }))

/-- Frames refused before their owner sees a field (R164, R166, R189). A frame with a bad envelope, an unknown code
or a body of the wrong length is answered INVALID, naming the length, the code and the length in that order; while
the map sweep runs, a body of the wrong length is answered BUSY, unless its code is that of READ SENSE, and so is
every well-formed request but READ SENSE. Nothing changes but the slot. That the length of a body with no fields is
judged before its owner's other checks is the model's choice (assumption 39). -/
def Obligations.RefusedFrames : Prop :=
  ∀ s : State, s.pp.serving = none → s.mo.eu.device = .run →
    (∀ (code : Byte) (length : Half) (body : List Byte), code ≠ 0 →
      (1024 < length.toNat ∨ length.toNat < body.length →
        exec (.invalidFrame code length body) s = .next (s.answered (3 + body.length) (.invalid 1 0))) ∧
      (length.toNat ≤ 1024 → body.length = length.toNat → parseRequest code body = .noCode →
        exec (.invalidFrame code length body) s = .next (s.answered (3 + body.length) (.invalid 0 0))) ∧
      (length.toNat ≤ 1024 → body.length = length.toNat → parseRequest code body = .badLength →
        exec (.invalidFrame code length body) s = .next (s.answered (3 + body.length)
          (if s.fm.sweep.isSome = true ∧ code ≠ 0x54 then .busy else .invalid 1 0)))) ∧
    ∀ (i : Instr) (f : Frame), i.wf = true → requestFrame i = some f → i ≠ .readSense →
      s.fm.sweep.isSome = true → exec i s = .next (s.answered (3 + f.body.length) .busy)

/-- The requests that only read answer DONE with what they read and change nothing but the slot (R49, R83, R171,
R172, R185); READ SENSE is served during the map sweep as well. READ SENSE carries the 50 bytes of section 12.5,
taken at one moment; READ LIST of Main or Priority the header, the flags and the 16 bytes of each entry of section
12.3, and of another list it is INVALID. -/
def Obligations.ReadingRequestsChangeNothing : Prop :=
  [EngineState.idle, .running, .draining, .halted].map EngineState.code = [0, 1, 2, 3] ∧
  [none, some ListId.main, some .priority].map activeCode = [0, 1, 2] ∧
  [GuardState.armed, .tripped, .off].map GuardState.code = [0, 1, 2] ∧
  [CliffState.clear, .suspect, .tripped].map CliffState.code = [0, 1, 2] ∧
  [LinkState.offline, .online, .silent].map LinkState.code = [0, 1, 2] ∧
  [GrantState.none, .sent, .active, .stopping].map GrantState.code = [0, 1, 2, 3] ∧
  [DockPhase.none, .approach, .seek, .close, .mate, .docked].map DockPhase.code = [0, 1, 2, 3, 4, 5] ∧
  [CalSource.defaults, .first, .second].map CalSource.code = [0, 1, 2] ∧
  [none, some SegOutcome.arrived, some .blocked, some .cliffStop, some .bumpStop, some .stall, some .short,
    some .dockNotFound, some .dockLost, some .dockMissed, some .driveLost, some .driveFault, some .lost,
    some .invalid, some .guardInBackoff, some .tallyFull, some .cancelled].map outcomeCode =
    [0, 2, 3, 4, 5, 6, 7, 8, 9, 10, 11, 12, 13, 14, 15, 16, 17] ∧
  (∀ o, DescOutcome.notRun.code = 0 ∧ DescOutcome.inProgress.code = 1 ∧
    (DescOutcome.recorded o).code = outcomeCode (some o)) ∧
  ∀ s : State, s.pp.serving = none → s.mo.eu.device = .run →
    (∃ bs, exec .readSense s = .next (s.answered 3 (.done bs)) ∧ bs.length = 50 ∧
      bs = [0,
        byte ((if s.fm.sweep.isSome then 1 else 0) + (if s.fm.fill.isSome then 2 else 0) +
          (if s.cs.burn.isSome then 4 else 0) + (if s.fm.changeLost then 8 else 0) +
          (if s.fm.mapHeld then 16 else 0) + (if s.cs.calDefault then 32 else 0) +
          (if s.mo.re.suspended.isSome then 64 else 0)),
        byte s.mo.re.state.code, if s.mo.re.sub = .passWait then 1 else 0, byte (activeCode s.mo.re.active),
        byte s.mo.re.main.position, byte s.mo.re.priority.position, byte s.mo.re.main.passesDone,
        byte (match s.mo.re.poolIndex with
          | some n => n
          | none => 255),
        byte (s.mo.re.progress.stage + (if s.mo.re.progress.retryInUse then 16 else 0) +
          (if s.mo.re.progress.altInUse then 32 else 0) + (if s.mo.re.progress.guardTrip then 64 else 0) +
          (if s.mo.re.progress.unknownSeen then 128 else 0)),
        byte s.mo.re.attempt, byte s.mo.re.tally, byte (outcomeCode s.mo.re.haltCause),
        byte (outcomeCode s.mo.re.lastOutcome)] ++
        (match s.mo.re.lastBlocking with
          | some c => [1, byte c.cx, byte c.cy]
          | none => [0, 0, 0]) ++
        leBytes 4 s.mo.pu.x ++ leBytes 4 s.mo.pu.y ++ leBytes 2 s.mo.pu.theta ++
        [byte s.mo.pu.centre.cx, byte s.mo.pu.centre.cy] ++ leBytes 4 s.mo.pu.u ++
        leBytes 4 ((List.range 256).map fun k => (s.fm.sectorAt k).visited).sum ++
        [byte s.mo.hg.state.code, byte s.mo.hg.fl.state.code, byte s.mo.hg.fr.state.code,
         byte s.mo.hg.sl.state.code, byte s.mo.hg.sr.state.code, byte s.mo.dp.link.code,
         byte s.mo.dp.grant.state.code, byte s.mo.dp.grant.id, s.mo.dp.seq, byte s.mo.dp.battery,
         byte (DockPhase.code (if s.mo.re.docking then s.mo.du.phase
           else if s.mo.du.docked then .docked else .none)),
         byte s.cs.source.code, byte s.fm.changes.length]) ∧
    (s.fm.sweep = none →
      exec .readPose s = .next (s.answered 3 (.done
        (leBytes 4 s.mo.pu.x ++ leBytes 4 s.mo.pu.y ++ leBytes 2 s.mo.pu.theta ++ leBytes 4 s.mo.pu.u ++
         [byte s.mo.pu.centre.cx, byte s.mo.pu.centre.cy, flagByte s.mo.pu.base.held, byte s.mo.pu.slip]))) ∧
      exec .readTuning s = .next (s.answered 3 (.done (tuningBytes s.tun))) ∧
      exec .readCalibration s = .next (s.answered 3 (.done (calibrationBytes s.cs.working ++
        [byte s.cs.first.code, byte s.cs.second.code, byte s.cs.source.code]))) ∧
      (∀ list : Byte, 1 < list.toNat → exec (.readList list) s = .next (s.answered 4 (.invalid 2 0))) ∧
      ∀ (list : Byte) (id : ListId) (l : RunList), l = s.mo.re.list id →
        list = (match id with
          | .main => 0
          | .priority => 1) →
        exec (.readList list) s = .next (s.answered 4 (.done (
          [list, byte l.entries.length, byte l.position, byte l.passes, byte l.passesDone,
            byte ((if l.stopOnHazard then 1 else 0) + (if l.homeOnLow then 2 else 0) +
              (if s.mo.re.engaged id then 4 else 0) +
              (if id = .main ∧ s.mo.re.suspended.isSome = true then 8 else 0))] ++
          l.entries.flatMap fun e =>
            [byte e.slot, byte e.desc.outcome.code] ++ wordBytes e.desc.start ++ wordBytes e.desc.finish ++
            [byte e.desc.attempts,
             byte ((if e.desc.altUsed then 1 else 0) + (if e.desc.blocking.isSome then 2 else 0))] ++
            (match e.desc.blocking with
              | some c => [byte c.cx, byte c.cy]
              | none => [0, 0]) ++
            leBytes 2 e.desc.endError))))

/-- WRITE TUNING of a block whose 32 fields lie in their ranges replaces the block whole and nothing else; of one
with a field outside it changes nothing and names the first such field, by its number from 2 (R170). READ TUNING
carries the block in the layout of the WRITE TUNING body and changes nothing, and its body sent back as a WRITE
TUNING body writes the same block (R171). -/
def Obligations.TuningIsWrittenAndReadBack : Prop :=
  ∀ s : State, s.Ready →
    (∀ t : Tuning, tuningOk t → exec (.writeTuning t) s = .next (State.answered 53 (.done []) { s with tun := t })) ∧
    (∀ (t : Tuning) (n : Nat), n < 32 →
      (∀ k v lo hi, k < n → (tuningList t)[k]? = some v → tuningRanges[k]? = some (lo, hi) → lo ≤ v ∧ v ≤ hi) →
      (∀ v lo hi, (tuningList t)[n]? = some v → tuningRanges[n]? = some (lo, hi) → v < lo ∨ hi < v) →
      exec (.writeTuning t) s = .next (s.answered 53 (.invalid (n + 2) 0))) ∧
    exec .readTuning s = .next (s.answered 3 (.done (tuningBytes s.tun))) ∧
    (tuningOk s.tun → (tuningBytes s.tun).length = 50 ∧
      parseRequest 0x40 (tuningBytes s.tun) = .request (.writeTuning s.tun))

/-! ## The Floor Map (chapter 1) -/

/-- SET WINDOW, SET CURSOR and READ CELLS on a ready part (R15, R16, R20). SET WINDOW names the first bad field; is
BUSY while a fill runs; or sets the window and the entry mode and moves the cursor to the start corner of the new
window. SET CURSOR refuses a cell outside the window, naming cx or else cy; is BUSY while a fill runs; or moves the
cursor to the cell. READ CELLS of a count of 0 or over 1024 is INVALID; is BUSY while a fill runs; or returns the
bytes of the cells of its walk in order, as they stand, and moves the cursor alone. Nothing else changes, and a
check in progress stops none of them. -/
def Obligations.WindowCursorAndReadCells : Prop :=
  ∀ s : State, s.Ready →
    (∀ xs xe ys ye p xd yd : Byte,
      (xe < xs → exec (.setWindow xs xe ys ye p xd yd) s = .next (s.answered 10 (.invalid 3 0))) ∧
      (xs ≤ xe → ye < ys → exec (.setWindow xs xe ys ye p xd yd) s = .next (s.answered 10 (.invalid 5 0))) ∧
      (xs ≤ xe → ys ≤ ye → 1 < p →
        exec (.setWindow xs xe ys ye p xd yd) s = .next (s.answered 10 (.invalid 6 0))) ∧
      (xs ≤ xe → ys ≤ ye → p ≤ 1 → 1 < xd →
        exec (.setWindow xs xe ys ye p xd yd) s = .next (s.answered 10 (.invalid 7 0))) ∧
      (xs ≤ xe → ys ≤ ye → p ≤ 1 → xd ≤ 1 → 1 < yd →
        exec (.setWindow xs xe ys ye p xd yd) s = .next (s.answered 10 (.invalid 8 0))) ∧
      (xs ≤ xe → ys ≤ ye → p ≤ 1 → xd ≤ 1 → yd ≤ 1 →
        (s.fm.fill.isSome = true → exec (.setWindow xs xe ys ye p xd yd) s = .next (s.answered 10 .busy)) ∧
        (s.fm.fill = none → exec (.setWindow xs xe ys ye p xd yd) s = .next (State.answered 10 (.done [])
          { s with fm := { s.fm with
              win := { x0 := xs.toNat, x1 := xe.toNat, y0 := ys.toNat, y1 := ye.toNat }
              mode := { primary := if p = 0 then .x else .y, xDir := if xd = 0 then .inc else .dec,
                        yDir := if yd = 0 then .inc else .dec }
              cursor := { cx := if xd = 0 then xs.toNat else xe.toNat,
                          cy := if yd = 0 then ys.toNat else ye.toNat } } })))) ∧
    (∀ cx cy : Byte,
      (cx.toNat < s.fm.win.x0 ∨ s.fm.win.x1 < cx.toNat →
        exec (.setCursor cx cy) s = .next (s.answered 5 (.invalid 2 0))) ∧
      (s.fm.win.x0 ≤ cx.toNat → cx.toNat ≤ s.fm.win.x1 →
        cy.toNat < s.fm.win.y0 ∨ s.fm.win.y1 < cy.toNat →
        exec (.setCursor cx cy) s = .next (s.answered 5 (.invalid 3 0))) ∧
      (s.fm.win.Has { cx := cx.toNat, cy := cy.toNat } →
        (s.fm.fill.isSome = true → exec (.setCursor cx cy) s = .next (s.answered 5 .busy)) ∧
        (s.fm.fill = none → exec (.setCursor cx cy) s = .next (State.answered 5 (.done [])
          { s with fm := { s.fm with cursor := { cx := cx.toNat, cy := cy.toNat } } })))) ∧
    ∀ count : Half,
      (count.toNat = 0 ∨ 1024 < count.toNat →
        exec (.readCells count) s = .next (s.answered 5 (.invalid 2 0))) ∧
      (1 ≤ count.toNat → count.toNat ≤ 1024 →
        (s.fm.fill.isSome = true → exec (.readCells count) s = .next (s.answered 5 .busy)) ∧
        (s.fm.fill = none → exec (.readCells count) s = .next (State.answered 5
          (.done ((s.fm.win.walk s.fm.mode count.toNat s.fm.cursor).map fun c => (s.fm.cellAt c).toByte))
          { s with fm := { s.fm with
              cursor := Nat.iterate (s.fm.win.advance s.fm.mode) count.toNat s.fm.cursor } })))

/-- The cursor's walk (R17): from any cell of a window, as many advances as it has cells visit each of its
cells exactly once and lead back to where they began. -/
def Obligations.CursorWalksTheWindowOnce : Prop :=
  ∀ (w : Window) (m : EntryMode) (c : CellIx), w.Ok → w.Has c →
    (w.walk m w.count c).Nodup ∧ (∀ d, w.Has d ↔ d ∈ w.walk m w.count c) ∧
    Nat.iterate (w.advance m) w.count c = c

/-- WRITE CELLS (R4, R18, R19, R24, R63). An empty body is INVALID, a byte of class code 7 names its place, and a
running fill or a held check makes it BUSY. Carried out, the answer's held count is the number of its bytes that
met Cliff with origin Sensed on the walk, and MapHeld says whether there was one; each cell of the walk that is no
such cell holds the class, confidence and visited mark of the last byte to reach it with origin Planner, and such a
cell stands; the cursor has advanced once for each byte; no cell off the walk and no sector off it is touched, and
nothing changes but the Floor Map and the Clearance Unit. One byte alone leaves the Clearance Unit as its map change
does, a re-check it asks for waiting. -/
def Obligations.WriteCellsWalksTheWindow : Prop :=
  ∀ (cells : List Byte) (s : State), s.Ready →
    (cells = [] → exec (.writeCells cells) s = .next (s.answered 3 (.invalid 1 0))) ∧
    (∀ (n : Nat) (b : Byte), cells.length ≤ 1024 → cells[n]? = some b → b.toNat % 8 = 7 →
      (∀ j c, j < n → cells[j]? = some c → c.toNat % 8 ≠ 7) →
      exec (.writeCells cells) s = .next (s.answered (3 + cells.length) (.invalid 2 n))) ∧
    (cells ≠ [] → cells.length ≤ 1024 → (∀ b ∈ cells, b.toNat % 8 ≠ 7) →
      (s.fm.fill.isSome = true ∨ s.mo.cu.checks ≠ [] →
        exec (.writeCells cells) s = .next (s.answered (3 + cells.length) .busy)) ∧
      (s.fm.fill = none → s.mo.cu.checks = [] → Memory.wf CellRec.swept s.fm.cells →
        ∀ (walk : List CellIx) (held : Nat), walk = s.fm.win.walk s.fm.mode cells.length s.fm.cursor →
          held = s.fm.heldOn walk →
          ∃ t, exec (.writeCells cells) s = .next t ∧
            t.pp = (s.answered (3 + cells.length) (.done (leBytes 2 held))).pp ∧
            t.fm.mapHeld = decide (0 < held) ∧
            t.fm.cursor = Nat.iterate (s.fm.win.advance s.fm.mode) cells.length s.fm.cursor ∧
            (∀ c ∈ walk, (s.fm.cellAt c).sensedCliff = true → t.fm.cellAt c = s.fm.cellAt c) ∧
            (∀ (j : Nat) (b : Byte) (c : CellIx), cells[j]? = some b → walk[j]? = some c →
              (∀ i d, j < i → walk[i]? = some d → d.addr ≠ c.addr) → (s.fm.cellAt c).sensedCliff = false →
              ∃ k, CellClass.ofCode (b.toNat % 8) = some k ∧
                t.fm.cellAt c = { cls := k, conf := b.extractLsb' 3 3, origin := .planner
                                  visited := b.getLsbD 7 }) ∧
            (∀ a, a ∉ walk.map CellIx.addr →
              Memory.read CellRec.swept t.fm.cells a = Memory.read CellRec.swept s.fm.cells a) ∧
            (∀ k, k ∉ walk.map CellIx.sector → t.fm.sectorAt k = s.fm.sectorAt k) ∧
            t = { s with fm := { s.fm with cells := t.fm.cells, sectors := t.fm.sectors, cursor := t.fm.cursor
                                           mapHeld := t.fm.mapHeld }
                         pp := t.pp, mo := { s.mo with cu := t.mo.cu } })) ∧
    (∀ (b : Byte) (r : CellRec), cells = [b] → s.fm.fill = none → s.mo.cu.checks = [] →
      Memory.wf CellRec.swept s.fm.cells → CellRec.ofByte b = some r →
      ∃ t, exec (.writeCells [b]) s = .next t ∧
        ((s.fm.cellAt s.fm.cursor).sensedCliff = true →
          t.fm.cells = s.fm.cells ∧ t.fm.sectors = s.fm.sectors ∧ t.mo = s.mo ∧
          t.pp.slot = some (.done [1, 0]) ∧ t.fm.mapHeld = true) ∧
        ((s.fm.cellAt s.fm.cursor).sensedCliff = false →
          t.fm.cellAt s.fm.cursor = { r with origin := .planner } ∧ t.pp.slot = some (.done [0, 0]) ∧
          t.fm.mapHeld = false ∧
          (t.mo.cu = if (s.fm.cellAt s.fm.cursor).altered { r with origin := .planner } then
              (takeMapChange { t.env with mapBusy := true } s.fm.cursor { r with origin := .planner } s.mo).cu
            else s.mo.cu) ∧
          ∀ a, a ≠ s.fm.cursor.addr →
            Memory.read CellRec.swept t.fm.cells a = Memory.read CellRec.swept s.fm.cells a))

/-- The steps of a fill (R19, R21, R22, R24). FILL WINDOW of class code 7 is INVALID; is BUSY while a fill runs or a
check is held; or starts a fill with its own copies, at the start corner, with every cell of the window left, and
no cell and no cursor moves. FILL PROGRESS presents the next cells of the fill's walk: those that hold Cliff with
origin Sensed stand and are counted as held, the others take its record, and no other cell is touched. FILL DONE
presents the last cell, ends the fill, sets MapHeld from the held count and raises FillDone. Nothing else changes
but the Clearance Unit. That FILL PROGRESS stops short of the last cell, and FILL DONE before it does nothing, are
the model's choices (assumption 5). -/
def Obligations.FillsWalkTheirWindow : Prop :=
  ∀ s : State,
    (s.Ready → ∀ b : Byte,
      (b.toNat % 8 = 7 → exec (.fillWindow b) s = .next (s.answered 4 (.invalid 2 0))) ∧
      ∀ r : CellRec, CellRec.ofByte b = some r →
        (s.fm.fill.isSome = true ∨ s.mo.cu.checks ≠ [] →
          exec (.fillWindow b) s = .next (s.answered 4 .busy)) ∧
        (s.fm.fill = none → s.mo.cu.checks = [] → exec (.fillWindow b) s = .next (State.answered 4 .started
          { s with fm := { s.fm with fill := some { cell := r, win := s.fm.win, mode := s.fm.mode,
                                                    pos := s.fm.win.start s.fm.mode,
                                                    left := s.fm.win.count, held := 0 } } }))) ∧
    (∀ (n : Nat) (f : Fill) (walk : List CellIx), s.fm.fill = some f → Memory.wf CellRec.swept s.fm.cells →
      walk = f.win.walk f.mode (min n (f.left - 1)) f.pos →
      ∃ t, exec (.fillProgress n) s = .next t ∧
        (∀ c ∈ walk, t.fm.cellAt c =
          if (s.fm.cellAt c).sensedCliff then s.fm.cellAt c else { f.cell with origin := .planner }) ∧
        (∀ a, a ∉ walk.map CellIx.addr →
          Memory.read CellRec.swept t.fm.cells a = Memory.read CellRec.swept s.fm.cells a) ∧
        t = { s with fm := { s.fm with cells := t.fm.cells, sectors := t.fm.sectors, fill := some { f with
                               pos := Nat.iterate (f.win.advance f.mode) (min n (f.left - 1)) f.pos
                               left := f.left - min n (f.left - 1)
                               held := f.held + s.fm.heldOn walk } }
                     mo := { s.mo with cu := t.mo.cu } }) ∧
    (∀ f, s.fm.fill = some f → f.left = 1 → Memory.wf CellRec.swept s.fm.cells →
      ∃ t, exec .fillDone s = .next t ∧
        (t.fm.cellAt f.pos =
          if (s.fm.cellAt f.pos).sensedCliff then s.fm.cellAt f.pos else { f.cell with origin := .planner }) ∧
        (∀ a, a ≠ f.pos.addr →
          Memory.read CellRec.swept t.fm.cells a = Memory.read CellRec.swept s.fm.cells a) ∧
        t = { s with fm := { s.fm with cells := t.fm.cells, sectors := t.fm.sectors, fill := none
                                       mapHeld := decide (0 < f.held) || (s.fm.cellAt f.pos).sensedCliff }
                     mo := { s.mo with cu := t.mo.cu, eu := s.mo.eu.raise .fillDone } }) ∧
    ((∀ f, s.fm.fill = some f → f.left ≠ 1) → exec .fillDone s = .next s)

/-- A fill whole (R21, R22): FILL WINDOW, its progress and its end leave in every cell of the window the byte's
record with origin Planner, or the sensed Cliff that was there, and every other cell of the map as it was; MapHeld
says whether the window held a sensed Cliff, the cursor stands, and FillDone is raised. -/
def Obligations.FillWritesTheWindow : Prop :=
  ∀ (b : Byte) (r : CellRec) (s : State), s.Ready → s.fm.Sound → s.fm.fill = none → s.mo.cu.checks = [] →
    CellRec.ofByte b = some r →
    ∃ t u v, exec (.fillWindow b) s = .next t ∧ exec (.fillProgress 65536) t = .next u ∧
      exec .fillDone u = .next v ∧ v.fm.fill = none ∧
      (v.fm.mapHeld = true ↔ ∃ c, s.fm.win.Has c ∧ (s.fm.cellAt c).sensedCliff = true) ∧
      v.fm.cursor = s.fm.cursor ∧ v.mo.eu = s.mo.eu.raise .fillDone ∧
      (∀ c, s.fm.win.Has c → v.fm.cellAt c =
        if (s.fm.cellAt c).sensedCliff then s.fm.cellAt c else { r with origin := .planner }) ∧
      ∀ c, c.InMap → ¬ s.fm.win.Has c → v.fm.cellAt c = s.fm.cellAt c

/-- RELEASE HAZARD (R9, R24, R63). A class code that names none is INVALID; a running fill or a held check makes it
BUSY; a cell that does not hold Cliff with origin Sensed is refused with NotHazard. Otherwise the cell takes the new
class with confidence 7 and origin Planner, its visited mark kept; no other cell and no entry changes, and nothing
outside the Floor Map but what the map change does to the Clearance Unit. -/
def Obligations.ReleaseHazardFreesTheCell : Prop :=
  ∀ (cx cy cls : Byte) (s : State) (c : CellIx), s.Ready → c = { cx := cx.toNat, cy := cy.toNat } →
    (7 ≤ cls.toNat → exec (.releaseHazard cx cy cls) s = .next (s.answered 6 (.invalid 4 0))) ∧
    ∀ k : CellClass, CellClass.ofCode cls.toNat = some k →
      (s.fm.fill.isSome = true ∨ s.mo.cu.checks ≠ [] →
        exec (.releaseHazard cx cy cls) s = .next (s.answered 6 .busy)) ∧
      (s.fm.fill = none → s.mo.cu.checks = [] → (s.fm.cellAt c).sensedCliff = false →
        exec (.releaseHazard cx cy cls) s = .next (s.answered 6 (.rejected .notHazard))) ∧
      (s.fm.fill = none → s.mo.cu.checks = [] → Memory.wf CellRec.swept s.fm.cells →
        (s.fm.cellAt c).sensedCliff = true →
        ∃ t new, exec (.releaseHazard cx cy cls) s = .next t ∧ t.fm.cellAt c = new ∧
          new = { cls := k, conf := 7, origin := .planner, visited := (s.fm.cellAt c).visited } ∧
          (∀ a, a ≠ cy.toNat * 256 + cx.toNat →
            Memory.read CellRec.swept t.fm.cells a = Memory.read CellRec.swept s.fm.cells a) ∧
          t = State.answered 6 (.done [])
            { s with fm := { s.fm with cells := t.fm.cells, sectors := t.fm.sectors },
                     mo := { s.mo with cu := (takeMapChange t.env c new s.mo).cu } })

/-- READ SECTORS returns the records of its sectors in order and changes nothing but the slot; a count of 0, over
64 or past the last sector is INVALID, and a running fill makes it BUSY (R13). READ CHANGES takes the oldest
entries, up to its count, out of the queue and returns them after their number, whatever runs; ChangeLost clears
when none is left; a count of 0 or over 64 is INVALID (R28). -/
def Obligations.SectorsAndChangesAreRead : Prop :=
  ∀ s : State, s.Ready →
    (∀ start count : Byte,
      (count.toNat = 0 ∨ 64 < count.toNat ∨ 256 < start.toNat + count.toNat →
        exec (.readSectors start count) s = .next (s.answered 5 (.invalid 3 0))) ∧
      (1 ≤ count.toNat → count.toNat ≤ 64 → start.toNat + count.toNat ≤ 256 →
        (s.fm.fill.isSome = true → exec (.readSectors start count) s = .next (s.answered 5 .busy)) ∧
        (s.fm.fill = none → exec (.readSectors start count) s = .next (s.answered 5
          (.done ((List.range count.toNat).flatMap fun k => (s.fm.sectorAt (start.toNat + k)).bytes)))))) ∧
    ∀ count : Byte,
      (count.toNat = 0 ∨ 64 < count.toNat → exec (.readChanges count) s = .next (s.answered 4 (.invalid 2 0))) ∧
      (1 ≤ count.toNat → count.toNat ≤ 64 →
        exec (.readChanges count) s = .next (State.answered 4
          (.done (byte (min count.toNat s.fm.changes.length) ::
            (s.fm.changes.take count.toNat).flatMap ChangeEntry.bytes))
          { s with fm := { s.fm with
              changes := s.fm.changes.drop count.toNat
              changeLost := s.fm.changeLost && decide (count.toNat < s.fm.changes.length) } }))

/-- A sensed mark (R5, R6, R25 to R27, R63): the cell's new record by the two merge tables, the visited mark kept;
a class change joins the queue as its newest entry, or finds 64 entries, is dropped and sets ChangeLost; a change of
class, confidence or origin reaches the Clearance Unit as a map change; no other cell changes, nor the window, the
cursor, the fill or any block but the Clearance Unit and the Event Unit. -/
def Obligations.SensedMarksMerge : Prop :=
  ∀ (k : SensedMark) (s t : State) (old new : CellRec), Memory.wf CellRec.swept s.fm.cells →
    t = s.sensedMark k → old = s.fm.cellAt k.cell → new = t.fm.cellAt k.cell →
    (new =
      if k.cause = .cliffTrip ∨ k.cause = .wheelDrop then
        if old.cls = .cliff ∧ old.origin = .sensed then old
        else { old with cls := .cliff, conf := 7, origin := .sensed }
      else
        match old.cls with
        | .unknown => { old with cls := .obstacle, conf := 3, origin := .sensed }
        | .free => { old with cls := .obstacle, conf := 3, origin := .sensed }
        | .rug => { old with cls := .obstacle, conf := 3, origin := .sensed }
        | .obstacle => { old with conf := BitVec.ofNat 3 (min 7 (old.conf.toNat + 1)), origin := .sensed }
        | .cliff => old
        | .keepOut => old
        | .dock => old) ∧
    (∀ a, a ≠ k.cell.addr →
      Memory.read CellRec.swept t.fm.cells a = Memory.read CellRec.swept s.fm.cells a) ∧
    (new.cls = old.cls →
      t.fm.changes = s.fm.changes ∧ t.fm.changeLost = s.fm.changeLost ∧ t.mo.eu = s.mo.eu) ∧
    (new.cls ≠ old.cls → s.fm.changes.length < 64 →
      t.fm.changes = s.fm.changes ++
        [{ cell := k.cell, old := old.cls, new := new.cls, cause := k.cause, sensor := k.sensor,
           time := s.mo.eu.time }] ∧
      t.fm.changeLost = s.fm.changeLost ∧
      t.mo.eu = if s.tun.changeNotice ≤ s.fm.changes.length + 1 then s.mo.eu.raise .changesWaiting
        else s.mo.eu) ∧
    (new.cls ≠ old.cls → 64 ≤ s.fm.changes.length →
      t.fm.changes = s.fm.changes ∧ t.fm.changeLost = true ∧ t.mo.eu = s.mo.eu.raise .changeLost) ∧
    (new.cls = old.cls ∧ new.conf = old.conf ∧ new.origin = old.origin → t.mo.cu = s.mo.cu) ∧
    (new.cls ≠ old.cls ∨ new.conf ≠ old.conf ∨ new.origin ≠ old.origin →
      t.mo.cu = (takeMapChange t.env k.cell new s.mo).cu) ∧
    t = { s with
      fm := { s.fm with cells := t.fm.cells, sectors := t.fm.sectors, changes := t.fm.changes
                        changeLost := t.fm.changeLost }
      mo := { s.mo with cu := t.mo.cu, eu := t.mo.eu } }

/-- What a map change does to the Clearance Unit (R60, R61, R63, R64). A sampling check that has examined a sample
whose outer disc holds the cell returns to P_0 with its start, heading, radii and fields kept; any other check
stands. With a corridor record, when the new record blocks in its column within that radius of a sample of the
path still to be done from the pose, a re-check of its grant is asked for, unless one is held already; otherwise
nothing. -/
def Obligations.MapChangesReachTheUnit : Prop :=
  ∀ (env : Env) (c : CellIx) (new : CellRec) (m : Motion),
    ∃ q : Motion, q = { m with cu := { m.cu with checks := q.cu.checks } } ∧
      (∀ (req : CheckReq) (sp : Sampling) (rest : List Check),
        m.cu.checks = { req := req, run := some sp } :: rest →
        ((∃ i, i < sp.next ∧ cellDist2 (sp.point i).1 (sp.point i).2 (c.cx, c.cy) ≤ (sp.outer * 1000) ^ 2) →
          q.cu.checks = { req := req, run := some { sp with
            next := 0, overlap := [], cap := req.speed, unknownSeen := false, blocked := none } } :: rest) ∧
        ((∀ i, i < sp.next → (sp.outer * 1000) ^ 2 < cellDist2 (sp.point i).1 (sp.point i).2 (c.cx, c.cy)) →
          q = m)) ∧
      ((∀ req sp rest, m.cu.checks ≠ { req := req, run := some sp } :: rest) → q = m) ∧
      (m.cu.corridor = none → takeMapChange env c new m = q) ∧
      ∀ (cor : Corridor) (len : Nat) (ex ey : Int), m.cu.corridor = some cor →
        len = (cor.amount - m.re.amountDone).toNat → ex = m.pu.x + rhaz (cor.dirX * len) cor.divisor →
        ey = m.pu.y + rhaz (cor.dirY * len) cor.divisor →
        ((∃ (r i : Nat) (p : Int × Int),
            blockRadius cor.column cor.allowUnknown cor.avoidRug cor.obstacleFloor cor.rh cor.rc 0 new.cls
              new.conf.toNat = some r ∧
            i ≤ (len + 24999) / 25000 ∧
            p = (if i = 0 then ((m.pu.x : Int), (m.pu.y : Int))
              else if i = (len + 24999) / 25000 then (ex, ey)
              else (m.pu.x + rhaz (cor.dirX * (i * 25000 : Nat)) cor.divisor,
                    m.pu.y + rhaz (cor.dirY * (i * 25000 : Nat)) cor.divisor)) ∧
            cellDist2 p.1 p.2 (c.cx, c.cy) ≤ (r * 1000) ^ 2) ∧
          (∀ k ∈ m.cu.checks, k.req.owner ≠ .recheck cor.grant) →
          takeMapChange env c new m = askCheck env
            { owner := .recheck cor.grant, path := .spot, column := cor.column
              allowUnknown := cor.allowUnknown, avoidRug := cor.avoidRug, speed := 0 } q) ∧
        ((∀ (r i : Nat) (p : Int × Int),
            blockRadius cor.column cor.allowUnknown cor.avoidRug cor.obstacleFloor cor.rh cor.rc 0 new.cls
              new.conf.toNat = some r →
            i ≤ (len + 24999) / 25000 →
            p = (if i = 0 then ((m.pu.x : Int), (m.pu.y : Int))
              else if i = (len + 24999) / 25000 then (ex, ey)
              else (m.pu.x + rhaz (cor.dirX * (i * 25000 : Nat)) cor.divisor,
                    m.pu.y + rhaz (cor.dirY * (i * 25000 : Nat)) cor.divisor)) →
            (r * 1000) ^ 2 < cellDist2 p.1 p.2 (c.cx, c.cy)) ∨
          (∃ k ∈ m.cu.checks, k.req.owner = .recheck cor.grant) →
          takeMapChange env c new m = q)

/-- A cell holding Cliff with origin Sensed leaves that state only through RELEASE HAZARD or a power-on reset
and its map sweep (R7): every other command keeps it there, and so does a step with nothing waiting, unless it
takes a RELEASE HAZARD frame out of the receive buffer. -/
def Obligations.SensedCliffStandsUntilReleased : Prop :=
  ∀ (c : CellIx) (s t : State), s.fm.Sound → (s.fm.cellAt c).sensedCliff = true →
    (∀ i : Instr, mayRelease i = false → exec i s = .next t → (t.fm.cellAt c).sensedCliff = true) ∧
    (s.pending = [] → (∀ f, s.pp.buffer = some f → f.code ≠ releaseCode) → step s = .next t →
      (t.fm.cellAt c).sensedCliff = true)

/-- POWER ON RESET and its map sweep (R186, R188, R189). Every block is at its reset values but for the switch
lines' levels and the count of their free levels, what the sweep has still to write, the one-time slots, and what
waits to be commanded; a burn cut short spoils its slot; the working record is loaded from the Second slot, from
the First, or from the defaults, in that order. The sweep's progress writes the next cells, each to Unknown, 0,
Planner, no mark, and no other cell; its end, once the last cell is written, clears Sweep running, and before that
does nothing. That cells and sectors stand until swept, the queue stays, the line levels are free, fields with no
value in the manual take chosen ones and an end not due does nothing are the model's choices (assumptions 2, 1, 3,
15, 5). -/
def Obligations.PowerOnResetsAndSweeps : Prop :=
  ∀ s : State,
    (∃ t, exec .powerOnReset s = .next t ∧
      t = { State.reset with
            fm := { State.reset.fm with cells := s.fm.cells, sectors := s.fm.sectors }
            cs := t.cs, moments := t.moments, pending := s.pending
            mo := { State.reset.mo with hg := { State.reset.mo.hg with lines := t.mo.hg.lines } } } ∧
      t.cs.burn = none ∧
      (s.cs.burn = none → t.cs.first = s.cs.first ∧ t.cs.second = s.cs.second) ∧
      (∀ b, s.cs.burn = some b →
        (b.slot = .first → t.cs.first = .spoiled ∧ t.cs.second = s.cs.second) ∧
        (b.slot = .second → t.cs.first = s.cs.first ∧ t.cs.second = .spoiled)) ∧
      (∀ r, t.cs.second = .written r →
        t.cs.working = r ∧ t.cs.source = .second ∧ t.cs.calDefault = false) ∧
      (∀ r, (∀ q, t.cs.second ≠ .written q) → t.cs.first = .written r →
        t.cs.working = r ∧ t.cs.source = .first ∧ t.cs.calDefault = false) ∧
      ((∀ q, t.cs.second ≠ .written q) → (∀ q, t.cs.first ≠ .written q) →
        t.cs.working = Config.calibration ∧ t.cs.source = .defaults ∧ t.cs.calDefault = true)) ∧
    (∀ n a : Nat, s.fm.sweep = some a → Memory.wf CellRec.swept s.fm.cells →
      (a + n ≤ 65536 → ∃ t, exec (.mapSweepProgress n) s = .next t ∧ t.fm.sweep = some (a + n) ∧
        (∀ k, a ≤ k → k < a + n → Memory.read CellRec.swept t.fm.cells k =
          { cls := .unknown, conf := 0, origin := .planner, visited := false }) ∧
        (∀ k, k < a ∨ a + n ≤ k →
          Memory.read CellRec.swept t.fm.cells k = Memory.read CellRec.swept s.fm.cells k) ∧
        t = { s with fm := { s.fm with cells := t.fm.cells, sectors := t.fm.sectors
                                       sweep := some (a + n) } }) ∧
      (a = 65536 → exec .mapSweepDone s = .next { s with fm := { s.fm with sweep := none } }) ∧
      (a ≠ 65536 → exec .mapSweepDone s = .next s)) ∧
    (s.fm.sweep = none → exec .mapSweepDone s = .next s ∧ ∀ n, exec (.mapSweepProgress n) s = .next s)

/-- Every step keeps the Floor Map sound: stores canonical, cursor inside the window (R14), at most 64 entries
in the queue (R25), a fill inside its window. On a sound Floor Map it keeps the Sector Table true as well: each
count equals the number of the sector's cells holding the class or the mark (R10). -/
def Obligations.FloorMapAndSectorTableStayTrue : Prop :=
  ∀ s t : State, s.fm.Sound → step s = .next t → t.fm.Sound ∧ (s.fm.Tallied → t.fm.Tallied)

/-! ## Reset values (R2, R12, R14, R31, R74, R114, R124, R186) -/

/-- After a power-on reset every invariant stated below holds. -/
def Obligations.ResetIsSound : Prop :=
  State.reset.fm.Sound ∧ State.reset.fm.Tallied ∧ State.reset.PoseSound ∧ State.reset.mo.re.Sound ∧
  State.reset.mo.GrantOwned ∧ State.reset.cs.BurnOk

/-! ## The pose (chapter 2) -/

/-- Baseline reports and jumps (R32, R33, R35, R46). The pose step of a report is `State.takePose` of what its link
step leaves (the rest of the report: ReportsJudgeTheGrant). Of every state, whatever the engine, the grant record and
the device do, a baseline report takes the counts, and x, y, θ, the centre and the cells stand; a jump, whose
differences, read as signed 16-bit numbers, pass a limit (R34), raises U by JumpPenalty and Slip with sub-cause Jump,
keeps the slip counter, which a baseline report clears, and is compared with LostLimit (DriveWatchDropsTheGrant says
what that does). A report that meets nothing else leaves that and its sense items. That the held travel and turn read 0
after it is the model's choice (assumption 35). -/
def Obligations.BaselineAndJumpReports : Prop :=
  ∀ (r : Report) (b : Beacon) (s v q : State), s.posed r b = (s.linked b).takePose r ∧
    (v.mo.pu.base.held = false ∨ r.restart = true →
      q = v.withPose { v.mo.pu with
        base := { left := r.left, right := r.right, yaw := r.yaw, held := true }
        slip := 0, travel := 0, turn := 0 } →
      v.takePose r = q ∧
      (s.QuietFor r → v = s.linked b → exec (.driveReport r.frame b) s = .next (q.sensed r))) ∧
    (v.mo.pu.base.held = true → r.restart = false →
      2047 < (r.left - v.mo.pu.base.left).toInt.natAbs ∨ 2047 < (r.right - v.mo.pu.base.right).toInt.natAbs ∨
        4095 < (r.yaw - v.mo.pu.base.yaw).toInt.natAbs →
      q = { v.withPose { v.mo.pu with
              base := { left := r.left, right := r.right, yaw := r.yaw, held := true }
              u := min 1000000 (v.mo.pu.u + v.tun.jumpPenalty), travel := 0, turn := 0 } with
            mo.eu := { v.mo.eu.raise .slip with jumpSeen := true } } →
      v.takePose r = q.lostTest ∧
      (s.QuietFor r → v = s.linked b → exec (.driveReport r.frame b) s = .next (q.sensed r)))

/-- An integrated report, on every state (R34 to R46): the new x, y and θ, the growth of U, the slip counter, the
travel and the turn it hands on, the amount done under an outstanding grant, the causes raised, and the mark of a cell
newly entered, by the eleven stages; no cell's class, confidence or origin changes, and nothing outside the Floor Map,
the Pose Unit, the Event Unit and the amount done. The wheels' movement then wakes a PARKED part whose enable is set,
and the Lost comparison ends the pose step (DriveWatchDropsTheGrant says what it does). A report that meets nothing
else leaves that and its sense items. -/
def Obligations.IntegratedReportMovesThePose : Prop :=
  ∀ (r : Report) (v : State) (dL dR dG d2 f dx dy : Int) (k x y theta travel grown mis : Nat),
    v.mo.pu.base.held = true → r.restart = false →
    dL = (r.left - v.mo.pu.base.left).toInt → dR = (r.right - v.mo.pu.base.right).toInt →
    dG = (r.yaw - v.mo.pu.base.yaw).toInt →
    -2047 ≤ dL → dL ≤ 2047 → -2047 ≤ dR → dR ≤ 2047 → -4095 ≤ dG → dG ≤ 4095 →
    d2 = (dL + dR) * v.cs.working.tickScale →
    f = (if (v.fm.cellAt v.mo.pu.centre).cls = .rug then (v.tun.rugFactor : Int) else 256) →
    (k : Int) = (v.mo.pu.theta + dG / 2) % 65536 / 64 →
    dx = rhaz (d2 * f * sinT ((k + 256) % 1024)) 134217728 → dy = rhaz (d2 * f * sinT k) 134217728 →
    (x : Int) = max 0 (min 12799999 (v.mo.pu.x + dx)) → (y : Int) = max 0 (min 12799999 (v.mo.pu.y + dy)) →
    (theta : Int) = (v.mo.pu.theta + dG) % 65536 →
    travel = (rhaz ((d2 * f).natAbs : Int) 8192).toNat →
    grown = min 1000000 (v.mo.pu.u + travel * v.tun.growthRate / 1024) →
    mis = (rhaz ((dR - dL) * v.cs.working.tickScale * 10430) (16000 * v.cs.working.wheelBase) - dG).natAbs →
    ∃ (t : State) (pu : PoseUnit) (eu : EventUnit),
      pu = { x := x, y := y, theta := theta, centre := { cx := x / 50000, cy := y / 50000 },
             base := { left := r.left, right := r.right, yaw := r.yaw, held := true },
             u := if 0 < v.tun.slipLimit ∧ v.tun.slipLimit < mis ∧ v.tun.slipReports ≤ v.mo.pu.slip + 1
               then min 1000000 (grown + v.tun.slipPenalty) else grown
             slip := if 0 < v.tun.slipLimit ∧ v.tun.slipLimit < mis ∧ v.mo.pu.slip + 1 < v.tun.slipReports
               then v.mo.pu.slip + 1 else 0
             travel := travel, turn := dG } ∧
      eu = (if v.mo.pu.x + dx < 0 ∨ 12799999 < v.mo.pu.x + dx ∨ v.mo.pu.y + dy < 0 ∨
          12799999 < v.mo.pu.y + dy then v.mo.eu.raise .edgeClamp else v.mo.eu) ∧
      (pu.centre = v.mo.pu.centre ∨ (v.fm.cellAt pu.centre).visited = true → t.fm = v.fm) ∧
      (pu.centre ≠ v.mo.pu.centre → Memory.wf CellRec.swept v.fm.cells →
        t.fm.cellAt pu.centre = { v.fm.cellAt pu.centre with visited := true }) ∧
      (∀ a, pu.centre = v.mo.pu.centre ∨ a ≠ pu.centre.addr →
        Memory.read CellRec.swept t.fm.cells a = Memory.read CellRec.swept v.fm.cells a) ∧
      t = { v.withPose pu with
            fm.cells := t.fm.cells, fm.sectors := t.fm.sectors
            mo.re.amountDone := v.mo.re.amountDone + (if v.mo.dp.grant.state = .none then 0
              else if v.mo.dp.grant.kind = .rotate then dG else (travel : Int))
            mo.eu := if 0 < v.tun.slipLimit ∧ v.tun.slipLimit < mis ∧ v.tun.slipReports ≤ v.mo.pu.slip + 1
              then { eu.raise .slip with slipSeen := true } else eu } ∧
      (v.mo.eu.device = .parked → v.mo.eu.wakeHazard = true → dL ≠ 0 ∨ dR ≠ 0 →
        v.takePose r = (t.wake .moved).lostTest) ∧
      (v.mo.eu.device = .run ∨ v.mo.eu.wakeHazard = false ∨ dL = 0 ∧ dR = 0 → v.takePose r = t.lostTest) ∧
      ∀ (s : State) (b : Beacon), s.QuietFor r → v = s.linked b →
        exec (.driveReport r.frame b) s = .next (t.sensed r)

/-- FIX POSE and SET DOCK POSE (R46, R47, R153). FIX POSE names the first field out of range; with a grant
outstanding or a check held it is refused with GrantActive; otherwise the pose record takes the four values, the
centre follows, the slip counter clears, no cell is marked, and the Lost comparison follows. SET DOCK POSE names a
form, a coordinate or a standoff out of range, or the standoff of a point outside the map; is refused with InUse
while a Dock segment is in progress, and a Clear with NoDockPose when none is set; otherwise it stores the Dock Pose
with its standoff point, which the response carries, or makes it unset. Nothing else changes. -/
def Obligations.PoseAndDockPoseAreSet : Prop :=
  ∀ s : State, s.Ready →
    (∀ (x y u : Word) (theta : Half),
      (12799999 < x.toNat → exec (.fixPose x y theta u) s = .next (s.answered 17 (.invalid 2 0))) ∧
      (x.toNat ≤ 12799999 → 12799999 < y.toNat →
        exec (.fixPose x y theta u) s = .next (s.answered 17 (.invalid 3 0))) ∧
      (x.toNat ≤ 12799999 → y.toNat ≤ 12799999 → 1000000 < u.toNat →
        exec (.fixPose x y theta u) s = .next (s.answered 17 (.invalid 5 0))) ∧
      (x.toNat ≤ 12799999 → y.toNat ≤ 12799999 → u.toNat ≤ 1000000 →
        (s.mo.dp.grant.state ≠ .none ∨ s.mo.cu.checks ≠ [] →
          exec (.fixPose x y theta u) s = .next (s.answered 17 (.rejected .grantActive))) ∧
        (s.mo.dp.grant.state = .none → s.mo.cu.checks = [] → ∀ pu : PoseUnit,
          pu = { s.mo.pu with x := x.toNat, y := y.toNat, theta := theta.toNat, u := u.toNat
                              centre := { cx := x.toNat / 50000, cy := y.toNat / 50000 }, slip := 0 } →
          exec (.fixPose x y theta u) s = .next (State.answered 17 (.done []) (s.withPose pu).lostTest) ∧
          (s.mo.Still →
            exec (.fixPose x y theta u) s = .next (State.answered 17 (.done []) (s.withPose pu)))))) ∧
    (∀ (form : Byte) (x y : Word) (theta d : Half), 1 < form.toNat →
      exec (.setDockPose form x y theta d) s = .next (s.answered 16 (.invalid 2 0))) ∧
    (∀ (x y : Word) (theta d : Half) (p : Int × Int),
      p = pointAlong x.toNat y.toNat ((theta.toNat + 32768) % 65536)
        ((if d = 0 then 300 else d.toNat) * 1000 : Nat) →
      (12799999 < x.toNat → exec (.setDockPose 0 x y theta d) s = .next (s.answered 16 (.invalid 3 0))) ∧
      (x.toNat ≤ 12799999 → 12799999 < y.toNat →
        exec (.setDockPose 0 x y theta d) s = .next (s.answered 16 (.invalid 4 0))) ∧
      (x.toNat ≤ 12799999 → y.toNat ≤ 12799999 →
        ((0 < d.toNat ∧ d.toNat < 150 ∨ 600 < d.toNat) ∨ p.1 < 0 ∨ 12799999 < p.1 ∨ p.2 < 0 ∨
            12799999 < p.2 → exec (.setDockPose 0 x y theta d) s = .next (s.answered 16 (.invalid 6 0))) ∧
        ((d = 0 ∨ 150 ≤ d.toNat ∧ d.toNat ≤ 600) → ∀ sx sy : Nat, sx ≤ 12799999 → sy ≤ 12799999 →
          ((sx : Int), (sy : Int)) = p →
          ((∃ sr, s.mo.re.seg = some sr ∧ sr.seg.kind = .dock) →
            exec (.setDockPose 0 x y theta d) s = .next (s.answered 16 (.rejected .inUse))) ∧
          ((∀ sr, s.mo.re.seg = some sr → sr.seg.kind ≠ .dock) →
            exec (.setDockPose 0 x y theta d) s =
              .next (State.answered 16 (.done (leBytes 4 sx ++ leBytes 4 sy))
                { s with mo := { s.mo with du := { s.mo.du with pose := some {
                    x := x.toNat, y := y.toNat, theta := theta.toNat
                    standoff := if d = 0 then 300 else d.toNat, sx := sx, sy := sy } } } }))))) ∧
    ∀ (x y : Word) (theta d : Half),
      ((∃ sr, s.mo.re.seg = some sr ∧ sr.seg.kind = .dock) →
        exec (.setDockPose 1 x y theta d) s = .next (s.answered 16 (.rejected .inUse))) ∧
      ((∀ sr, s.mo.re.seg = some sr → sr.seg.kind ≠ .dock) →
        (s.mo.du.pose = none →
          exec (.setDockPose 1 x y theta d) s = .next (s.answered 16 (.rejected .noDockPose))) ∧
        (s.mo.du.pose.isSome = true → exec (.setDockPose 1 x y theta d) s = .next (State.answered 16 (.done [])
          { s with mo := { s.mo with du := { s.mo.du with pose := none } } })))

/-- Every step keeps the pose record in its ranges, the centre cell the cell of x and y, and the slip counter
at 15 or less (R30, R31), with the tuning block and the Dock Pose in theirs (section 9.4, R153). -/
def Obligations.PoseStaysInRange : Prop :=
  ∀ s t : State, s.PoseSound → step s = .next t → t.PoseSound

/-! ## The Segment Pool and the lists (chapter 4) -/

/-- LOAD SEGMENT and CLEAR SEGMENT (R69, R70, R72, R73). LOAD SEGMENT names a slot above 127, a kind that is none
of the four, or the first field its kind does not accept; a slot that an entry ahead in an engaged list names is
refused with InUse; otherwise the slot takes the record, with the speed brought into 20 to 500 and a reverse
distance above 500 stored as 500, each with its mark in the response, and the fields the kind does not use zero, no
or absent; no other slot and nothing else changes. That a distance stored as zero for another kind sets no mark is the
model's choice (assumption 40). CLEAR SEGMENT of a slot that no entry names makes it Empty; of
one that an entry of either list names it is refused with InUse; of a slot number above 127 it is INVALID. -/
def Obligations.SegmentsAreLoadedAndCleared : Prop :=
  ∀ (slot : Byte) (s : State), s.Ready →
    (127 < slot.toNat → exec (.clearSegment slot) s = .next (s.answered 4 (.invalid 2 0)) ∧
      ∀ f, exec (.loadSegment slot f) s = .next (s.answered 33 (.invalid 2 0))) ∧
    (slot.toNat ≤ 127 → ∀ f : SegmentFields, f.kind.toNat = 0 ∨ 4 < f.kind.toNat →
      exec (.loadSegment slot f) s = .next (s.answered 33 (.invalid 3 0))) ∧
    (slot.toNat ≤ 127 → ∀ (k : SegKind) (f : SegmentFields),
      f.kind.toNat = (match k with
        | .rotate => 1
        | .line => 2
        | .reverse => 3
        | .dock => 4) →
      (∀ n, SegmentFieldBad k f n → (∀ j, j < n → ¬ SegmentFieldBad k f j) →
        exec (.loadSegment slot f) s = .next (s.answered 33 (.invalid n 0))) ∧
      ((∀ n, ¬ SegmentFieldBad k f n) ↔ SegmentFieldsOk k f) ∧
      (SegmentFieldsOk k f →
        ((∃ id j e, s.mo.re.engaged id = true ∧ (s.mo.re.list id).position ≤ j ∧
          (s.mo.re.list id).entries[j]? = some e ∧ e.slot = slot.toNat) →
          exec (.loadSegment slot f) s = .next (s.answered 33 (.rejected .inUse))) ∧
        ((∀ id j e, s.mo.re.engaged id = true → (s.mo.re.list id).position ≤ j →
          (s.mo.re.list id).entries[j]? = some e → e.slot ≠ slot.toNat) → Memory.wf none s.mo.re.pool →
          ∃ t seg, exec (.loadSegment slot f) s = .next t ∧ t.mo.re.slotAt slot.toNat = some seg ∧
            (∀ n, n ≠ slot.toNat → t.mo.re.slotAt n = s.mo.re.slotAt n) ∧
            seg = { kind := k, targetX := if k = .line then f.targetX.toNat else 0,
                    targetY := if k = .line then f.targetY.toNat else 0,
                    heading := if (k = .rotate ∨ k = .line) ∧ f.headingPresent = 1 then some f.heading.toNat
                      else none
                    reverseDist := if k = .reverse then min 500 f.reverseDist.toNat else 0,
                    speed := max 20 (min 500 f.speed.toNat),
                    allowUnknown := decide (k = .line ∨ k = .dock) && f.flags.getLsbD 0,
                    avoidRug := decide (k = .line ∨ k = .dock) && f.flags.getLsbD 1,
                    notify := f.flags.getLsbD 2, retries := f.retries.toNat, dwell := f.dwell.toNat,
                    alt := if k = .line ∧ f.altPresent = 1 then some (f.altX.toNat, f.altY.toNat)
                      else none } ∧
            t = State.answered 33 (.done [BitVec.ofNat 8
                ((if f.speed.toNat < 20 ∨ 500 < f.speed.toNat then 1 else 0) +
                 (if k = .reverse ∧ 500 < f.reverseDist.toNat then 2 else 0))])
              (s.withEngine { s.mo.re with pool := t.mo.re.pool })))) ∧
    (slot.toNat ≤ 127 → Memory.wf none s.mo.re.pool →
      (∀ id, ∀ e ∈ (s.mo.re.list id).entries, e.slot ≠ slot.toNat) →
      ∃ t, exec (.clearSegment slot) s = .next t ∧ t.mo.re.slotAt slot.toNat = none ∧
        (∀ n, n ≠ slot.toNat → t.mo.re.slotAt n = s.mo.re.slotAt n) ∧
        t = State.answered 4 (.done []) (s.withEngine { s.mo.re with pool := t.mo.re.pool })) ∧
    (slot.toNat ≤ 127 → (∃ id, ∃ e ∈ (s.mo.re.list id).entries, e.slot = slot.toNat) →
      exec (.clearSegment slot) s = .next (s.answered 4 (.rejected .inUse)))

/-- LOAD LIST (R71, R76, R77). It names a list that is none of the two, a length above the list's capacity or other
than the number of slots, or the place of the first slot number that names no record; an engaged list, one that
runs, is halted on, is suspended, or waits for a pending switch, is refused with InUse. Otherwise the named list is
replaced, with its entries in order and their descriptors at NotRun and empty, position and passes done at 0, and
the header values of R74; nothing else changes. -/
def Obligations.ListsAreLoaded : Prop :=
  ∀ (list length passes flags : Byte) (slots : List Byte) (s : State), s.Ready → slots.length ≤ 1020 →
    (∀ id, s.mo.re.engaged id = true ↔
      (s.mo.re.state = .running ∨ s.mo.re.state = .draining) ∧ s.mo.re.active = some id ∨
      s.mo.re.state = .halted ∧ s.mo.re.haltedOn = some id ∨
      id = .main ∧ s.mo.re.suspended.isSome = true ∨ id = .priority ∧ s.mo.re.switchPending = true) ∧
    (1 < list.toNat → exec (.loadList list length passes flags slots) s =
      .next (s.answered (7 + slots.length) (.invalid 2 0))) ∧
    ∀ (id : ListId) (cap : Nat),
      list = (match id with
        | .main => 0
        | .priority => 1) →
      cap = (match id with
        | .main => 64
        | .priority => 16) →
      (cap < length.toNat ∨ slots.length ≠ length.toNat →
        exec (.loadList list length passes flags slots) s =
          .next (s.answered (7 + slots.length) (.invalid 3 0))) ∧
      (length.toNat ≤ cap → slots.length = length.toNat →
        (∀ (n : Nat) (b : Byte), slots[n]? = some b → 127 < b.toNat ∨ s.mo.re.slotAt b.toNat = none →
          (∀ j c, j < n → slots[j]? = some c → c.toNat ≤ 127 ∧ (s.mo.re.slotAt c.toNat).isSome = true) →
          exec (.loadList list length passes flags slots) s =
            .next (s.answered (7 + slots.length) (.invalid 6 n))) ∧
        ((∀ b ∈ slots, b.toNat ≤ 127 ∧ (s.mo.re.slotAt b.toNat).isSome = true) →
          (s.mo.re.engaged id = true → exec (.loadList list length passes flags slots) s =
            .next (s.answered (7 + slots.length) (.rejected .inUse))) ∧
          (s.mo.re.engaged id = false → ∀ l : RunList,
            l = { entries := slots.map fun b => { slot := b.toNat, desc := {
                    outcome := .notRun, start := 0, finish := 0, attempts := 0, altUsed := false,
                    blocking := none, endError := 0 } }
                  position := 0, passes := if id = .main then passes.toNat else 1, passesDone := 0
                  stopOnHazard := flags.getLsbD 0
                  homeOnLow := decide (id = .priority) && flags.getLsbD 1 } →
            exec (.loadList list length passes flags slots) s =
              .next (State.answered (7 + slots.length) (.done []) (s.withEngine (match id with
                | .main => { s.mo.re with main := l }
                | .priority => { s.mo.re with priority := l }))))))

/-- Every step keeps the lists and the run in form (R75, R84): each position within its length, each length
within its capacity, every entry naming a record, and a segment in progress at the position of the list that
runs; and every step keeps a grant that is SENT or ACTIVE with an owner, a segment in progress, of a RUNNING or
DRAINING engine, that waits for it, and a segment that waits for a grant, never in VET, with one that is SENT or
ACTIVE, so that its Done, Stalled or Stop moves it on (R84, R89, R90, R93, R94, R124). -/
def Obligations.ListsAndGrantsStaySound : Prop :=
  (∀ s t : State, s.mo.re.Sound → step s = .next t → t.mo.re.Sound) ∧
  ∀ s t : State, s.mo.GrantOwned → step s = .next t → t.mo.GrantOwned

/-! ## Running a route (chapter 5) -/

/-- START ROUTE (R50, R79, R86, R87, R91). It names a mode above 1; is refused with Halted, NotIdle, ListEmpty,
DriveOffline or NotLocalised, the first that holds; otherwise the engine is RUNNING on the Main List at the position
the mode sets, the suspension dropped, and makes its own moves from the beginning of that segment. With a Line there:
the descriptor InProgress from now, the record read, and the check of the first try asked for and sampling. Nothing
outside the Route Engine and the Clearance Unit changes but the slot and a guard's latch that stood, which is
released. That the moves are made within the command, and the check begins there, is the model's (assumptions 6 and
13). -/
def Obligations.StartRouteBeginsALine : Prop :=
  ∀ (mode : Byte) (s : State), s.Ready →
    (1 < mode.toNat → exec (.startRoute mode) s = .next (s.answered 4 (.invalid 2 0))) ∧
    (mode.toNat ≤ 1 →
      (s.mo.re.state = .halted → exec (.startRoute mode) s = .next (s.answered 4 (.rejected .halted))) ∧
      (s.mo.re.state = .running ∨ s.mo.re.state = .draining →
        exec (.startRoute mode) s = .next (s.answered 4 (.rejected .notIdle))) ∧
      (s.mo.re.state = .idle → s.mo.re.main.entries = [] →
        exec (.startRoute mode) s = .next (s.answered 4 (.rejected .listEmpty))) ∧
      (s.mo.re.state = .idle → s.mo.re.main.entries ≠ [] → s.mo.dp.link ≠ .online →
        exec (.startRoute mode) s = .next (s.answered 4 (.rejected .driveOffline))) ∧
      (s.mo.re.state = .idle → s.mo.re.main.entries ≠ [] → s.mo.dp.link = .online →
        s.tun.lostLimit ≤ s.mo.pu.u →
        exec (.startRoute mode) s = .next (s.answered 4 (.rejected .notLocalised))) ∧
      (s.mo.re.state = .idle → s.mo.re.main.entries ≠ [] → s.mo.dp.link = .online →
        s.mo.pu.u < s.tun.lostLimit → ∀ p : Nat,
        p = (if mode = 0 ∨ s.mo.re.suspended = none ∧ s.mo.re.main.position = s.mo.re.main.entries.length
          then 0 else s.mo.re.main.position) →
        exec (.startRoute mode) s = .next (State.answered 4 (.done []) (s.runs { s.mo with re := { s.mo.re with
          state := .running, active := some .main, sub := .segment, suspended := none, seg := none
          todo := .begin
          main := { s.mo.re.main with
            position := p
            passesDone := if mode = 0 then 0 else s.mo.re.main.passesDone } } })) ∧
        ∀ (e : Entry) (seg : Segment) (req : CheckReq), s.mo.re.switchPending = false → s.fm.fill = none →
          s.mo.cu.checks = [] → s.mo.re.main.entries[p]? = some e → s.mo.re.slotAt e.slot = some seg →
          seg.kind = .line →
          req = { owner := .engine, path := .target seg.targetX seg.targetY, column := .line,
                  allowUnknown := seg.allowUnknown, avoidRug := seg.avoidRug, speed := seg.speed } →
          ∃ t sr, exec (.startRoute mode) s = .next t ∧ t.pp.slot = some (.done []) ∧
            t.mo.re.state = .running ∧ t.mo.re.active = some .main ∧ t.mo.re.sub = .segment ∧
            t.mo.re.suspended = none ∧ t.mo.re.main.position = p ∧
            t.mo.re.main.passesDone = (if mode = 0 then 0 else s.mo.re.main.passesDone) ∧
            t.mo.re.main.entries = s.mo.re.main.entries.set p { e with desc := {
              outcome := .inProgress, start := s.mo.eu.time, finish := 0, attempts := 0, altUsed := false,
              blocking := none, endError := 0 } } ∧
            t.mo.re.poolIndex = some e.slot ∧ t.mo.re.attempt = 1 ∧ t.mo.re.progress.stage = 0 ∧
            t.mo.re.seg = some sr ∧ sr.seg = seg ∧ sr.phase = .vet ∧ sr.wait = .check ∧
            t.mo.re.todo = .none ∧ t.mo.re.priority = s.mo.re.priority ∧ t.mo.re.pool = s.mo.re.pool ∧
            t.mo.cu.checks = [{ req := req, run := some (beginCheck s.env s.mo req) }] ∧
            t = State.answered 4 (.done []) { s with mo := { s.mo with
              re := t.mo.re, cu := t.mo.cu
              hg := { s.mo.hg with
                state := if s.mo.hg.state = .tripped then .armed else s.mo.hg.state } } }))

/-- The engine's own moves (assumption 6) and how a segment and a try begin (R79, R87, R88, R91, R92, R97, R99,
R157). The moves are made one after another until none is left. FETCH with U at LostLimit or above halts with Lost;
otherwise it opens the descriptor, releases a latch that stands, and reads the record: an Empty slot, or a Dock
segment with no Dock Pose or no Dock cell in the map, is recorded Invalid, any other begins its first try. A try
begins at stage 0 with its counts at 0. A Line asks for the check to its primary target, or to the alternate once
the primary tries are used up; a Rotate within AlignTolerance has arrived, and else asks for its check with the turn
to make; a Reverse asks for its check along the reversed heading taken now; a Dock segment asks for the check to the
standoff point in APPROACH, and on the contacts enters DOCKED. That a segment to begin at a position that is not below
the list's length makes a pending switch, or else is the list's end, is the model's reading (assumption 11), and that a
Reverse takes its heading anew at each try is its choice between R68 and R97 (assumption 42). -/
def Obligations.SegmentsAndTriesBegin : Prop :=
  (∀ (s : State) (m : Motion), s.runs m = { s with mo := runEngine s.env 400 m }) ∧
  (∀ (env : Env) (n : Nat) (m : Motion), runEngine env 0 m = m ∧
    (m.re.todo = .none → runEngine env (n + 1) m = m) ∧
    (m.re.todo ≠ .none → runEngine env (n + 1) m = runEngine env n (engineMove env m))) ∧
  (∀ (env : Env) (m : Motion) (id : ListId) (l : RunList), m.re.todo = .begin → m.re.seg = none →
    m.re.active = some id → l = m.re.list id →
    (id = .main → m.re.switchPending = true → engineMove env m =
      switchList (decide (m.re.state = .draining)) .segment { m with re := { m.re with todo := .none } }) ∧
    (id = .priority ∨ m.re.switchPending = false →
      (l.entries.length ≤ l.position →
        engineMove env m = listEnd id false { m with re := { m.re with todo := .none } }) ∧
      (l.position < l.entries.length → env.tun.lostLimit ≤ m.pu.u → engineMove env m = haltEngine .lost m) ∧
      (∀ e : Entry, l.entries[l.position]? = some e → m.pu.u < env.tun.lostLimit →
        ∃ todo, engineMove env m = { m.released with re := { m.re.setList id { l with
              entries := l.entries.set l.position { e with desc := {
                outcome := .inProgress, start := m.eu.time, finish := 0, attempts := 0, altUsed := false,
                blocking := none, endError := 0 } } } with
            poolIndex := some e.slot, attempt := 1, sub := .segment
            progress := { stage := 0, retryInUse := false, altInUse := false, guardTrip := false,
                          unknownSeen := false }
            seg := some (SegRun.fresh e.slot (match m.re.slotAt e.slot with
              | some seg => seg
              | none => Segment.blank))
            todo := todo } } ∧
          (m.re.slotAt e.slot = none → todo = .record .invalid none) ∧
          ∀ seg, m.re.slotAt e.slot = some seg →
            (seg.kind = .dock → m.du.pose = none ∨ env.dockTotal = 0 → todo = .record .invalid none) ∧
            (seg.kind ≠ .dock ∨ m.du.pose ≠ none ∧ env.dockTotal ≠ 0 → todo = .startTry)))) ∧
  ∀ (env : Env) (m q : Motion) (sr0 sr : SegRun), m.re.todo = .startTry → m.re.seg = some sr0 →
    sr = { sr0 with outcome := none, cell := none, inBackoff := false, rotCorr := 0, fullDone := 0
                    wait := .nothing, ready := none, revHeading := (m.pu.theta + 32768) % 65536
                    distLeft := sr0.seg.reverseDist * 1000 } →
    q = { m with re := { m.re with todo := .none, seg := some sr
                                   progress := { m.re.progress with stage := 0 } } } →
    (∀ gx gy : Nat, sr.seg.kind = .line →
      (∀ p, sr.seg.alt = some p → sr.seg.retries + 1 < m.re.attempt → (gx, gy) = p) →
      (sr.seg.alt = none ∨ m.re.attempt ≤ sr.seg.retries + 1 →
        (gx, gy) = (sr.seg.targetX, sr.seg.targetY)) →
      engineMove env m = askCheck env (sr.request .line (.target gx gy) sr.seg.speed)
        (q.withSeg (sr.at .vet .check))) ∧
    (∀ (h : Nat) (turn : Int), sr.seg.kind = .rotate → sr.seg.heading = some h →
      turn = ((h : Int) - m.pu.theta + 32768) % 65536 - 32768 →
      (turn.natAbs ≤ env.tun.alignTolerance → engineMove env m = q.toArrive sr) ∧
      (env.tun.alignTolerance < turn.natAbs → engineMove env m =
        askCheck env (sr.request .rotate .spot sr.seg.speed)
          (q.withSeg ({ sr with rotWanted := h, rotTurn := turn }.at .rotate .check)))) ∧
    (sr.seg.kind = .reverse → engineMove env m = askCheck env
      (sr.request .reverse (.heading (.fixed sr.revHeading) (sr.distLeft + env.tun.stopMargin * 1000))
        sr.seg.speed) (q.withSeg (sr.at .reverse .check))) ∧
    ∀ du : DockUnit, sr.seg.kind = .dock →
      du = { m.du with seekTurn := 0, lossCount := 0, losses := 0, closeTravel := 0 } →
      (m.du.contact = true → engineMove env m = enterDocked env { q with du := du }) ∧
      (∀ d, m.du.contact = false → m.du.pose = some d → engineMove env m =
        askCheck env (sr.request .line (.target d.sx d.sy) sr.seg.speed)
          (Motion.withSeg (sr.at .vet .check) { q with du := { du with phase := .approach } }))

/-- RECORD (R80, R81, R98, R101, R105). The descriptor takes the outcome, the time, the tries begun, the alternate,
the blocking cell of a Blocked outcome and the end error; a Done or hazard outcome moves the position on; the last
outcome and, for Blocked, the last blocking cell follow, and SegmentDone for a record with Notify. The engine then
takes the first case that holds: a fault halts it; a tally of 255 that a recording needs halts it with TallyFull
(assumption 21); a hazard on a list with StopOnHazard, the switch that waits made with the stop kept (the Main List not
suspended then: assumption 22), ends the run; a pending switch is made, a drain kept with it, and at the end of the
Main List without the pass counted (the model's choice, assumption 44); a drain at AtSegment ends the run; the end of
the list; the next segment. -/
def Obligations.RecordingMovesOn : Prop :=
  (∀ o : SegOutcome, (o.cls = .done ↔ o = .arrived) ∧ (o.cls = .cancel ↔ o = .cancelled) ∧
    (o.cls = .fault ↔ o ∈ [.driveLost, .driveFault, .lost, .invalid, .guardInBackoff, .tallyFull]) ∧
    (o.cls = .hazard ↔
      o ∈ [.blocked, .cliffStop, .bumpStop, .stall, .short, .dockNotFound, .dockLost, .dockMissed])) ∧
  ∀ (env : Env) (m : Motion) (sr : SegRun) (id : ListId) (l : RunList) (e : Entry) (o : SegOutcome)
    (cell : Option CellIx), m.re.todo = .record o cell → o.cls ≠ .cancel → m.re.seg = some sr →
    m.re.active = some id → l = m.re.list id → l.entries[l.position]? = some e →
    ∃ (r : Motion) (err : Nat),
      r = { m with
        re := { m.re.setList id { l with
            position := if o.cls = .fault then l.position else l.position + 1
            entries := l.entries.set l.position { e with desc := { e.desc with
              outcome := .recorded o, finish := m.eu.time, attempts := m.re.attempt
              altUsed := decide (sr.seg.kind = .line ∧ sr.seg.alt.isSome = true ∧
                sr.seg.retries + 1 < m.re.attempt)
              blocking := if o = .blocked then cell else none
              endError := err } } } with
          lastOutcome := some o, seg := none, todo := .none
          lastBlocking := if o = .blocked then cell else m.re.lastBlocking }
        du := { m.du with phase := .none }
        eu := if sr.seg.notify then m.eu.raise .segmentDone else m.eu } ∧
      (sr.seg.kind = .rotate ∨ sr.seg.kind = .reverse → err = 0) ∧
      (∀ gx gy d2 : Nat,
        (sr.seg.kind = .line ∧ (gx, gy) = sr.goal m ∨
          sr.seg.kind = .dock ∧ ∃ d, m.du.pose = some d ∧ (gx, gy) = (d.x, d.y)) →
        (d2 : Int) = ((m.pu.x : Int) - gx) ^ 2 + ((m.pu.y : Int) - gy) ^ 2 → d2 < 2 ^ 64 →
        ∃ n : Nat, err = min 65535 n ∧ (n = 0 ∨ (1000 * n - 500) ^ 2 ≤ d2) ∧ d2 < (1000 * n + 500) ^ 2) ∧
      (o.cls = .fault → engineMove env m = haltEngine o r) ∧
      (m.re.tally = 255 → o.cls = .hazard ∨ o.cls = .done ∧ 1 < m.re.attempt →
        engineMove env m = haltEngine .tallyFull r) ∧
      (m.re.tally ≠ 255 ∨ o.cls = .done ∧ m.re.attempt ≤ 1 →
        (o.cls = .hazard → l.stopOnHazard = true →
          (id = .main → m.re.switchPending = true → engineMove env m = switchList true .segment
            (if l.entries.length ≤ l.position + 1 then countPass r else r)) ∧
          (id = .priority ∨ m.re.switchPending = false → engineMove env m = endRun id r)) ∧
        (o.cls = .done ∨ o.cls = .hazard ∧ l.stopOnHazard = false →
          (id = .main → m.re.switchPending = true →
            engineMove env m = switchList (decide (m.re.state = .draining)) .segment r) ∧
          (id = .priority ∨ m.re.switchPending = false →
            (m.re.state = .draining → m.re.drain = .atSegment → engineMove env m = endRun id r) ∧
            (m.re.state ≠ .draining ∨ m.re.drain = .atPass →
              (l.entries.length ≤ l.position + 1 →
                engineMove env m = listEnd id (decide (sr.seg.kind = .dock ∧ o = .arrived)) r) ∧
              (l.position + 1 < l.entries.length →
                engineMove env m = { r with re := { r.re with todo := .begin } })))))

/-- How lists, passes and runs end (R84, R105 to R108, R110, R111, R180). A halt and IDLE leave no list active and no
segment in progress, drop what was kept, and stop a Pass Timer in PASS; a halt raises RouteHalted. The end of a pass
of the Main List counts it; with no pass remaining, or draining, ListDone is raised and the engine is IDLE; else the
next pass begins at once, or after the Pass Timer, started in PASS. The end of the Priority List raises ListDone; a
kept stop, a drain or a Dock segment that arrived leaves the engine IDLE, and else the Main List resumes where it was
suspended, an expiry kept for it taken. That a switch which keeps a stop leaves the Main List not suspended is the
model's reading (assumption 22), and so are the values of a stopped timer (assumption 15) and the sub-state Segment of
an engine that is IDLE or HALTED (assumption 43). A drain or a StopOnHazard stop that ends at the end of a pass counts it; that
an AtPass drain raises ListDone there is the model's reading (assumption 33). -/
def Obligations.ListsEnd : Prop :=
  ∀ (m : Motion) (id : ListId) (docked : Bool) (l : RunList) (timer : TimerRun) (idle : RouteEngine) (next : Motion),
    l = { m.re.main with passesDone := min 255 (m.re.main.passesDone + 1) } →
    timer = (if m.eu.timer.state = .pass
      then { state := .stopped, count := 0, reloads := 0, tickBase := 100, reload := 1, ms := 0 }
      else m.eu.timer) →
    idle = { m.re with active := none, sub := .segment, switchPending := false, keptStop := false
                       keptExpiry := false, seg := none, todo := .none } →
    next = (if l.passes = 0 ∨ l.passesDone < l.passes
      then { m with re := { m.re with main := { l with position := 0 } } }
      else { m with re := { m.re with main := l }, eu := m.eu.raise .listDone }) →
    (∀ o, haltEngine o m = { m with
      re := { idle with state := .halted, haltedOn := m.re.active, haltCause := some o }
      eu := { m.eu with timer := timer }.raise .routeHalted }) ∧
    becomeIdle m = { m with re := { idle with state := .idle }, eu := { m.eu with timer := timer } } ∧
    runList id m = { m with re := { m.re with state := .running, active := some id, sub := .segment
                                              seg := none, todo := .begin } } ∧
    (∀ (kept : Bool) (sub : SubState), switchList kept sub m = { m with re := { m.re with
      state := .running, active := some .priority, sub := .segment, seg := none, todo := .begin
      suspended := if kept then none else some sub, keptStop := kept, switchPending := false } }) ∧
    countPass m = next ∧
    (m.re.state = .draining → listEnd .main docked m = becomeIdle (next.raise .listDone)) ∧
    (m.re.state ≠ .draining →
      (l.passes ≠ 0 → l.passes ≤ l.passesDone → listEnd .main docked m = becomeIdle next) ∧
      (l.passes = 0 ∨ l.passesDone < l.passes →
        (m.eu.settings.initial = 0 → listEnd .main docked m = runList .main next) ∧
        (m.eu.settings.initial ≠ 0 → listEnd .main docked m = { next with
          re := { next.re with sub := .passWait, seg := none, todo := .none }
          eu := { m.eu with timer := {
            state := .pass, count := m.eu.settings.initial, reloads := m.eu.settings.reloadCount
            tickBase := m.eu.settings.tickBase, reload := m.eu.settings.reload, ms := 0 } } }))) ∧
    (m.re.keptStop = true ∨ m.re.state = .draining ∨ docked = true ∨ m.re.suspended = none →
      listEnd .priority docked m = becomeIdle (m.raise .listDone)) ∧
    (m.re.keptStop = false → m.re.state ≠ .draining → docked = false →
      (m.re.suspended = some .segment → listEnd .priority docked m =
        runList .main { m with re := { m.re with suspended := none }, eu := m.eu.raise .listDone }) ∧
      (m.re.suspended = some .passWait → m.re.keptExpiry = true → listEnd .priority docked m =
        runList .main { m with re := { m.re with suspended := none, keptExpiry := false }
                               eu := m.eu.raise .listDone }) ∧
      (m.re.suspended = some .passWait → m.re.keptExpiry = false → listEnd .priority docked m =
        { m with re := { m.re with suspended := none, state := .running, active := some .main
                                   sub := .passWait, seg := none, todo := .none }
                 eu := m.eu.raise .listDone })) ∧
    ((m.re.list id).position < (m.re.list id).entries.length → endRun id m = becomeIdle m) ∧
    ((m.re.list id).entries.length ≤ (m.re.list id).position →
      (id = .priority → endRun id m = becomeIdle (m.raise .listDone)) ∧
      (id = .main → m.re.state = .draining → m.re.drain = .atPass →
        endRun id m = becomeIdle (next.raise .listDone)) ∧
      (id = .main → m.re.state ≠ .draining ∨ m.re.drain = .atSegment → endRun id m = becomeIdle next))

/-- How a try ends (R88, R98 to R101, R149). Arrived reaches stage 4 and is recorded; a fault is recorded. A hazard
outcome takes effect: the guard is released, also when the tally makes it TallyFull (the model's reading, assumption
25); with no try left, of the retries plus 1 at the primary target and as
many at a Line's alternate, the segment is recorded; with a try left and the tally at 255 it records TallyFull; and
else a retry begins: the tally rises, the retry mark is set and, with the first try there, the alternate's mark
(assumption 20), the dock phase is NONE, and the dwell is waited, one of 0 not at all. -/
def Obligations.TriesEnd : Prop :=
  ∀ (m : Motion) (sr : SegRun) (o : SegOutcome) (cell : Option CellIx) (tries : Nat), m.re.seg = some sr →
    tries = (if sr.seg.kind = .line ∧ sr.seg.alt.isSome = true then 2 * (sr.seg.retries + 1)
      else sr.seg.retries + 1) →
    (endTry .arrived none m = m.toArrive sr) ∧
    (o.cls = .fault → endTry o cell m = m.toRecord o cell sr) ∧
    (o.cls = .hazard → endTry o cell m = takeEffect o cell m) ∧
    (tries ≤ m.re.attempt → takeEffect o cell m = m.released.toRecord o cell sr) ∧
    (m.re.attempt < tries → m.re.tally = 255 →
      takeEffect o cell m = m.released.toRecord .tallyFull none sr) ∧
    (m.re.attempt < tries → m.re.tally ≠ 255 → takeEffect o cell m = { m.released with
      du := { m.du with phase := .none }
      re := { m.re with
        tally := min 255 (m.re.tally + 1)
        progress := { m.re.progress with
          retryInUse := true
          altInUse := m.re.progress.altInUse || decide (sr.seg.kind = .line ∧ sr.seg.alt.isSome = true ∧
            m.re.attempt = sr.seg.retries + 1) }
        seg := some { sr with phase := .dwell, wait := .nothing, outcome := none, cell := none
                              inBackoff := false, ready := none, dwellLeft := sr.seg.dwell }
        attempt := if sr.seg.dwell = 0 then m.re.attempt + 1 else m.re.attempt
        todo := if sr.seg.dwell = 0 then .startTry else m.re.todo } })

/-- SETTLE and BACKOFF (R57, R90, R98, R102, R154). A SETTLE whose grant record is NONE records a pending fault, and
takes the pending hazard into effect, at once or, for CliffStop, BumpStop and Stall with a BackoffDistance, after a
backoff: its Reverse-column check runs along the reversed heading for BackoffDistance and StopMargin, the dock phase
NONE. A backoff's check that leaves no more than MinPiece skips the backoff; any other sends a Reverse of the
smallest of BackoffDistance, what the check leaves, and PieceLength. A re-check's Stop of the backoff leaves the
try its outcome, taken into effect when the grant has settled. CHECK RESULT notes the beacon lines (assumption 10). -/
def Obligations.SettlesAndBackoffs : Prop :=
  (∀ (env : Env) (m : Motion) (sr : SegRun) (o : SegOutcome), m.re.seg = some sr → sr.outcome = some o →
    (o.cls = .fault → endSettle env sr m = m.toRecord o none sr) ∧
    (o.cls ≠ .fault → sr.inBackoff = true → endSettle env sr m = takeEffect o sr.cell m) ∧
    (sr.inBackoff = false → o = .cliffStop ∨ o = .bumpStop ∨ o = .stall → 0 < env.tun.backoffDistance →
      endSettle env sr m = askCheck env
        (sr.request .reverse (.heading .reversed ((env.tun.backoffDistance + env.tun.stopMargin) * 1000))
          sr.seg.speed)
        (Motion.withSeg (sr.at .backoff .check) { m with du := { m.du with phase := .none } })) ∧
    (o.cls ≠ .fault → sr.inBackoff = false →
      env.tun.backoffDistance = 0 ∨ (o ≠ .cliffStop ∧ o ≠ .bumpStop ∧ o ≠ .stall) →
      endSettle env sr m = takeEffect o sr.cell m)) ∧
  (∀ (b : Beacon) (s : State) (req : CheckReq) (sp : Sampling) (rest : List Check) (sr : SegRun)
    (o : SegOutcome) (q : Motion) (a : Int),
    s.mo.cu.checks = { req := req, run := some sp } :: rest → req.owner = .engine → sp.finished = true →
    s.mo.re.seg = some sr → sr.wait = .check → sr.phase = .backoff → sr.outcome = some o →
    q = Motion.handed sp rest sr (s.setBeacon b).mo → a = (sp.clear : Int) - (s.tun.stopMargin * 1000 : Nat) →
    (a ≤ (s.tun.minPiece * 1000 : Nat) →
      exec (.checkResult b) s = .next ((s.setBeacon b).runs (takeEffect o sr.cell q))) ∧
    ((s.tun.minPiece * 1000 : Nat) < a →
      exec (.checkResult b) s = .next ((s.setBeacon b).runs (issueGrant (pieceGrant .reverse
        (min ((s.tun.backoffDistance * 1000 : Nat) : Int) (min a ((s.tun.pieceLength * 1000 : Nat) : Int)))
        (sp.result req)) q)))) ∧
  ∀ (req : CheckReq) (sp : Sampling) (rest : List Check) (g k : Nat) (cell : BlockCell) (sr : SegRun) (s : State),
    s.mo.cu.checks = { req := req, run := some sp } :: rest → req.owner = .recheck g → sp.finished = true →
    s.mo.re.todo = .none → sp.blocked = some (k, cell) →
    (((k - 1) * 25000 : Nat) : Int) - (s.tun.stopMargin * 1000 : Nat) ≤ (s.tun.minPiece * 1000 : Nat) →
    s.mo.dp.grant.state = .sent ∨ s.mo.dp.grant.state = .active → s.mo.re.seg = some sr → sr.wait = .grant →
    sr.phase = .backoff →
    exec .recheckResult s = .next (s.withMotion (Motion.withSeg
      { sr with phase := .settle, wait := .nothing, inBackoff := true }
      (Motion.stopped .hazard { s.mo with cu := { s.mo.cu with checks := rest } })))

/-- STOP ROUTE (R108, R109). A mode above 2 is INVALID. In IDLE and HALTED it changes nothing. With a segment in
progress AtSegment and AtPass begin a drain, and a drain at AtSegment keeps its mode when AtPass is asked for. In
PassWait the engine becomes IDLE, with ListDone for AtPass alone. Now cancels: a SENT or ACTIVE grant is STOPPING, the
engine's check is withdrawn, the entry at the position reads Cancelled, and the engine is IDLE with the position left.
With a fault pending Now leaves the try in SETTLE, and the fault is recorded once the record is NONE; that the engine
is RUNNING meanwhile with no switch pending and no stop kept is the model's reading (assumption 32). -/
def Obligations.StopRouteDrainsOrCancels : Prop :=
  ∀ s : State, s.Ready →
    (∀ mode : Byte, 2 < mode.toNat → exec (.stopRoute mode) s = .next (s.answered 4 (.invalid 2 0))) ∧
    (∀ mode : Byte, mode ≤ 2 → s.mo.re.state = .idle ∨ s.mo.re.state = .halted →
      exec (.stopRoute mode) s = .next (s.answered 4 (.done []))) ∧
    (s.mo.re.todo = .none → s.mo.re.state = .running ∨ s.mo.re.state = .draining → s.mo.re.sub = .segment →
      exec (.stopRoute 0) s = .next (State.answered 4 (.done [])
        (s.withEngine { s.mo.re with state := .draining, drain := .atSegment })) ∧
      exec (.stopRoute 1) s = .next (State.answered 4 (.done [])
        (s.withEngine { s.mo.re with
          state := .draining, drain := if s.mo.re.state = .draining then s.mo.re.drain else .atPass }))) ∧
    (∀ mode : Byte, mode ≤ 2 → s.mo.re.state = .running ∨ s.mo.re.state = .draining →
      s.mo.re.sub = .passWait → s.mo.re.seg = none →
      exec (.stopRoute mode) s = .next (State.answered 4 (.done []) (s.withMotion (becomeIdle
        (if mode = 1 then s.mo.raise .listDone else s.mo))))) ∧
    (∀ (sr : SegRun) (q : Motion), s.mo.re.state = .running ∨ s.mo.re.state = .draining →
      s.mo.re.seg = some sr → sr.faulted = true →
      q = { s.mo with re := { s.mo.re with state := .running, switchPending := false, keptStop := false } } →
      (s.mo.dp.grant.state ≠ .none →
        exec (.stopRoute 2) s = .next (State.answered 4 (.done []) (s.runs q))) ∧
      (s.mo.dp.grant.state = .none →
        exec (.stopRoute 2) s = .next (State.answered 4 (.done []) (s.runs (endSettle s.env sr q))))) ∧
    (∀ (sr : SegRun) (id : ListId) (e : Entry), s.mo.re.state = .running ∨ s.mo.re.state = .draining →
      s.mo.re.sub = .segment → s.mo.re.seg = some sr → sr.faulted = false → s.mo.re.active = some id →
      (s.mo.re.list id).entries[(s.mo.re.list id).position]? = some e →
      ∃ t d, exec (.stopRoute 2) s = .next t ∧ t.mo.re.state = .idle ∧ t.mo.re.active = none ∧
        t.mo.re.seg = none ∧ t.mo.re.lastOutcome = some .cancelled ∧
        (t.mo.re.list id).position = (s.mo.re.list id).position ∧
        (t.mo.re.list id).entries = (s.mo.re.list id).entries.set (s.mo.re.list id).position
          { e with desc := d } ∧
        d.outcome = .recorded .cancelled ∧ d.finish = s.mo.eu.time ∧ d.start = e.desc.start ∧
        d.attempts = s.mo.re.attempt ∧ d.blocking = none ∧
        t.mo.dp.grant.state =
          (if s.mo.dp.grant.state = .sent ∨ s.mo.dp.grant.state = .active then .stopping
           else s.mo.dp.grant.state) ∧
        (s.mo.dp.grant.state = .sent ∨ s.mo.dp.grant.state = .active → s.mo.dp.txNow = none →
          t.mo.dp.txNow = some (.stop s.mo.dp.grant.id .cancel)) ∧
        (∀ k ∈ t.mo.cu.checks, k.req.owner ≠ .engine) ∧ t.mo.pu = s.mo.pu ∧ t.fm = s.fm)

/-- POST PRIORITY (R110) names an urgency above 1; is refused with ListEmpty, Halted or PriorityActive, the first that
holds; and otherwise sets the position to 0 and posts: in IDLE the Priority List runs; in PassWait the engine switches
to it, a Main List that drains not suspended (assumption 22); a segment in progress leaves the switch pending, or,
Urgent, is cancelled first and the switch made, and with a fault pending acts as STOP ROUTE Now with the switch pending,
the engine RUNNING meanwhile as the model reads it (assumption 32). ACKNOWLEDGE of a halt, but for one of cause Lost with
U still at LostLimit, makes the engine IDLE with the tally at 0 and no halt cause; with no halt it changes nothing
(R113). -/
def Obligations.PostingsAndAcknowledgements : Prop :=
  ∀ s : State, s.Ready →
    (∀ urgent : Byte, 1 < urgent.toNat → exec (.postPriority urgent) s = .next (s.answered 4 (.invalid 2 0))) ∧
    (∀ urgent : Byte, urgent.toNat ≤ 1 →
      (s.mo.re.priority.entries = [] →
        exec (.postPriority urgent) s = .next (s.answered 4 (.rejected .listEmpty))) ∧
      (s.mo.re.priority.entries ≠ [] → s.mo.re.state = .halted →
        exec (.postPriority urgent) s = .next (s.answered 4 (.rejected .halted))) ∧
      (s.mo.re.priority.entries ≠ [] → s.mo.re.state ≠ .halted →
        (s.mo.re.state = .running ∨ s.mo.re.state = .draining) ∧ s.mo.re.active = some .priority ∨
          s.mo.re.switchPending = true →
        exec (.postPriority urgent) s = .next (s.answered 4 (.rejected .priorityActive))) ∧
      (∀ m : Motion, s.mo.re.priority.entries ≠ [] → s.mo.re.switchPending = false →
        m = { s.mo with re := { s.mo.re with priority := { s.mo.re.priority with position := 0 } } } →
        (s.mo.re.state = .idle → s.mo.re.seg = none →
          exec (.postPriority urgent) s =
            .next (State.answered 4 (.done []) (s.runs (runList .priority m)))) ∧
        (s.mo.re.state = .running ∨ s.mo.re.state = .draining → s.mo.re.active = some .main →
          (s.mo.re.sub = .passWait → s.mo.re.seg = none →
            exec (.postPriority urgent) s = .next (State.answered 4 (.done []) (s.runs
              (switchList (decide (s.mo.re.state = .draining)) .passWait m)))) ∧
          (s.mo.re.sub = .segment →
            (urgent = 0 ∨ s.mo.re.seg = none → exec (.postPriority urgent) s =
              .next (State.answered 4 (.done []) (s.runs { m with re := { m.re with
                switchPending := true } }))) ∧
            ∀ sr, urgent = 1 → s.mo.re.seg = some sr →
              (sr.faulted = false → exec (.postPriority urgent) s = .next (State.answered 4 (.done [])
                (s.runs (switchList (decide (s.mo.re.state = .draining)) .segment (cancelSegment m))))) ∧
              (sr.faulted = true → ∀ q : Motion,
                q = { s.mo with re := { s.mo.re with state := .running, keptStop := false } } →
                exec (.postPriority urgent) s = .next (State.answered 4 (.done []) (s.runs
                  (if s.mo.dp.grant.state = .none then
                    { endSettle s.env sr q with re := { (endSettle s.env sr q).re with
                        switchPending := true
                        priority := { s.mo.re.priority with position := 0 } } }
                   else { q with re := { q.re with
                            switchPending := true
                            priority := { s.mo.re.priority with position := 0 } } })))))))) ∧
    (s.mo.re.state ≠ .halted → exec .acknowledge s = .next (s.answered 3 (.done []))) ∧
    (s.mo.re.state = .halted → (s.mo.re.haltCause = some .lost → s.mo.pu.u < s.tun.lostLimit) →
      exec .acknowledge s = .next (State.answered 3 (.done []) (s.withEngine { s.mo.re with
        state := .idle, haltedOn := none, tally := 0, haltCause := none }))) ∧
    (s.mo.re.state = .halted → s.mo.re.haltCause = some .lost → s.tun.lostLimit ≤ s.mo.pu.u →
      exec .acknowledge s = .next (s.answered 3 (.rejected .notLocalised)))

/-! ## Checks and grants (chapters 3, 5 and 6) -/

/-- How a check is asked for and begins (R50 to R52, R59, R61, R64). A check asked for with none held and no fill
or WRITE CELLS in the way begins sampling at once, any other waits behind those held; one not kept waiting never
needs CHECK BEGIN (assumption 13). CHECK BEGIN with no fill in the way begins the check held in WAITING at the front
from the pose as it stands, with its radii, floor and speeds taken: along its target or its heading, fixed, facing
θ, or reversed; a re-check with its corridor record's direction, radii and floor, over the amount still to be done.
Nothing else changes; with no check waiting at the front, or a fill running, nothing does (assumption 5). -/
def Obligations.CheckBeginTakesItsValues : Prop :=
  (∀ (env : Env) (req : CheckReq) (m : Motion),
    (m.cu.checks = [] → env.mapBusy = false → askCheck env req m =
      beginWaiting env { m with cu := { m.cu with checks := [{ req := req, run := none }] } }) ∧
    (m.cu.checks ≠ [] ∨ env.mapBusy = true → askCheck env req m =
      { m with cu := { m.cu with checks := m.cu.checks ++ [{ req := req, run := none }] } })) ∧
  ∀ s : State,
    exec .checkBegin s = .next (s.withMotion (beginWaiting s.env s.mo)) ∧
    (∀ (req : CheckReq) (rest : List Check), s.mo.cu.checks = { req := req, run := none } :: rest →
      s.fm.fill = none →
      (req.owner = .engine →
        ∃ sp, exec .checkBegin s = .next { s with mo := { s.mo with cu := { s.mo.cu with
            checks := { req := req, run := some sp } :: rest } } } ∧
          sp.sx = s.mo.pu.x ∧ sp.sy = s.mo.pu.y ∧ sp.next = 0 ∧ sp.overlap = [] ∧ sp.cap = req.speed ∧
          sp.unknownSeen = false ∧ sp.blocked = none ∧
          sp.rh = s.cs.working.robotRadius + (s.mo.pu.u + 999) / 1000 ∧ sp.rm = sp.rh + s.tun.margin ∧
          sp.rc = sp.rh + s.tun.cliffBand ∧ sp.body = s.cs.working.robotRadius ∧
          sp.outer = (if req.column = .rotate then s.cs.working.robotRadius else sp.rc + s.tun.margin) ∧
          sp.obstacleFloor = s.tun.obstacleFloor ∧ sp.rugSpeed = s.tun.rugSpeed ∧
          sp.unknownSpeed = s.tun.unknownSpeed ∧ sp.nearSpeed = s.tun.nearSpeed ∧
          sp.cliffSpeed = s.tun.cliffSpeed ∧
          (∀ x y, req.path = .target x y → sp.ex = x ∧ sp.ey = y ∧ sp.dirX = x - s.mo.pu.x ∧
            sp.dirY = y - s.mo.pu.y ∧ sp.len = distance s.mo.pu.x s.mo.pu.y x y ∧ sp.divisor = sp.len) ∧
          (∀ h len theta, req.path = .heading h len →
            theta = (match h with
              | .fixed h => h
              | .facing => s.mo.pu.theta
              | .reversed => (s.mo.pu.theta + 32768) % 65536) →
            (sp.ex, sp.ey) = pointAlong s.mo.pu.x s.mo.pu.y theta len ∧ sp.len = len ∧
            sp.dirX = cosT theta ∧ sp.dirY = sinV theta ∧ sp.divisor = 16384) ∧
          (req.path = .spot → sp.ex = sp.sx ∧ sp.ey = sp.sy ∧ sp.len = 0)) ∧
      (∀ (g : Nat) (c : Corridor), req.owner = .recheck g → s.mo.cu.corridor = some c →
        ∃ sp, exec .checkBegin s = .next { s with mo := { s.mo with cu := { s.mo.cu with
            checks := { req := req, run := some sp } :: rest } } } ∧
          sp.sx = s.mo.pu.x ∧ sp.sy = s.mo.pu.y ∧ sp.next = 0 ∧ sp.overlap = [] ∧ sp.unknownSeen = false ∧
          sp.blocked = none ∧ sp.rh = c.rh ∧ sp.rm = c.rm ∧ sp.rc = c.rc ∧
          sp.outer = c.rc + (c.rm - c.rh) ∧ sp.obstacleFloor = c.obstacleFloor ∧
          sp.doneAtStart = s.mo.re.amountDone ∧ sp.dirX = c.dirX ∧ sp.dirY = c.dirY ∧ sp.divisor = c.divisor ∧
          sp.len = (c.amount - s.mo.re.amountDone).toNat ∧
          sp.ex = s.mo.pu.x + rhaz (c.dirX * sp.len) c.divisor ∧
          sp.ey = s.mo.pu.y + rhaz (c.dirY * sp.len) c.divisor)) ∧
    ((∀ req rest, s.mo.cu.checks ≠ { req := req, run := none } :: rest) ∨ s.fm.fill.isSome = true →
      exec .checkBegin s = .next s)

/-- CHECK SAMPLE examines one sample whole (R52 to R56, R58), by the blocking table: Cliff blocks within its radius
and a Rotate check within the body's; Obstacle of the floor's confidence or more and KeepOut block in every other
column, Dock, Unknown unless it is allowed and Rug where it is avoided in the Line column alone. The sample is
blocked exactly when a cell, in the map or outside it, lies within its blocking radius of the sample's point, and,
but for a Rotate check, the sample is not P_0 and the cell is no start-overlap cell or lies nearer than it did from
S; the start-overlap cells are those that block at P_0. The blocking cell is the nearest, of equals the one of
lower row and then lower column. The cap is the lowest of the speeds whose disc is met, unknown-seen follows, and a
Rotate check works neither out. The check then goes on by one sample, and nothing else changes. -/
def Obligations.CheckSampleBlocksByTheTable : Prop :=
  (∀ (column : Column) (unknown rug : Bool) (floor rh rc body conf : Nat) (cls : CellClass),
    blockRadius column unknown rug floor rh rc body cls conf =
      if column = .rotate then (if cls = .cliff then some body else none)
      else if cls = .cliff then some rc
      else if cls = .keepOut ∨ cls = .obstacle ∧ floor ≤ conf ∨ column = .line ∧
        (cls = .dock ∨ cls = .unknown ∧ unknown = false ∨ cls = .rug ∧ rug = true) then some rh
      else none) ∧
  ∀ (req : CheckReq) (sp : Sampling) (rest : List Check) (s : State) (p : Int × Int),
    s.mo.cu.checks = { req := req, run := some sp } :: rest → sp.finished = false → p = sp.point sp.next →
    (req.column = .rotate → sp.body ≤ sp.outer) →
    (req.column ≠ .rotate → sp.rh ≤ sp.outer ∧ sp.rc ≤ sp.outer ∧ sp.rm ≤ sp.outer) →
    ∃ sq, exec .checkSample s = .next { s with mo := { s.mo with cu := { s.mo.cu with
        checks := { req := req, run := some sq } :: rest } } } ∧
      sq = { sp with next := sp.next + 1, overlap := sq.overlap, cap := sq.cap
                     unknownSeen := sq.unknownSeen, blocked := sq.blocked } ∧
      (sq.blocked.isSome = true ↔ (req.column = .rotate ∨ sp.next ≠ 0) ∧
        ∃ c : Int × Int, sp.Blocks req s.fm p c ∧
          (req.column = .rotate ∨ c ∉ sp.overlap ∨ cellDist2 p.1 p.2 c < cellDist2 sp.sx sp.sy c)) ∧
      (∀ b cell, sq.blocked = some (b, cell) → b = sp.next ∧ cell.cls = (s.fm.seen (cell.cx, cell.cy)).1 ∧
        sp.Blocks req s.fm p (cell.cx, cell.cy) ∧
        ∀ c : Int × Int, sp.Blocks req s.fm p c →
          (req.column = .rotate ∨ c ∉ sp.overlap ∨ cellDist2 p.1 p.2 c < cellDist2 sp.sx sp.sy c) →
          cellDist2 p.1 p.2 (cell.cx, cell.cy) < cellDist2 p.1 p.2 c ∨
          cellDist2 p.1 p.2 (cell.cx, cell.cy) = cellDist2 p.1 p.2 c ∧
            (cell.cy < c.2 ∨ cell.cy = c.2 ∧ cell.cx ≤ c.1)) ∧
      (sp.next ≠ 0 ∨ req.column = .rotate → sq.overlap = sp.overlap) ∧
      (sp.next = 0 → req.column ≠ .rotate → ∀ c, c ∈ sq.overlap ↔ sp.Blocks req s.fm p c) ∧
      (req.column = .rotate → sq.cap = sp.cap ∧ sq.unknownSeen = sp.unknownSeen) ∧
      (req.column ≠ .rotate →
        (∀ v, v ≤ sq.cap ↔ v ≤ sp.cap ∧ (s.fm.Near p sp.rh .rug → v ≤ sp.rugSpeed) ∧
          (s.fm.Near p sp.rh .unknown → v ≤ sp.unknownSpeed) ∧
          (s.fm.Near p sp.rm .obstacle ∨ s.fm.Near p sp.rm .keepOut → v ≤ sp.nearSpeed) ∧
          (s.fm.Near p sp.outer .cliff → v ≤ sp.cliffSpeed)) ∧
        (sq.unknownSeen = true ↔ sp.unknownSeen = true ∨ s.fm.Near p sp.rh .unknown))

/-- CHECK RESULT (R57, R65, R88, R89, R91 to R93, R97, R121). The ended check leaves the unit and its result goes to
the segment, whose stage is at least 1. A blocked Rotate check ends the try Blocked and an unblocked one sends its
turn. A VET blocked within MinPiece ends the try Blocked; else the loop goes on with the result. A TRAVEL of a
blocked corridor sends what it leaves, up to PieceLength, or ends Blocked; of a clear one it has reached its goal,
ends Short, or sends a piece, which is full when nothing but the clear distance bounds it (assumption 9). A Reverse
sends the smallest of the distance left, what the check leaves and PieceLength, or ends Blocked; that D limits it
only when it is the smallest alone is the model's choice (assumption 36). A Rotate sent leaves the record SENT and
the segment waiting; its turn was stored before the check (assumption 18). With no ended check of the engine at the
front the command only notes the beacon lines (assumptions 5 and 10). -/
def Obligations.CheckResultsAreJudged : Prop :=
  ∀ (b : Beacon) (s u : State), u = s.setBeacon b →
    (∀ (req : CheckReq) (sp : Sampling) (rest : List Check) (sr sq : SegRun) (q : Motion) (res : CheckResult)
        (a piece small : Int),
      s.mo.cu.checks = { req := req, run := some sp } :: rest → req.owner = .engine → sp.finished = true →
      s.mo.re.seg = some sr → sr.wait = .check → sq = { sr with wait := .nothing } →
      q = Motion.handed sp rest sr u.mo → res = sp.result req →
      a = (sp.clear : Int) - (s.tun.stopMargin * 1000 : Nat) → piece = (s.tun.pieceLength * 1000 : Nat) →
      small = (s.tun.minPiece * 1000 : Nat) →
      (∀ kind n, pieceGrant kind n res = { kind := kind, amount := n, cap := sp.cap, corridor := some {
        grant := 0, column := req.column, allowUnknown := req.allowUnknown, avoidRug := req.avoidRug
        dirX := sp.dirX, dirY := sp.dirY, divisor := sp.divisor, rh := sp.rh, rm := sp.rm, rc := sp.rc
        obstacleFloor := sp.obstacleFloor, amount := n } }) ∧
      (sr.phase = .rotate ∨ sr.phase = .align ∨ sr.phase = .turn →
        (∀ k cell, sp.blocked = some (k, cell) → exec (.checkResult b) s =
          .next (u.runs (takeEffect .blocked
            (some { cx := min 255 cell.cx.toNat, cy := min 255 cell.cy.toNat }) q))) ∧
        (sp.blocked = none → exec (.checkResult b) s = .next (u.runs (issueGrant
          { kind := .rotate, amount := sr.rotTurn, cap := sp.cap, corridor := none } q)))) ∧
      (sr.phase = .vet →
        (∀ k cell, sp.blocked = some (k, cell) → min a piece ≤ small →
          exec (.checkResult b) s = .next (u.runs (takeEffect .blocked (some cell.held) q))) ∧
        (sp.blocked = none ∨ small < min a piece →
          exec (.checkResult b) s = .next (u.runs (travelLoop s.env (some res) sr q)))) ∧
      (sr.phase = .travel →
        (∀ k cell, sp.blocked = some (k, cell) →
          (min a piece ≤ small →
            exec (.checkResult b) s = .next (u.runs (takeEffect .blocked (some cell.held) q))) ∧
          (small < min a piece → exec (.checkResult b) s = .next (u.runs (issueGrant
            (pieceGrant .travel (min a piece) res) (q.withSeg { sq with pieceFull := false }))))) ∧
        (sp.blocked = none →
          (sp.clear ≤ (s.tun.stopMargin + s.tun.arriveTolerance) * 1000 →
            exec (.checkResult b) s = .next (u.runs (travelReached s.env sr q))) ∧
          ((s.tun.stopMargin + s.tun.arriveTolerance) * 1000 < sp.clear →
            (min a piece ≤ small ∨ a ≤ piece ∧ 3 ≤ sr.fullDone →
              exec (.checkResult b) s = .next (u.runs (takeEffect .short none q))) ∧
            (small < a → a ≤ piece → sr.fullDone < 3 → exec (.checkResult b) s = .next (u.runs (issueGrant
              (pieceGrant .travel a res) (q.withSeg { sq with pieceFull := true })))) ∧
            (small < piece → piece < a → exec (.checkResult b) s = .next (u.runs (issueGrant
              (pieceGrant .travel piece res) (q.withSeg { sq with pieceFull := false }))))))) ∧
      (∀ n : Int, sr.phase = .reverse → n = min (sr.distLeft : Int) (min a piece) →
        (n ≤ small → exec (.checkResult b) s =
          .next (u.runs (takeEffect .blocked (sp.blocked.map fun k => k.2.held) q))) ∧
        (small < n → exec (.checkResult b) s = .next (u.runs (issueGrant (pieceGrant .reverse n res)
          (q.withSeg { sq with pieceLimited := decide (a < min (sr.distLeft : Int) piece)
                               pieceCell := sp.blocked.map fun k => k.2.held }))))) ∧
      (sp.blocked = none → sr.phase = .rotate ∨ sr.phase = .align ∨ sr.phase = .turn → s.mo.re.todo = .none →
        s.mo.dp.link = .online → s.mo.dp.grant.state = .none →
        ∃ t, exec (.checkResult b) s = .next t ∧ s.mo.Sent t.mo .rotate sr.rotTurn sp.cap ∧
          t.mo.re.seg = some { sr with wait := .grant, pieceCut := false, ready := none } ∧
          t.mo.cu = { checks := rest, corridor := none } ∧
          t.mo.re.progress = { s.mo.re.progress with
            stage := max 1 s.mo.re.progress.stage
            unknownSeen := s.mo.re.progress.unknownSeen || sp.unknownSeen } ∧
          t = { s with mo := { s.mo with cu := t.mo.cu, re := t.mo.re, dp := t.mo.dp
                                         du := { s.mo.du with beacon := b } } })) ∧
    ((∀ (req : CheckReq) (sp : Sampling) (rest : List Check),
        s.mo.cu.checks = { req := req, run := some sp } :: rest → sp.finished = true → req.owner ≠ .engine) →
      exec (.checkResult b) s = .next u)

/-- No grant reaches past what its check found clear (R62, R65, R89, R93, R97): a Travel, Reverse or Creep
that a CHECK RESULT sends has an amount that leaves StopMargin within the check's clear distance and is no more
than PieceLength, the check's speed cap, the link ONLINE, and its corridor record beside it. -/
def Obligations.GrantsFitTheClearCorridor : Prop :=
  ∀ (b : Beacon) (s t : State), s.mo.dp.grant.state = .none → s.mo.re.todo = .none →
    exec (.checkResult b) s = .next t → t.mo.dp.grant.state = .sent → t.mo.dp.grant.kind ≠ .rotate →
    s.mo.dp.link = .online ∧
    ∃ req sp rest c, s.mo.cu.checks = { req := req, run := some sp } :: rest ∧ sp.finished = true ∧
      t.mo.dp.grant.amount + (s.tun.stopMargin * 1000 : Nat) ≤ (sp.clear : Int) ∧
      t.mo.dp.grant.amount ≤ (s.tun.pieceLength * 1000 : Nat) ∧ t.mo.dp.grant.cap = sp.cap ∧
      t.mo.cu.corridor = some c ∧ c.grant = t.mo.dp.grant.id ∧ c.amount = t.mo.dp.grant.amount ∧
      c.column = req.column ∧ c.dirX = sp.dirX ∧ c.dirY = sp.dirY ∧ c.divisor = sp.divisor ∧ c.rh = sp.rh ∧
      c.rc = sp.rc

/-- How a piece is judged complete, and where the loop goes (R91 to R97, R102, R157). The loop: within
ArriveTolerance of the goal TRAVEL is reached; a bearing out of AlignTolerance asks for a Rotate's check; else a
check to the goal is asked for, or the one of VET judged as a TRAVEL's own is, its piece sent in TRAVEL (that r is the
clear distance then: assumption 9). TRAVEL reached with an end heading, a Line's own or θd, within
AlignTolerance has arrived, a Dock segment going on to SEEK, and else asks for the turn's check. A Rotate's Done
within AlignTolerance ends it; else a correction is asked for, and after two the try ends Short. A Travel's Done
counts a full piece that was not cut; a Reverse's that D limited or a Trim cut ends Blocked, with no distance left
arrives, and else asks for the next; a SEEK step's is judged by the beacon lines as last noted (assumption 10), on a
Centre pattern beginning CLOSE and else the next step or DockNotFound; a backoff's takes the try's outcome into effect.
(CLOSE: SeekAndCloseFollowTheBeam; MATE: MateAndDocked.) The turn and the wanted heading a Rotate keeps from its
beginning are the model's reading (assumption 18). -/
def Obligations.PiecesAreJudged : Prop :=
  ∀ (env : Env) (m : Motion) (sr sq : SegRun) (turn : Int) (rotate : CheckReq),
    rotate = sr.request .rotate .spot sr.seg.speed →
    (m.re.seg = some sq →
      (∀ (gx gy : Nat) (vet : Option CheckResult), (gx, gy) = sr.goal m →
        turn = ((bearing ((gx : Int) - m.pu.x) ((gy : Int) - m.pu.y) : Int) - m.pu.theta + 32768) % 65536 -
          32768 →
        (distance m.pu.x m.pu.y gx gy ≤ env.tun.arriveTolerance * 1000 →
          travelLoop env vet sr m = travelReached env sr m) ∧
        (env.tun.arriveTolerance * 1000 < distance m.pu.x m.pu.y gx gy →
          (env.tun.alignTolerance < turn.natAbs → travelLoop env vet sr m = askCheck env rotate
            (m.withSeg ({ sq with rotWanted := bearing ((gx : Int) - m.pu.x) ((gy : Int) - m.pu.y)
                                  rotTurn := turn, rotCorr := 0 }.at .align .check))) ∧
          (turn.natAbs ≤ env.tun.alignTolerance →
            travelLoop env none sr m = askCheck env (sr.request .line (.target gx gy) sr.seg.speed)
              (m.withSeg (sq.at .travel .check)) ∧
            ∀ (res : CheckResult) (a piece small : Int), a = (res.d : Int) - (env.tun.stopMargin * 1000 : Nat) →
              piece = (env.tun.pieceLength * 1000 : Nat) → small = (env.tun.minPiece * 1000 : Nat) →
              (res.blocked.isSome = true →
                (min a piece ≤ small → travelLoop env (some res) sr m = takeEffect .blocked res.cell m) ∧
                (small < min a piece → travelLoop env (some res) sr m =
                  issueGrant (pieceGrant .travel (min a piece) res)
                    (m.withSeg { sq with phase := .travel, pieceFull := false }))) ∧
              (res.blocked = none →
                (res.d ≤ (env.tun.stopMargin + env.tun.arriveTolerance) * 1000 →
                  travelLoop env (some res) sr m = travelReached env sr m) ∧
                ((env.tun.stopMargin + env.tun.arriveTolerance) * 1000 < res.d →
                  (min a piece ≤ small ∨ a ≤ piece ∧ 3 ≤ sr.fullDone →
                    travelLoop env (some res) sr m = takeEffect .short none m) ∧
                  (small < a → a ≤ piece → sr.fullDone < 3 → travelLoop env (some res) sr m =
                    issueGrant (pieceGrant .travel a res)
                      (m.withSeg { sq with phase := .travel, pieceFull := true })) ∧
                  (small < piece → piece < a → travelLoop env (some res) sr m =
                    issueGrant (pieceGrant .travel piece res)
                      (m.withSeg { sq with phase := .travel, pieceFull := false }))))))) ∧
      (sr.seg.kind = .line → sr.seg.heading = none → travelReached env sr m = m.toArrive sq) ∧
      (∀ h : Nat, (sr.seg.kind = .line ∧ sr.seg.heading = some h ∨
          sr.seg.kind = .dock ∧ ∃ d, m.du.pose = some d ∧ h = d.theta) →
        turn = ((h : Int) - m.pu.theta + 32768) % 65536 - 32768 →
        (turn.natAbs ≤ env.tun.alignTolerance → travelReached env sr m =
          if sr.seg.kind = .dock then judgeSeek env sr m else m.toArrive sq) ∧
        (env.tun.alignTolerance < turn.natAbs → travelReached env sr m = askCheck env rotate
          (m.withSeg ({ sq with rotWanted := h, rotTurn := turn, rotCorr := 0 }.at .turn .check))))) ∧
    (m.re.seg = some sr → sr.wait = .grant → sq = { sr with wait := .nothing } →
      (sr.phase = .align ∨ sr.phase = .turn ∨ sr.phase = .rotate →
        turn = ((sr.rotWanted : Int) - m.pu.theta + 32768) % 65536 - 32768 →
        (turn.natAbs ≤ env.tun.alignTolerance → pieceDone env m =
          if sr.phase = .align then travelLoop env none sr (m.withSeg sq)
          else if sr.seg.kind = .dock then judgeSeek env sr (m.withSeg sq)
          else (m.withSeg sq).toArrive sq) ∧
        (env.tun.alignTolerance < turn.natAbs → 2 ≤ sr.rotCorr →
          pieceDone env m = takeEffect .short none (m.withSeg sq)) ∧
        (env.tun.alignTolerance < turn.natAbs → sr.rotCorr < 2 → pieceDone env m = askCheck env rotate
          (m.withSeg { sr with wait := .check, rotTurn := turn, rotCorr := sr.rotCorr + 1 }))) ∧
      (∀ n, sr.phase = .travel →
        n = (if sr.pieceFull = true ∧ sr.pieceCut = false then sr.fullDone + 1 else sr.fullDone) →
        pieceDone env m = travelLoop env none { sr with fullDone := n }
          (m.withSeg { sq with fullDone := n })) ∧
      (∀ left, sr.phase = .reverse → left = sr.distLeft - m.dp.grant.amount.toNat →
        (sr.pieceLimited = true ∨ sr.pieceCut = true →
          pieceDone env m = takeEffect .blocked sr.pieceCell (m.withSeg sq)) ∧
        (sr.pieceLimited = false → sr.pieceCut = false →
          (left = 0 → pieceDone env m = (m.withSeg sq).toArrive sq) ∧
          (left ≠ 0 → pieceDone env m = askCheck env
            (sr.request .reverse (.heading (.fixed sr.revHeading) (left + env.tun.stopMargin * 1000))
              sr.seg.speed) (m.withSeg { sr with wait := .check, distLeft := left })))) ∧
      (∀ n : Motion, sr.phase = .seek → n = m.withSeg sq →
        (m.du.beacon.centre = true → pieceDone env m = beginClose env sr n) ∧
        (m.du.beacon.centre = false → m.du.seekTurn < 65536 → pieceDone env m = askCheck env rotate
          (Motion.withSeg { sr with wait := .check } { n with du := { m.du with phase := .seek } })) ∧
        (m.du.beacon.centre = false → 65536 ≤ m.du.seekTurn → pieceDone env m =
          takeEffect .dockNotFound none { n with du := { m.du with phase := .seek } })) ∧
      (∀ o, sr.phase = .backoff → sr.outcome = some o →
        pieceDone env m = takeEffect o sr.cell (m.withSeg sq)))

/-- RECHECK RESULT (R62, R65, R120, R122, R123). A re-check with no blocked sample leaves the unit and the grant runs
on. A blocked one leaves more than MinPiece of its new allowance and trims the grant to what was done at its
start and the allowance; or it leaves no more, and the grant is stopped with reason Hazard, its waiting Trims
removed, and the segment waits in SETTLE to end Blocked at the re-check's cell (under a backoff: SettlesAndBackoffs).
The Trim or the Stop is sent at once by an idle transmitter and waits last behind a busy one. With no ended re-check at
the front nothing changes (assumption 5). -/
def Obligations.RecheckTrimsOrStops : Prop :=
  (∀ s : State, (∀ (req : CheckReq) (sp : Sampling) (rest : List Check),
      s.mo.cu.checks = { req := req, run := some sp } :: rest → sp.finished = true → req.owner = .engine) →
    exec .recheckResult s = .next s) ∧
  ∀ (req : CheckReq) (sp : Sampling) (rest : List Check) (g : Nat) (s : State),
    s.mo.cu.checks = { req := req, run := some sp } :: rest → req.owner = .recheck g → sp.finished = true →
    s.mo.re.todo = .none →
    (sp.blocked = none → exec .recheckResult s =
      .next { s with mo := { s.mo with cu := { s.mo.cu with checks := rest } } }) ∧
    (∀ (k : Nat) (cell : BlockCell) (sr : SegRun) (a : Int), sp.blocked = some (k, cell) →
      a = ((k - 1) * 25000 : Nat) - (s.tun.stopMargin * 1000 : Nat) →
      s.mo.dp.grant.state = .sent ∨ s.mo.dp.grant.state = .active → s.mo.re.seg = some sr → sr.wait = .grant →
      sr.phase ≠ .backoff →
      ((s.tun.minPiece * 1000 : Nat) < a → exec .recheckResult s = .next (s.withMotion { s.mo with
        dp := { s.mo.dp.made (.trimAmount s.mo.dp.grant.id (sp.doneAtStart + a)) with
          grant := { s.mo.dp.grant with amount := sp.doneAtStart + a } }
        cu := { checks := rest
                corridor := s.mo.cu.corridor.map fun c => { c with amount := sp.doneAtStart + a } }
        re := { s.mo.re with seg := some { sr with pieceCut := true, pieceCell := some cell.held } } })) ∧
      (a ≤ (s.tun.minPiece * 1000 : Nat) → exec .recheckResult s = .next (s.withMotion
        ((Motion.stopped .hazard { s.mo with cu := { s.mo.cu with checks := rest } }).withSeg
          (sr.settling .blocked (some cell.held))))))

/-- HELD GRANT RELEASE and DWELL END (R89, R91, R99, R121). A grant that is ready goes out at once with the record
NONE, the frame made and the record SENT; with the record not NONE it is held; with the link not ONLINE the segment
is recorded DriveLost. HELD GRANT RELEASE with the record NONE and the link ONLINE sends the grant that was held;
with the record not NONE it does nothing (assumption 5). DWELL END begins the segment's next try: its attempt number
rises by one and the engine goes on with it. A Line's check runs to the primary target, or to the alternate once the
primary tries are used up, and begins in the same command when none is held (assumptions 6 and 13); before the dwell
is over it does nothing (assumption 5). -/
def Obligations.HeldGrantsAndDwellsGoOn : Prop :=
  (∀ (g : ReadyGrant) (sr : SegRun) (m : Motion), m.re.seg = some sr →
    (m.dp.link ≠ .online → issueGrant g m = m.toRecord .driveLost none sr) ∧
    (m.dp.link = .online → m.dp.grant.state ≠ .none → issueGrant g m =
      m.withSeg { sr with wait := .held, pieceCut := false, ready := some g }) ∧
    (m.dp.link = .online → m.dp.grant.state = .none → issueGrant g m =
      Motion.withSeg { sr with wait := .grant, pieceCut := false, ready := none } { m with
        cu := { m.cu with corridor := g.corridor.map fun c => { c with grant := m.dp.nextId } }
        re := { m.re with amountDone := 0 }
        dp := { DrivePort.made (.grant m.dp.nextId g.kind g.amount g.cap) m.dp with
          nextId := if m.dp.nextId = 255 then 1 else m.dp.nextId + 1
          grant := { state := .sent, id := m.dp.nextId, kind := g.kind, amount := g.amount, cap := g.cap
                     miss := 0, settle := 0 } } })) ∧
  (∀ (sr : SegRun) (s : State), s.mo.re.seg = some sr → sr.phase = .dwell →
    (sr.dwellLeft = 0 → exec .dwellEnd s = .next (s.runs { s.mo with re := { s.mo.re with
      seg := some { sr with wait := .nothing }, attempt := s.mo.re.attempt + 1, todo := .startTry } })) ∧
    (sr.dwellLeft ≠ 0 → s.mo.re.todo = .none → exec .dwellEnd s = .next s)) ∧
  ∀ (sr : SegRun) (s : State), s.mo.re.seg = some sr → s.mo.re.todo = .none →
    (∀ g, sr.wait = .held → sr.ready = some g → s.mo.dp.link = .online →
      (s.mo.dp.grant.state = .none → ∃ t, exec .heldGrantRelease s = .next t ∧
        s.mo.Sent t.mo g.kind g.amount g.cap ∧
        t.mo.re.seg = some { sr with wait := .grant, pieceCut := false, ready := none } ∧
        t.mo.cu = { s.mo.cu with corridor := g.corridor.map fun c => { c with grant := s.mo.dp.nextId } } ∧
        t = { s with mo := { s.mo with cu := t.mo.cu, re := t.mo.re, dp := t.mo.dp } }) ∧
      (s.mo.dp.grant.state ≠ .none → exec .heldGrantRelease s = .next s)) ∧
    (sr.phase = .dwell → sr.seg.kind = .line →
      (sr.dwellLeft ≠ 0 → exec .dwellEnd s = .next s) ∧
      (sr.dwellLeft = 0 → s.mo.cu.checks = [] → s.fm.fill = none →
        ∃ t sq req sp, exec .dwellEnd s = .next t ∧ t.mo.re.attempt = s.mo.re.attempt + 1 ∧
          t.mo.re.seg = some sq ∧ sq.phase = .vet ∧ sq.wait = .check ∧ sq.seg = sr.seg ∧ sq.outcome = none ∧
          t.mo.re.progress = { s.mo.re.progress with stage := 0 } ∧ t.mo.re.tally = s.mo.re.tally ∧
          t.mo.cu.checks = [{ req := req, run := some sp }] ∧ req.column = .line ∧
          req.speed = sr.seg.speed ∧
          (∀ x y, sr.seg.alt = some (x, y) → sr.seg.retries + 1 < s.mo.re.attempt + 1 →
            req.path = .target x y) ∧
          (sr.seg.alt = none ∨ s.mo.re.attempt + 1 ≤ sr.seg.retries + 1 →
            req.path = .target sr.seg.targetX sr.seg.targetY) ∧
          t = { s with mo := { s.mo with cu := t.mo.cu, re := t.mo.re } }))

/-! ## The Drive Link (chapter 6) -/

/-- The transmitter and the receiver (R117, R120, R122, R123). A frame made is sent at once by an idle transmitter
and waits last behind a busy one; a Stop of a SENT or ACTIVE grant removes its waiting Trims first, and one asked for
otherwise makes nothing; a Trim of a SENT or ACTIVE grant is made, an Amount Trim changing the record's and the
corridor record's amount. TX FRAME DONE begins the frame that has waited longest, and with none being sent there is
none to begin (assumption 5). RX FRAME DISCARD keeps, of the bytes received, those from the first sync byte whose
frame is not to be discarded. RX GAP TIMEOUT discards a frame cut short, with all that began inside it, and keeps every
report received whole, in order (assumption 14). Nothing else changes. -/
def Obligations.FramesAreSentAndReceived : Prop :=
  (∀ (f : DriveFrame) (reason : StopReason) (n : Int) (m : Motion),
    makeFrame f m = { m with dp := m.dp.made f } ∧
    (m.dp.grant.state = .sent ∨ m.dp.grant.state = .active →
      askStop reason m = m.stopped reason ∧
      trimAmount n m = { m with
        dp := { m.dp.made (.trimAmount m.dp.grant.id n) with grant := { m.dp.grant with amount := n } }
        cu := { m.cu with corridor := m.cu.corridor.map fun c => { c with amount := n } } } ∧
      trimNudge n m = { m with dp := m.dp.made (.trimNudge m.dp.grant.id n) }) ∧
    (m.dp.grant.state = .none ∨ m.dp.grant.state = .stopping →
      askStop reason m = m ∧ trimAmount n m = m ∧ trimNudge n m = m)) ∧
  ∀ (bytes : List Byte) (s : State),
    exec .txFrameDone s = .next { s with mo := { s.mo with dp := { s.mo.dp with
      txNow := s.mo.dp.txQueue.head?, txQueue := s.mo.dp.txQueue.tail } } } ∧
    (∃ t junk, exec (.rxFrameDiscard bytes) s = .next t ∧ s.mo.dp.rx ++ bytes = junk ++ t.mo.dp.rx ∧
      (∀ k, t.mo.dp.rx.head? = some k → k = 0xC3 ∧ judgeFrame t.mo.dp.rx.tail ≠ .bad) ∧
      (∀ (j : Nat) (rest : List Byte), junk.drop j = 0xC3 :: rest →
        judgeFrame (rest ++ t.mo.dp.rx) = .bad) ∧
      t = { s with mo := { s.mo with dp := { s.mo.dp with rx := t.mo.dp.rx } } }) ∧
    (takeFrame s.mo.dp.rx = none →
      exec .rxGapTimeout s = .next { s with mo := { s.mo with dp := { s.mo.dp with rx := [] } } }) ∧
    (∀ r : Report, s.mo.dp.rx = r.frame → exec .rxGapTimeout s = .next s) ∧
    (∀ (r : Report) (rest : List Byte), s.mo.dp.rx = r.frame ++ rest →
      ∃ u, exec .rxGapTimeout { s with mo := { s.mo with dp := { s.mo.dp with rx := huntFrame rest } } } = .next u ∧
        exec .rxGapTimeout s =
          .next { s with mo := { s.mo with dp := { s.mo.dp with rx := r.frame ++ u.mo.dp.rx } } }) ∧
    ∀ (rs : List Report) (cut : List Byte), huntFrame cut = cut → takeFrame cut = none →
      s.mo.dp.rx = rs.flatMap Report.frame ++ cut → exec .rxGapTimeout s =
        .next { s with mo := { s.mo with dp := { s.mo.dp with rx := rs.flatMap Report.frame } } }

/-- DRIVE WATCH EXPIRY and the faults of the segment in progress (R98, R103, R104, R114, R115, R131). Before the
watch is down the expiry does nothing (assumption 5). With no grant outstanding the link is SILENT, the watch
stopped, the baseline Pending and DriveSilent raised, and nothing else changes. With a grant outstanding the grant is
dropped as well, its record NONE and its corridor record gone: an engine with no segment in progress halts of cause
DriveLost, one HALTED already stands, and a segment is recorded DriveLost, also with a hazard pending in SETTLE, or with
the fault that is pending; with no outcome pending it ends in a halt of cause DriveLost. A DriveFault or DriveLost halts an engine with no segment in progress (between
segments: assumption 12); of a segment, the engine's check is withdrawn and it is recorded, or waits in SETTLE for the
grant's end (also another segment's: assumption 31); a fault already pending stands. The waiting Trims of a grant the
expiry drops are removed, and no other (the model's choice, assumption 45), and its Stop is sent, or waits last behind the frame being sent; one that is STOPPING gets no
second Stop. With U at LostLimit or above the Lost comparison gives a segment with no
fault pending Lost: an open grant is stopped with reason Lost and settles, and with none it is recorded. -/
def Obligations.DriveWatchDropsTheGrant : Prop :=
  (∀ (o worst : SegOutcome) (m q : Motion),
    q = { m with cu := { m.cu with checks := m.cu.checks.filter fun k => !k.ofEngine } } →
    (m.re.seg = none → m.re.state = .halted → driveFailure o m = m) ∧
    (m.re.seg = none → m.re.state ≠ .halted → driveFailure o m = haltEngine o m) ∧
    (∀ sr, m.re.seg = some sr → (sr.faulted = false → worst = o) →
      (sr.faulted = true → sr.outcome = some worst) →
      (m.dp.grant.state = .none → driveFailure o m = q.toRecord worst none sr) ∧
      (m.dp.grant.state ≠ .none → driveFailure o m = q.withSeg (sr.settling worst none)))) ∧
  (∀ s : State, s.mo.re.todo = .none →
    (s.mo.pu.u < s.tun.lostLimit ∨ s.mo.re.seg = none → s.lostTest = s) ∧
    ∀ (sr : SegRun) (q : Motion), s.tun.lostLimit ≤ s.mo.pu.u → s.mo.re.seg = some sr →
      q = { s.mo with cu := { s.mo.cu with checks := s.mo.cu.checks.filter fun k => !k.ofEngine } } →
      (sr.faulted = true → s.lostTest = s) ∧
      (sr.faulted = false →
        (s.mo.dp.grant.state = .none → s.lostTest = s.runs (q.toRecord .lost none sr)) ∧
        (s.mo.dp.grant.state = .stopping → s.lostTest = s.withMotion (q.withSeg (sr.settling .lost none))) ∧
        (s.mo.dp.grant.state = .sent ∨ s.mo.dp.grant.state = .active → s.lostTest = s.withMotion
          { (Motion.stopped .lost s.mo).withSeg (sr.settling .lost none) with
            cu := { checks := [], corridor := none } }))) ∧
  ∀ s : State,
    (s.mo.dp.watch ≠ some 0 → exec .driveWatchExpiry s = .next s) ∧
    (s.mo.dp.watch = some 0 → s.mo.dp.grant.state = .none →
      exec .driveWatchExpiry s = .next { s with mo := { s.mo with
        dp := { s.mo.dp with link := .silent, watch := none }
        pu := { s.mo.pu with base := { s.mo.pu.base with held := false } }
        eu := s.mo.eu.raise .driveSilent } }) ∧
    (s.mo.dp.watch = some 0 → s.mo.dp.grant.state ≠ .none → ∀ (m : Motion) (waiting : List DriveFrame) (dp : DrivePort),
      waiting = s.mo.dp.txQueue.filter (fun f => !f.trims s.mo.dp.grant.id) →
      dp = (if s.mo.dp.grant.state = .stopping then { s.mo.dp with txQueue := waiting }
        else DrivePort.made (.stop s.mo.dp.grant.id .fault) { s.mo.dp with txQueue := waiting }) →
      m = { s.mo with
        dp := { dp with link := .silent, watch := none, grant := { s.mo.dp.grant with state := .none } }
        cu := { checks := s.mo.cu.checks.filter Check.ofEngine, corridor := none }
        pu := { s.mo.pu with base := { s.mo.pu.base with held := false } }
        eu := s.mo.eu.raise .driveSilent } →
      (s.mo.re.seg = none → s.mo.re.state ≠ .halted →
        exec .driveWatchExpiry s = .next (s.withMotion (haltEngine .driveLost m))) ∧
      (s.mo.re.seg = none → s.mo.re.state = .halted → s.mo.re.todo = .none →
        exec .driveWatchExpiry s = .next (s.withMotion m)) ∧
      ∀ (sr : SegRun) (worst : SegOutcome), s.mo.re.seg = some sr → (sr.faulted = false → worst = .driveLost) →
        (sr.faulted = true → sr.outcome = some worst) → exec .driveWatchExpiry s =
          .next (s.runs (Motion.toRecord worst none sr { m with cu := { checks := [], corridor := none } }))) ∧
    (s.mo.dp.watch = some 0 → s.mo.dp.grant.state ≠ .none → s.mo.re.todo = .none →
      ∀ (sr : SegRun) (id : ListId) (e : Entry), s.mo.re.seg = some sr → sr.outcome = none →
        s.mo.re.active = some id →
        (s.mo.re.list id).entries[(s.mo.re.list id).position]? = some e →
        ∃ t d, exec .driveWatchExpiry s = .next t ∧ t.mo.dp.link = .silent ∧ t.mo.dp.watch = none ∧
          t.mo.pu.base.held = false ∧ t.mo.dp.grant.state = .none ∧ t.mo.cu.corridor = none ∧
          t.mo.re.state = .halted ∧ t.mo.re.haltedOn = some id ∧ t.mo.re.haltCause = some .driveLost ∧
          t.mo.re.seg = none ∧ t.mo.eu.flagged .driveSilent = true ∧ t.mo.eu.flagged .routeHalted = true ∧
          (t.mo.re.list id).position = (s.mo.re.list id).position ∧
          (t.mo.re.list id).entries = (s.mo.re.list id).entries.set (s.mo.re.list id).position
            { e with desc := d } ∧
          d.outcome = .recorded .driveLost ∧
          (∀ waiting, waiting = s.mo.dp.txQueue.filter (fun f => !f.trims s.mo.dp.grant.id) →
            (s.mo.dp.grant.state = .stopping → t.mo.dp.txNow = s.mo.dp.txNow ∧ t.mo.dp.txQueue = waiting) ∧
            (s.mo.dp.grant.state ≠ .stopping →
              (s.mo.dp.txNow = none → t.mo.dp.txNow = some (.stop s.mo.dp.grant.id .fault) ∧
                t.mo.dp.txQueue = waiting) ∧
              ∀ f, s.mo.dp.txNow = some f → t.mo.dp.txNow = some f ∧
                t.mo.dp.txQueue = waiting ++ [.stop s.mo.dp.grant.id .fault])) ∧ t.fm = s.fm)

/-- A report under a grant (R45, R90, R98, R114 to R116, R117, R119, R124 to R130). The bytes that complete it stand
behind those already in the receiver; what follows it stays there, hunted, and bytes that complete no frame are
received and do nothing else. With the link and the pose taken (the pose: BaselineAndJumpReports,
IntegratedReportMovesThePose), its
travel or turn is added to what the grant has done. A report that does not echo a SENT or ACTIVE grant is a miss, and
the EchoLimit-th a DriveFault with a Stop. The echo of a SENT grant makes it ACTIVE at stage 2, the miss count 0;
Moving reaches stage 3; Done ends the grant and the piece is judged; Stalled stops it, marks the cell ahead, or
behind for a Reverse, and the try settles with Stall, under a backoff with its own outcome; Idle or Holding is a
DriveFault with a Stop. While STOPPING, Idle or Holding ends the grant and a SETTLE or DOCKED goes on; any other
counts toward the settling limit, and the EchoLimit-th is a DriveFault. Then follow the judgement of CLOSE, the
guard's own release, the battery and the sense record. That the release is judged after the engine has gone on is the
model's reading (assumption 24); the report notes the beacon lines (assumption 10). -/
def Obligations.ReportsJudgeTheGrant : Prop :=
  (∀ (bytes rx : List Byte) (b : Beacon) (s : State), rx = huntFrame (s.mo.dp.rx ++ bytes) → takeFrame rx = none →
    exec (.driveReport bytes b) s = .next { s with mo.dp.rx := rx, mo.du.beacon := b }) ∧
  ∀ (r : Report) (b : Beacon) (s u q : State) (bytes rest : List Byte),
    s.mo.dp.rx ++ bytes = r.frame ++ rest ∨ huntFrame (s.mo.dp.rx ++ bytes) = r.frame ++ rest →
    u = { s with mo.dp.rx := huntFrame rest } → q = u.posed r b → q.mo.re.todo = .none →
    (s.mo.re.todo = .none → q.mo.pu.u < s.tun.lostLimit →
      q.mo.dp.grant = s.mo.dp.grant ∧ q.mo.re.amountDone = s.mo.re.amountDone +
        (if s.mo.dp.grant.state = .none then 0
         else if s.mo.dp.grant.kind = .rotate then q.mo.pu.turn else (q.mo.pu.travel : Int)) ∧
      q.mo.dp.link = .online ∧ (s.mo.dp.link = .silent → q.mo.eu.flagged .driveBack = true)) ∧
    (q.mo.dp.grant.state = .none → exec (.driveReport r.frame b) s = .next (q.reportEnds r)) ∧
    (∀ miss : Nat, q.mo.dp.grant.state = .sent ∨ q.mo.dp.grant.state = .active →
      r.echo.toNat ≠ q.mo.dp.grant.id → miss = q.mo.dp.grant.miss + 1 → ∀ m : Motion,
      m = { q.mo with dp := { q.mo.dp with grant := { q.mo.dp.grant with miss := miss } } } →
      (miss < s.tun.echoLimit → exec (.driveReport r.frame b) s = .next ((q.withMotion m).reportEnds r)) ∧
      (s.tun.echoLimit ≤ miss → exec (.driveReport r.frame b) s =
        .next ((q.runs (driveFailure .driveFault (m.stopped .fault))).reportEnds r))) ∧
    (q.mo.dp.grant.state = .sent ∨ q.mo.dp.grant.state = .active → r.echo.toNat = q.mo.dp.grant.id →
      ∀ m : Motion, m = { q.mo with
        dp := { q.mo.dp with grant := { q.mo.dp.grant with state := .active, miss := 0 } }
        re := { q.mo.re with progress := { q.mo.re.progress with
          stage := if q.mo.dp.grant.state = .sent then max 2 q.mo.re.progress.stage
            else q.mo.re.progress.stage } } } →
      (r.drive = .moving → exec (.driveReport r.frame b) s = .next (State.reportEnds r (q.withMotion
        { m with re := { m.re with progress := { m.re.progress with
            stage := max 3 m.re.progress.stage } } }))) ∧
      (r.drive = .done → exec (.driveReport r.frame b) s =
        .next ((q.runs (pieceDone q.env m.grantOver)).reportEnds r)) ∧
      (r.drive = .idle ∨ r.drive = .holding → exec (.driveReport r.frame b) s =
        .next ((q.runs (driveFailure .driveFault (m.stopped .fault))).reportEnds r)) ∧
      (∀ (sr : SegRun) (h : Nat) (p : Int × Int) (u : State), r.drive = .stalled → q.mo.re.seg = some sr →
        sr.wait = .grant →
        h = (if q.mo.dp.grant.kind = .reverse then (q.mo.pu.theta + 32768) % 65536 else q.mo.pu.theta) →
        p = pointAlong q.mo.pu.x q.mo.pu.y h ((q.cs.working.robotRadius + 25) * 1000 : Nat) →
        u = (match cellOfPoint p.1 p.2 with
          | some c => State.sensedMark { cell := c, cause := .stall, sensor := .drv }
              (q.withMotion (m.stopped .hazard))
          | none => q.withMotion (m.stopped .hazard)) →
        exec (.driveReport r.frame b) s = .next (State.reportEnds r (u.withMotion (u.mo.withSeg
          (if sr.phase = .backoff then { sr with phase := .settle, wait := .nothing, inBackoff := true }
           else sr.settling .stall none)))))) ∧
    ∀ settle : Nat, q.mo.dp.grant.state = .stopping → settle = q.mo.dp.grant.settle + 1 →
      (r.drive = .idle ∨ r.drive = .holding →
        (q.mo.re.seg = none → exec (.driveReport r.frame b) s =
          .next ((q.withMotion q.mo.grantOver).reportEnds r)) ∧
        ∀ sr, q.mo.re.seg = some sr →
          (sr.phase = .settle → exec (.driveReport r.frame b) s =
            .next ((q.runs (endSettle q.env sr q.mo.grantOver)).reportEnds r)) ∧
          (sr.phase = .docked → exec (.driveReport r.frame b) s =
            .next ((q.runs (finishDocked q.env q.mo.grantOver)).reportEnds r)) ∧
          (sr.phase ≠ .settle → sr.phase ≠ .docked → exec (.driveReport r.frame b) s =
            .next ((q.withMotion q.mo.grantOver).reportEnds r))) ∧
      (r.drive = .moving ∨ r.drive = .done ∨ r.drive = .stalled → ∀ m : Motion,
        m = { q.mo with dp := { q.mo.dp with grant := { q.mo.dp.grant with settle := settle } } } →
        (settle < s.tun.echoLimit → exec (.driveReport r.frame b) s =
          .next ((q.withMotion m).reportEnds r)) ∧
        (s.tun.echoLimit ≤ settle → exec (.driveReport r.frame b) s =
          .next ((q.runs (driveFailure .driveFault m.grantOver)).reportEnds r)))

/-- What a report ends with, with no CLOSE judgement due (R112, R118, R119, R148, R183, R184). The guard releases its
own latch when no segment is in progress, the drive is at rest and the record is NONE, as they stand once the engine
has gone on (assumption 24). A battery level, at most 100,
below HomeLevel crosses the latch to Below and raises BatteryLow, waking first a PARKED part whose enable is set; it
posts the Priority List, not Urgent, when the part is in RUN, the list has HomeOnLow and is not empty, no switch is
pending, and the engine is IDLE or RUNNING on the Main List. A level at HomeLevel + 5 or above sets the latch back to
Above; any other leaves it. The sense record then takes the seq and the level. -/
def Obligations.BatteryAndGuardRelease : Prop :=
  ∀ (r : Report) (s q : State) (level : Nat),
    (∀ sr, s.mo.re.seg = some sr → sr.phase ≠ .close ∨ s.mo.dp.grant.state ≠ .active) →
    level = min 100 r.battery.toNat →
    q = s.withGuard { s.mo.hg with state :=
      if s.mo.hg.state = .tripped ∧ s.mo.re.seg = none ∧ (r.drive = .idle ∨ r.drive = .holding) ∧
        s.mo.dp.grant.state = .none then .armed else s.mo.hg.state } →
    (s.mo.re.latch = .above → s.tun.homeLevel ≤ level →
      s.reportEnds r = { q with mo.dp.seq := r.seq, mo.dp.battery := level }) ∧
    (s.mo.re.latch = .below → level < s.tun.homeLevel + 5 →
      s.reportEnds r = { q with mo.dp.seq := r.seq, mo.dp.battery := level }) ∧
    (s.mo.re.latch = .below → s.tun.homeLevel + 5 ≤ level → s.reportEnds r =
      { q with mo.re.latch := .above, mo.dp.seq := r.seq, mo.dp.battery := level }) ∧
    (s.mo.re.latch = .above → level < s.tun.homeLevel → ∃ w p : State,
      (s.mo.eu.device = .run ∨ s.mo.eu.wakeBattery = false → w = q) ∧
      (s.mo.eu.device = .parked → s.mo.eu.wakeBattery = true → w = q.wake .batteryLow ∧
        s.Woken w .batteryLow) ∧
      p = { w with mo.re.latch := .below, mo.eu := w.mo.eu.raise .batteryLow } ∧
      ((w.mo.eu.device = .run ∧ s.mo.re.priority.homeOnLow = true ∧ s.mo.re.priority.entries ≠ [] ∧
        s.mo.re.switchPending = false ∧ (s.mo.re.state = .idle ∨
          s.mo.re.state = .running ∧ s.mo.re.active = some .main)) →
        s.reportEnds r = { p.runs (postList false p.mo) with mo.dp.seq := r.seq, mo.dp.battery := level }) ∧
      (w.mo.eu.device = .parked ∨ s.mo.re.priority.homeOnLow = false ∨ s.mo.re.priority.entries = [] ∨
        s.mo.re.switchPending = true ∨ s.mo.re.state = .halted ∨ s.mo.re.state = .draining ∨
        s.mo.re.state = .running ∧ s.mo.re.active ≠ some .main →
        s.reportEnds r = { p with mo.dp.seq := r.seq, mo.dp.battery := level }))

/-! ## The Hazard Guard (chapter 7) -/

/-- CLIFF SAMPLE (R134, R136, R141, R143). The point under a sensor is that of its calibrated offset, forward and to
the left of the pose, turned by the sine table; the sample reads the class of the cell the point lies in, and Unknown
outside the map. A light sample makes the sensor CLEAR. A dark one of a TRIPPED sensor does
nothing. A dark one short of its required count, or over Dock, makes it SUSPECT with its count raised and
trips nothing. One that reaches the count trips (what a trip does: TripsByPhase), with a Cliff mark under the sensor
while U is below LostLimit and the point in the map: the sensor is TRIPPED and HazardTrip is raised; with no
segment in progress the latch is set, and under a SENT or ACTIVE grant of a segment out of BACKOFF the grant is
stopped and the segment waits in SETTLE with CliffStop; and with the pose known the cell under the sensor is
Cliff with origin Sensed. In OFF no sample is taken. -/
def Obligations.CliffSamplesTrip : Prop :=
  (∀ (k : CliffSensor) (s : State) (c : Calibration) (f l cos sin px py : Int) (j : Nat), c = s.cs.working →
    (f, l) = (match k with
      | .fl => (c.flF, c.flL)
      | .fr => (c.frF, c.frL)
      | .sl => (c.slF, c.slL)
      | .sr => (c.srF, c.srL)) →
    j = s.mo.pu.theta % 65536 / 64 → cos = sinT ((j + 256) % 1024) → sin = sinT j →
    px = s.mo.pu.x + rhaz ((f * cos - l * sin) * 1000) 16384 →
    py = s.mo.pu.y + rhaz ((f * sin + l * cos) * 1000) 16384 →
    s.projected k = (px, py) ∧
    (∀ cell : CellIx, 0 ≤ px → px ≤ 12799999 → 0 ≤ py → py ≤ 12799999 →
      cell = { cx := (px / 50000).toNat, cy := (py / 50000).toNat } →
      cellOfPoint px py = some cell ∧ s.classUnder k = (s.fm.cellAt cell).cls) ∧
    (px < 0 ∨ 12799999 < px ∨ py < 0 ∨ 12799999 < py →
      cellOfPoint px py = none ∧ s.classUnder k = .unknown)) ∧
  (∀ (k : CliffSensor) (level : Byte) (n : Nat) (s : State) (mark : Option SensedMark),
    n = min 15 ((s.mo.hg.cliff k).count + 1) → s.mo.hg.state ≠ .off → level.toNat < s.tun.cliffLevel →
    (s.mo.hg.cliff k).state ≠ .tripped → s.classUnder k ≠ .dock →
    (s.classUnder k = .rug → s.tun.rugConfirm ≤ n) →
    mark = (if s.mo.pu.u < s.tun.lostLimit then
        (cellOfPoint (s.projected k).1 (s.projected k).2).map fun c =>
          { cell := c, cause := .cliffTrip, sensor := sensorMark k }
      else none) →
    exec (.cliffSample k level) s = .next (State.trip .cliffStop mark
      (s.withGuard (s.mo.hg.setCliff k { state := .tripped, count := n })))) ∧
  ∀ (k : CliffSensor) (level : Byte) (n : Nat) (s : State), n = min 15 ((s.mo.hg.cliff k).count + 1) →
    (s.mo.hg.state = .off → exec (.cliffSample k level) s = .next s) ∧
    (s.mo.hg.state ≠ .off →
      (s.tun.cliffLevel ≤ level.toNat → exec (.cliffSample k level) s =
        .next { s with mo := { s.mo with hg := s.mo.hg.setCliff k { state := .clear, count := 0 } } }) ∧
      (level.toNat < s.tun.cliffLevel → (s.mo.hg.cliff k).state = .tripped →
        exec (.cliffSample k level) s = .next s) ∧
      (level.toNat < s.tun.cliffLevel → (s.mo.hg.cliff k).state ≠ .tripped →
        s.classUnder k = .dock ∨ s.classUnder k = .rug ∧ n < s.tun.rugConfirm →
        exec (.cliffSample k level) s =
          .next { s with mo := { s.mo with hg := s.mo.hg.setCliff k { state := .suspect, count := n } } }) ∧
      (level.toNat < s.tun.cliffLevel → (s.mo.hg.cliff k).state ≠ .tripped → s.classUnder k ≠ .dock →
        (s.classUnder k = .rug → s.tun.rugConfirm ≤ n) → Memory.wf CellRec.swept s.fm.cells →
        s.mo.re.todo = .none →
        ∃ t, exec (.cliffSample k level) s = .next t ∧ t.mo.hg.cliff k = { state := .tripped, count := n } ∧
          t.mo.eu.flagged .hazardTrip = true ∧ t.mo.pu = s.mo.pu ∧
          (s.mo.re.seg = none → t.mo.hg.state = .tripped ∧ t.mo.re = s.mo.re) ∧
          (∀ sr, s.mo.hg.state = .armed → s.mo.dp.grant.state = .sent ∨ s.mo.dp.grant.state = .active →
            s.mo.re.seg = some sr → sr.wait = .grant → sr.phase.standing = false → sr.phase ≠ .backoff →
            t.mo.hg.state = .tripped ∧ t.mo.dp.grant.state = .stopping ∧ t.mo.cu.corridor = none ∧
            ∃ sq, t.mo.re.seg = some sq ∧ sq.phase = .settle ∧ sq.outcome = some .cliffStop) ∧
          (∀ c, s.mo.pu.u < s.tun.lostLimit →
            cellOfPoint (s.projected k).1 (s.projected k).2 = some c →
            (t.fm.cellAt c).sensedCliff = true) ∧
          (∀ a, (∀ c, cellOfPoint (s.projected k).1 (s.projected k).2 = some c → a ≠ c.addr) →
            Memory.read CellRec.swept t.fm.cells a = Memory.read CellRec.swept s.fm.cells a)))

/-- The switch lines (R138 to R141). LINE SAMPLE of a sample that is no assertion holds it and nothing else. With the
guard watching, a wheel's assertion trips with CliffStop and a Cliff mark half a wheel base to its side, and a
bumper's with no window open opens one with the pose and the time and trips with BumpStop and no mark; on a part with
no segment in progress that latches the guard and raises HazardTrip. The other bumper's within 5 ms closes the window
with one mark ahead (none with the pose lost or the point outside the map), and the same bumper's changes nothing; one after 5 ms closes it first (assumption 16). BUMP
WINDOW TIMEOUT before 5 ms, or with no window open, does nothing (assumption 5); after, it closes the window with one
Obstacle mark to the side that asserted, at RobotRadius + 25 mm from the pose recorded; with the pose lost or the
point outside the map no mark is made. -/
def Obligations.LineSamplesTrip : Prop :=
  (∀ (s : State) (lines : LineLevels) (left : Bool), s.mo.hg.state = .armed ∨ s.mo.hg.state = .tripped →
    (∀ (mark : Option SensedMark) (p : Int × Int) (lat : Int),
      s.mo.hg.lines.get (if left then .wl else .wr) = false →
      lines = s.mo.hg.lines.set (if left then .wl else .wr) true →
      lat = (if left then 1 else -1) * ((s.cs.working.wheelBase * 500 : Nat) : Int) →
      p = (s.mo.pu.x + rhaz (-(lat * sinV s.mo.pu.theta)) 16384, s.mo.pu.y + rhaz (lat * cosT s.mo.pu.theta) 16384) →
      mark = (if s.mo.pu.u < s.tun.lostLimit then (cellOfPoint p.1 p.2).map fun c =>
          { cell := c, cause := .wheelDrop, sensor := if left then .wl else .wr } else none) →
      exec (.lineSample (if left then .wl else .wr) true) s =
        .next (State.trip .cliffStop mark (s.withGuard { s.mo.hg with lines := lines }))) ∧
    (s.mo.hg.lines.get (if left then .bl else .br) = false →
      lines = s.mo.hg.lines.set (if left then .bl else .br) true →
      ∀ w : BumpWindow, w = { byLeft := left, x := s.mo.pu.x, y := s.mo.pu.y, theta := s.mo.pu.theta
                              time := s.mo.eu.time } →
      (s.mo.hg.window = none → exec (.lineSample (if left then .bl else .br) true) s =
        .next (State.trip .bumpStop none (s.withGuard { s.mo.hg with lines := lines, window := some w }))) ∧
      ∀ v, s.mo.hg.window = some v →
        (v.byLeft = left → (s.mo.eu.time - v.time).toNat ≤ 5 →
          exec (.lineSample (if left then .bl else .br) true) s =
            .next (s.withGuard { s.mo.hg with lines := lines })) ∧
        (5 < (s.mo.eu.time - v.time).toNat → ∃ u,
          exec .bumpWindowTimeout (s.withGuard { s.mo.hg with lines := lines }) = .next u ∧
          exec (.lineSample (if left then .bl else .br) true) s =
            .next (State.trip .bumpStop none (u.withGuard { u.mo.hg with window := some w }))))) ∧
  (∀ s : State,
    (∀ (line : SwitchLine) (now : Bool), now = false ∨ s.mo.hg.lines.get line = true →
      exec (.lineSample line now) s =
        .next { s with mo := { s.mo with hg := { s.mo.hg with lines := s.mo.hg.lines.set line now } } }) ∧
    (s.mo.Still → s.mo.hg.state = .armed → s.mo.pu.u < s.tun.lostLimit →
      Memory.wf CellRec.swept s.fm.cells →
      (∀ left : Bool, s.mo.hg.lines.get (if left then .wl else .wr) = false →
        ∃ t lat, exec (.lineSample (if left then .wl else .wr) true) s = .next t ∧
          lat = (if left then 1 else -1) * ((s.cs.working.wheelBase * 500 : Nat) : Int) ∧
          t.mo.hg = { s.mo.hg with state := .tripped
                                   lines := s.mo.hg.lines.set (if left then .wl else .wr) true } ∧
          t.mo.eu.flagged .hazardTrip = true ∧ t.mo.re = s.mo.re ∧ t.mo.pu = s.mo.pu ∧
          ∀ c, cellOfPoint (s.mo.pu.x + rhaz (-(lat * sinV s.mo.pu.theta)) 16384)
              (s.mo.pu.y + rhaz (lat * cosT s.mo.pu.theta) 16384) = some c →
            (t.fm.cellAt c).sensedCliff = true) ∧
      (∀ left : Bool, s.mo.hg.lines.get (if left then .bl else .br) = false → s.mo.hg.window = none →
        ∃ t, exec (.lineSample (if left then .bl else .br) true) s = .next t ∧
          t.mo.hg = { s.mo.hg with
            state := .tripped
            lines := s.mo.hg.lines.set (if left then .bl else .br) true
            window := some { byLeft := left, x := s.mo.pu.x, y := s.mo.pu.y, theta := s.mo.pu.theta,
                             time := s.mo.eu.time } } ∧
          t.mo.eu = s.mo.eu.raise .hazardTrip ∧ t.fm = s.fm ∧ t.mo.re = s.mo.re)) ∧
    (∀ (left : Bool) (w : BumpWindow) (c : CellIx) (p : Int × Int) (v : State), s.mo.hg.state = .armed ∨ s.mo.hg.state = .tripped →
      s.mo.hg.lines.get (if left then .bl else .br) = false → s.mo.hg.window = some w → w.byLeft = !left →
      (s.mo.eu.time - w.time).toNat ≤ 5 →
      p = pointAlong w.x w.y w.theta ((s.cs.working.robotRadius + 25) * 1000 : Nat) →
      v = s.withGuard { s.mo.hg with
        lines := s.mo.hg.lines.set (if left then .bl else .br) true, window := none } →
      (s.mo.pu.u < s.tun.lostLimit → cellOfPoint p.1 p.2 = some c →
        exec (.lineSample (if left then .bl else .br) true) s =
          .next (v.sensedMark { cell := c, cause := .bump, sensor := .bb })) ∧
      (s.tun.lostLimit ≤ s.mo.pu.u ∨ cellOfPoint p.1 p.2 = none →
        exec (.lineSample (if left then .bl else .br) true) s = .next v))) ∧
  ∀ s : State,
    (s.mo.hg.window = none → exec .bumpWindowTimeout s = .next s) ∧
    (∀ (w : BumpWindow) (h : Nat) (p : Int × Int), s.mo.hg.window = some w →
      (h : Int) = (w.theta + (if w.byLeft then 5461 else -5461)) % 65536 →
      p = pointAlong w.x w.y h ((s.cs.working.robotRadius + 25) * 1000 : Nat) →
      ((s.mo.eu.time - w.time).toNat < 5 → exec .bumpWindowTimeout s = .next s) ∧
      (5 ≤ (s.mo.eu.time - w.time).toNat →
        (s.tun.lostLimit ≤ s.mo.pu.u ∨ cellOfPoint p.1 p.2 = none →
          exec .bumpWindowTimeout s = .next { s with mo := { s.mo with hg := { s.mo.hg with window := none } } }) ∧
        (∀ c, s.mo.pu.u < s.tun.lostLimit → cellOfPoint p.1 p.2 = some c →
          exec .bumpWindowTimeout s = .next (State.sensedMark
            { cell := c, cause := .bump, sensor := if w.byLeft then .bl else .br }
            { s with mo := { s.mo with hg := { s.mo.hg with window := none } } }))))

/-- What a trip does (R98, R100, R102, R141 to R146). In OFF there is none. While ARMED it sets the latch and stops a
SENT or ACTIVE grant; while TRIPPED neither; its mark is then taken. With no segment in progress nothing else meets
it. A segment's guard-trip mark is set, and: in DOCKED it stands (assumption 37); in SETTLE with no fault pending the
trip's outcome replaces what is pending, a backoff to follow (assumption 23; a DockMissed of a DOCKED given up too:
assumption 41), and a fault stands; in BACKOFF it gives
GuardInBackoff, its grant stopped or the segment recorded; under a grant the grant is stopped and the segment settles
with CliffStop or BumpStop; and otherwise the guard is released. HazardTrip is raised last. -/
def Obligations.TripsByPhase : Prop :=
  ∀ (o : SegOutcome) (mark : Option SensedMark) (s q u : State) (grant : GrantState),
    grant = s.mo.dp.grant.state →
    (s.mo.hg.state = .off → s.trip o mark = s) ∧
    (s.mo.hg.state ≠ .off → s.mo.re.todo = .none →
      (s.mo.hg.state = .tripped → q = s) →
      (s.mo.hg.state = .armed → grant = .sent ∨ grant = .active →
        q = s.withMotion (Motion.stopped .hazard s.mo.tripped)) →
      (s.mo.hg.state = .armed → grant = .none ∨ grant = .stopping → q = s.withMotion s.mo.tripped) →
      u = (match mark with
        | some k => q.sensedMark k
        | none => q) →
      ∃ v : State, s.trip o mark = v.withMotion (v.mo.raise .hazardTrip) ∧
        (s.mo.re.seg = none → v = u) ∧
        ∀ (sr : SegRun) (m : Motion), s.mo.re.seg = some sr →
          m = { u.mo with re := { u.mo.re with progress := { u.mo.re.progress with guardTrip := true } } } →
          (sr.phase = .docked ∨ sr.phase = .settle ∧ sr.faulted = true → v = u.withMotion m) ∧
          (sr.phase = .settle → sr.faulted = false → v = u.withMotion
            (m.withSeg { sr with outcome := some o, cell := none, inBackoff := false })) ∧
          (sr.phase = .backoff →
            (m.dp.grant.state = .sent ∨ m.dp.grant.state = .active →
              v = u.runs (driveFailure .guardInBackoff (m.stopped .hazard))) ∧
            (m.dp.grant.state = .none ∨ m.dp.grant.state = .stopping →
              v = u.runs (driveFailure .guardInBackoff m))) ∧
          (sr.phase ≠ .docked → sr.phase ≠ .settle → sr.phase ≠ .backoff →
            (sr.wait = .grant →
              (m.dp.grant.state = .sent ∨ m.dp.grant.state = .active →
                v = u.withMotion ((m.stopped .hazard).withSeg (sr.settling o none))) ∧
              (m.dp.grant.state = .none ∨ m.dp.grant.state = .stopping →
                v = u.withMotion (m.withSeg (sr.settling o none)))) ∧
            (sr.wait ≠ .grant → v = u.withMotion m.released)))

/-! ## Docking (chapter 8) -/

/-- DCK SAMPLE counts the samples in a row that differ from the contact state, and a change is due when they
reach ContactDebounce. CONTACT CHANGE takes a change that is due (R155, R162; that it is taken by a command of its
own is assumption 26): the contact state flips and the run returns to 0; with no Dock segment in progress, whatever
other segment is, an On changes nothing else, and an Off of a docked part in RUN clears the docked mark and raises
Undocked (of a PARKED part: WakesArmThePart; with a Dock segment in progress: MateAndDocked). With no change due it does nothing, and a sample
while one is due leaves it so (assumptions 5 and 26). -/
def Obligations.ContactIsDebounced : Prop :=
  (∀ (s : State) (level : Bool), s.mo.du.changeDue = true → exec (.dckSample level) s = .next s) ∧
  ∀ s : State,
    (s.mo.du.changeDue = false → ∀ level : Bool,
      (level = s.mo.du.contact → exec (.dckSample level) s =
        .next { s with mo := { s.mo with du := { s.mo.du with run := 0 } } }) ∧
      (level ≠ s.mo.du.contact → exec (.dckSample level) s =
        .next { s with mo := { s.mo with du := { s.mo.du with
          run := s.mo.du.run + 1
          changeDue := decide (s.tun.contactDebounce ≤ s.mo.du.run + 1) } } })) ∧
    (s.mo.du.changeDue = false → exec .contactChange s = .next s) ∧
    (s.mo.du.changeDue = true → (∀ sr, s.mo.re.seg = some sr → sr.seg.kind ≠ .dock) →
      (∀ m : Motion, s.mo.du.contact = false →
        m = { s.mo with du := { s.mo.du with contact := true, run := 0, changeDue := false } } →
        exec .contactChange s = .next (s.runs m) ∧
        (s.mo.re.todo = .none → exec .contactChange s = .next (s.withMotion m))) ∧
      (s.mo.du.contact = true → s.mo.du.docked = false → exec .contactChange s =
        .next { s with mo := { s.mo with du := { s.mo.du with contact := false, run := 0, changeDue := false } } }) ∧
      (s.mo.du.contact = true → s.mo.du.docked = true → s.mo.eu.device = .run → exec .contactChange s =
        .next { s with mo := { s.mo with
          du := { s.mo.du with contact := false, run := 0, changeDue := false, docked := false }
          eu := s.mo.eu.raise .undocked } }))

/-- SEEK and CLOSE (R89, R93, R122, R154, R156 to R160). The pattern is Centre, or Split, Left, Right or Dark. A SEEK
judgement of Centre begins a CLOSE piece; else with less than a full turn made it asks for the check of a step; else
the try ends DockNotFound. The step's check blocked ends it Blocked; unblocked it sends a Rotate of SeekStep. A CLOSE
piece's check runs along θ for 100 mm and StopMargin at no more than twice MateSpeed; its result sends a Creep of
what it leaves, up to 100 mm and PieceLength, or ends Blocked. Under the ACTIVE Creep each report is a judgement: a
pattern other than the last, Left or Right, nudges by NudgeStep. At its Done near begins MATE; a beam seen within
twice DockStandoff begins the next piece; a dark piece short of the third does too; else the first loss returns to
SEEK with its counts at 0, and the second ends DockLost. (A SEEK step's Done: PiecesAreJudged.) The beam is judged by
the lines as last noted (assumption 10). That the check limits a Creep, a MATE's too, only when its allowance is below
every other limit is the model's choice (assumption 36). -/
def Obligations.SeekAndCloseFollowTheBeam : Prop :=
  (∀ b : Beacon, (b.centre = true → beamPattern b = .centre) ∧
    (b.centre = false →
      (b.left = true → b.right = true → beamPattern b = .split) ∧
      (b.left = true → b.right = false → beamPattern b = .left) ∧
      (b.left = false → b.right = true → beamPattern b = .right) ∧
      (b.left = false → b.right = false → beamPattern b = .dark))) ∧
  (∀ (env : Env) (m : Motion) (sr sq : SegRun), m.re.seg = some sq →
    (beamPattern m.du.beacon = .centre → judgeSeek env sr m = beginClose env sr m) ∧
    (beamPattern m.du.beacon ≠ .centre → m.du.seekTurn < 65536 → judgeSeek env sr m =
      askCheck env (sr.request .rotate .spot sr.seg.speed)
        (Motion.withSeg (sq.at .seek .check) { m with du := { m.du with phase := .seek } })) ∧
    (beamPattern m.du.beacon ≠ .centre → 65536 ≤ m.du.seekTurn → judgeSeek env sr m =
      takeEffect .dockNotFound none { m with du := { m.du with phase := .seek } }) ∧
    beginClose env sr m = askCheck env
      (sr.request .dockClose (.heading .facing ((100 + env.tun.stopMargin) * 1000))
        (min sr.seg.speed (2 * env.tun.mateSpeed)))
      (Motion.withSeg (sq.at .close .check)
        { m with du := { m.du with phase := .close, beamSeen := false, lastPattern := none } }) ∧
    ∀ (seen : Bool) (travel : Nat) (du : DockUnit), m.re.seg = some sr → sr.wait = .grant →
      sr.phase = .close → sq = sr → seen = (m.du.beamSeen || decide (beamPattern m.du.beacon ≠ .dark)) →
      travel = m.du.closeTravel + m.re.amountDone.toNat →
      du = { m.du with beamSeen := seen, closeTravel := travel } →
      ∀ n : Motion, n = m.withSeg { sr with wait := .nothing } → ∀ d, m.du.pose = some d →
        (m.du.beacon.near = true → pieceDone env m = beginMate env sr { n with du := du }) ∧
        (m.du.beacon.near = false →
          (seen = true → travel ≤ 2 * d.standoff * 1000 →
            pieceDone env m = beginClose env sr { n with du := { du with lossCount := 0 } }) ∧
          (seen = false → m.du.lossCount + 1 < 3 → pieceDone env m =
            beginClose env sr { n with du := { du with lossCount := m.du.lossCount + 1 } }) ∧
          (seen = true ∧ 2 * d.standoff * 1000 < travel ∨ seen = false ∧ 3 ≤ m.du.lossCount + 1 →
            (m.du.losses = 0 → pieceDone env m = judgeSeek env sr { n with du := { du with
              losses := 1, lossCount := 0, closeTravel := 0, seekTurn := 0 } }) ∧
            (m.du.losses ≠ 0 → ∃ k, pieceDone env m =
              takeEffect .dockLost none { n with du := { du with lossCount := k } })))) ∧
  (∀ (b : Beacon) (s u : State) (req : CheckReq) (sp : Sampling) (rest : List Check) (sr : SegRun) (q : Motion)
      (n full : Int), u = s.setBeacon b →
    s.mo.cu.checks = { req := req, run := some sp } :: rest → req.owner = .engine → sp.finished = true →
    s.mo.re.seg = some sr → sr.wait = .check → q = Motion.handed sp rest sr u.mo →
    (sr.phase = .seek →
      (∀ k cell, sp.blocked = some (k, cell) →
        exec (.checkResult b) s = .next (u.runs (takeEffect .blocked (some cell.held) q))) ∧
      (sp.blocked = none → exec (.checkResult b) s = .next (u.runs (issueGrant
        { kind := .rotate, amount := s.tun.seekStep, cap := sp.cap, corridor := none }
        { q with du := { q.du with seekTurn := q.du.seekTurn + s.tun.seekStep } })))) ∧
    (sr.phase = .close ∧ full = 100000 ∨ sr.phase = .mate ∧ full = (s.tun.mateLimit * 1000 : Nat) →
      n = min full (min ((sp.clear : Int) - (s.tun.stopMargin * 1000 : Nat))
        ((s.tun.pieceLength * 1000 : Nat) : Int)) →
      (n ≤ (s.tun.minPiece * 1000 : Nat) → exec (.checkResult b) s =
        .next (u.runs (takeEffect .blocked (sp.blocked.map fun k => k.2.held) q))) ∧
      ((s.tun.minPiece * 1000 : Nat) < n → exec (.checkResult b) s = .next (u.runs (issueGrant
        (pieceGrant .creep n (sp.result req)) (q.withSeg { sr with
          wait := .nothing
          pieceLimited := decide ((sp.clear : Int) - (s.tun.stopMargin * 1000 : Nat) <
            min full ((s.tun.pieceLength * 1000 : Nat) : Int))
          pieceCell := sp.blocked.map fun k => k.2.held })))))) ∧
  ∀ (s t : State) (sr : SegRun) (p : Pattern), s.mo.re.seg = some sr → p = beamPattern s.mo.du.beacon →
    t = { s with mo := { s.mo with du := { s.mo.du with
      beamSeen := s.mo.du.beamSeen || decide (p ≠ .dark), lastPattern := some p } } } →
    (sr.phase ≠ .close ∨ sr.wait ≠ .grant ∨ s.mo.dp.grant.state ≠ .active → s.closeJudgement = s) ∧
    (sr.phase = .close → sr.wait = .grant → s.mo.dp.grant.state = .active →
      (s.mo.du.lastPattern = some p ∨ s.tun.nudgeStep = 0 ∨ p = .centre ∨ p = .split ∨ p = .dark →
        s.closeJudgement = t) ∧
      (s.mo.du.lastPattern ≠ some p → s.tun.nudgeStep ≠ 0 →
        (p = .left → s.closeJudgement = t.withMotion (trimNudge s.tun.nudgeStep t.mo)) ∧
        (p = .right → s.closeJudgement = t.withMotion (trimNudge (-s.tun.nudgeStep) t.mo))))

/-- MATE and DOCKED (R46, R48, R61, R88, R98, R100, R154, R155, R161, R162). MATE's check runs along θ for MateLimit and
StopMargin at no more than MateSpeed. Its Creep's Done with the contact On enters DOCKED; limited or cut it ends
Blocked, and else DockMissed. The contact going On in a dock phase with no outcome pending enters DOCKED: stage 4, the
check withdrawn, an open grant stopped with reason Cancel, the dock phase DOCKED, no outcome. Once the record is NONE
the pose takes the Dock Pose with U at DockUncertainty; with U then at LostLimit the segment records Lost, and else the
docked mark is set, Docked raised, and Arrived recorded. The contact going Off in that wait gives DockMissed in SETTLE
and clears the docked mark. The model's readings: a MATE Done with the contact On enters DOCKED (assumption 28); a
DOCKED that is given up keeps its dock phase (assumption 29) and waits in SETTLE, open to a trip (assumption 41). -/
def Obligations.MateAndDocked : Prop :=
  (∀ (env : Env) (m : Motion) (sr sq : SegRun) (du : DockUnit), m.re.seg = some sr → sq = { sr with wait := .nothing } →
    beginMate env sr m = askCheck env
      (sr.request .dockClose (.heading .facing ((env.tun.mateLimit + env.tun.stopMargin) * 1000))
        (min sr.seg.speed env.tun.mateSpeed))
      (Motion.withSeg (sr.at .mate .check) { m with du := { m.du with phase := .mate } }) ∧
    (sr.wait = .grant → sr.phase = .mate →
      (m.du.contact = true → pieceDone env m = enterDocked env (m.withSeg sq)) ∧
      (m.du.contact = false →
        (sr.pieceLimited = true ∨ sr.pieceCut = true →
          pieceDone env m = takeEffect .blocked sr.pieceCell (m.withSeg sq)) ∧
        (sr.pieceLimited = false → sr.pieceCut = false →
          pieceDone env m = takeEffect .dockMissed none (m.withSeg sq)))) ∧
    (∀ n : Motion, du = { m.du with phase := .docked } →
      n = { m with
        cu := { m.cu with checks := m.cu.checks.filter fun k => !k.ofEngine }
        re := { m.re with
          progress := { m.re.progress with stage := max 4 m.re.progress.stage }
          seg := some { sr with phase := .docked, wait := .nothing, outcome := none, cell := none
                                ready := none } } } →
      (m.dp.grant.state = .none → enterDocked env m = finishDocked env { n with du := du }) ∧
      (m.dp.grant.state = .stopping → enterDocked env m = { n with du := du }) ∧
      (m.dp.grant.state = .sent ∨ m.dp.grant.state = .active → enterDocked env m =
        { Motion.stopped .cancel n with du := du })) ∧
    ∀ (d : DockPose) (n : Motion), m.du.pose = some d →
      n = { m with pu := { m.pu with x := d.x, y := d.y, theta := d.theta, u := env.tun.dockUncertainty
                                     centre := { cx := d.x / 50000, cy := d.y / 50000 }, slip := 0 } } →
      (env.tun.lostLimit ≤ env.tun.dockUncertainty → finishDocked env m = n.toRecord .lost none sr) ∧
      (env.tun.dockUncertainty < env.tun.lostLimit → finishDocked env m =
        { n.toRecord .arrived none sr with du := { m.du with docked := true }
                                           eu := m.eu.raise .docked })) ∧
  ∀ (s : State) (sr : SegRun) (du : DockUnit), s.mo.du.changeDue = true → s.mo.re.seg = some sr →
    sr.seg.kind = .dock → du = { s.mo.du with contact := !s.mo.du.contact, run := 0, changeDue := false } →
    (s.mo.du.contact = false →
      (s.mo.du.phase ≠ .none → sr.outcome = none → sr.phase ≠ .docked →
        exec .contactChange s = .next (s.runs (enterDocked s.env { s.mo with du := du }))) ∧
      (s.mo.re.todo = .none → s.mo.du.phase = .none ∨ sr.outcome ≠ none ∨ sr.phase = .docked →
        exec .contactChange s = .next (s.withMotion { s.mo with du := du }))) ∧
    (s.mo.du.contact = true → s.mo.re.todo = .none → exec .contactChange s = .next (s.withMotion
      (if sr.phase = .docked then
        Motion.withSeg (sr.settling .dockMissed none) { s.mo with du := { du with docked := false } }
       else { s.mo with du := { du with docked := false } })))

/-! ## Events, timers, parking (chapter 10) -/

/-- TIME BASE TICK (R99, R115, R179, R180, R187): the time base rises by one and passes from its largest value
to 0; the watch, the burn and a dwell fall by one; the Pass Timer counts its ms and, at each tick base, its working
count falls by one. Nothing else changes. That one that has reached 0 stays there until its own command is taken is
the model's choice (assumption 17). -/
def Obligations.TickCountsAMillisecond : Prop :=
  ∀ s : State, ∃ t, exec .timeBaseTick s = .next t ∧
    t.mo.eu.time.toNat = (s.mo.eu.time.toNat + 1) % 4294967296 ∧
    (∀ w, s.mo.dp.watch = some w → t.mo.dp.watch = some (w - 1)) ∧
    (s.mo.dp.watch = none → t.mo.dp.watch = none) ∧
    (∀ b, s.cs.burn = some b → t.cs.burn = some { b with left := b.left - 1 }) ∧
    (s.cs.burn = none → t.cs.burn = none) ∧
    (∀ sr, s.mo.re.seg = some sr → t.mo.re.seg =
      some { sr with dwellLeft := if sr.phase = .dwell then sr.dwellLeft - 1 else sr.dwellLeft }) ∧
    (s.mo.re.seg = none → t.mo.re.seg = none) ∧
    (s.mo.eu.timer.state = .stopped ∨ s.mo.eu.timer.count = 0 → t.mo.eu.timer = s.mo.eu.timer) ∧
    (s.mo.eu.timer.state ≠ .stopped → 0 < s.mo.eu.timer.count →
      t.mo.eu.timer = if s.mo.eu.timer.ms + 1 < s.mo.eu.timer.tickBase
        then { s.mo.eu.timer with ms := s.mo.eu.timer.ms + 1 }
        else { s.mo.eu.timer with ms := 0, count := s.mo.eu.timer.count - 1 }) ∧
    t = { s with
      cs := { s.cs with burn := t.cs.burn }
      mo := { s.mo with dp := { s.mo.dp with watch := t.mo.dp.watch }
                        re := { s.mo.re with seg := t.mo.re.seg }
                        eu := { s.mo.eu with time := t.mo.eu.time, timer := t.mo.eu.timer } } }

/-- READ EVENTS returns the flags, the sub-cause records and the enables it leaves, clears every flag and
record and the enables of the causes that assert, and ATTN is low after it (R175, R176). ARM NOTICES sets and
clears the enables it names and refuses a cause named in both, by its lowest (R177). ARM WAKE sets the three
wake enables, and names the first field that is neither set nor clear (R178). Nothing else changes. -/
def Obligations.EventsAreReadAndArmed : Prop :=
  ∀ s : State, s.Ready →
    (∃ t, exec .readEvents s = .next t ∧ t.mo.eu.attn = false ∧
      t = State.answered 3 (.done (halfBytes s.mo.eu.flags ++
            [BitVec.ofNat 8 ((if s.mo.eu.slipSeen then 1 else 0) + (if s.mo.eu.jumpSeen then 2 else 0)),
             BitVec.ofNat 8 (wokeCode s.mo.eu.woke)] ++
            halfBytes (s.mo.eu.enables &&& ~~~(s.mo.eu.flags &&& s.mo.eu.enables))))
          { s with mo := { s.mo with eu := { s.mo.eu with
              flags := 0, slipSeen := false, jumpSeen := false, woke := none
              enables := s.mo.eu.enables &&& ~~~(s.mo.eu.flags &&& s.mo.eu.enables) } } }) ∧
    (∀ set clear : Half,
      (set &&& clear = 0 → ∃ t, exec (.armNotices set clear) s = .next t ∧
        (∀ k, t.mo.eu.enables.getLsbD k =
          ((s.mo.eu.enables.getLsbD k || set.getLsbD k) && !clear.getLsbD k)) ∧
        t = State.answered 7 (.done (halfBytes t.mo.eu.enables))
          { s with mo := { s.mo with eu := { s.mo.eu with enables := t.mo.eu.enables } } }) ∧
      (∀ n, (set &&& clear).getLsbD n = true → (∀ k, k < n → (set &&& clear).getLsbD k = false) →
        exec (.armNotices set clear) s = .next (s.answered 7 (.invalid 3 n)))) ∧
    (∀ h u b : Byte,
      (1 < h → exec (.armWake h u b) s = .next (s.answered 6 (.invalid 2 0))) ∧
      (h ≤ 1 → 1 < u → exec (.armWake h u b) s = .next (s.answered 6 (.invalid 3 0))) ∧
      (h ≤ 1 → u ≤ 1 → 1 < b → exec (.armWake h u b) s = .next (s.answered 6 (.invalid 4 0)))) ∧
    (∀ h u b : Bool, exec (.armWake (flagByte h) (flagByte u) (flagByte b)) s =
      .next (State.answered 6 (.done [flagByte h, flagByte u, flagByte b])
        { s with mo := { s.mo with eu := { s.mo.eu with wakeHazard := h, wakeUndocked := u,
                                                        wakeBattery := b } } }))

/-- The Pass Timer (R108, R180, R181, R184). SET PASS TIMER names a tick base the timer has not, or a reload value of
0; is refused while the timer is in PASS; and otherwise replaces the settings. A reload gives the working count the
reload value and one reload less. The expiry stops the timer: in ALARM of a PARKED part it wakes it with record Timer;
in PASS with the engine in PassWait the next pass begins; with the Main List suspended in it while the Priority List
runs it is kept; and else nothing more happens; the values of a stopped timer are the model's (assumption 15). A timer not due takes neither (the model's choice, assumption 5). -/
def Obligations.PassTimerRunsOut : Prop :=
  ∀ s : State,
    (s.Ready → ∀ (base : Half) (initial reload count : Byte), base ≠ 1 ∧ base ≠ 10 ∧ base ≠ 100 ∧ base ≠ 1000 →
      exec (.setPassTimer base initial reload count) s = .next (s.answered 8 (.invalid 2 0))) ∧
    (s.Ready → ∀ (base : Half) (initial reload count : Byte),
      base = 1 ∨ base = 10 ∨ base = 100 ∨ base = 1000 → reload = 0 →
      exec (.setPassTimer base initial reload count) s = .next (s.answered 8 (.invalid 4 0))) ∧
    (s.Ready → ∀ (base : Half) (initial reload count : Byte),
      base = 1 ∨ base = 10 ∨ base = 100 ∨ base = 1000 → reload ≠ 0 →
      (s.mo.eu.timer.state = .pass →
        exec (.setPassTimer base initial reload count) s = .next (s.answered 8 (.rejected .notIdle))) ∧
      (s.mo.eu.timer.state ≠ .pass →
        exec (.setPassTimer base initial reload count) s = .next (State.answered 8 (.done [])
          { s with mo := { s.mo with eu := { s.mo.eu with settings := {
              tickBase := base.toNat, initial := initial.toNat, reload := reload.toNat
              reloadCount := count.toNat } } } }))) ∧
    (s.mo.eu.timer.state = .stopped ∨ 0 < s.mo.eu.timer.count →
      exec .passTimerReload s = .next s ∧ exec .passTimerExpiry s = .next s) ∧
    (s.mo.eu.timer.state ≠ .stopped → s.mo.eu.timer.count = 0 →
      (0 < s.mo.eu.timer.reloads → exec .passTimerReload s = .next { s with mo := { s.mo with eu := { s.mo.eu with
        timer := { s.mo.eu.timer with count := s.mo.eu.timer.reload
                                      reloads := s.mo.eu.timer.reloads - 1 } } } }) ∧
      (s.mo.eu.timer.reloads = 0 → ∃ t, exec .passTimerExpiry s = .next t ∧
        (s.mo.eu.timer.state = .alarm → s.mo.eu.device = .parked → t.mo.eu.timer.state = .stopped ∧
          t.mo.eu.device = .run ∧ t.mo.eu.woke = some .timer ∧ t.mo.eu.flagged .woke = true ∧
          t.mo.hg.state = .armed ∧ t.mo.re = s.mo.re ∧ t.fm = s.fm) ∧
        (s.mo.eu.timer.state = .pass → s.mo.re.sub ≠ .passWait → s.mo.re.suspended ≠ some .passWait →
          s.mo.re.todo = .none → t.mo.eu.timer.state = .stopped ∧
          t = { s with mo := { s.mo with eu := { s.mo.eu with timer := t.mo.eu.timer } } }))) ∧
    (s.mo.eu.timer.state = .pass → s.mo.eu.timer.count = 0 → s.mo.eu.timer.reloads = 0 →
      ∀ q : Motion, q = { s.mo with eu := { s.mo.eu with timer :=
        { state := .stopped, count := 0, reloads := 0, tickBase := 100, reload := 1, ms := 0 } } } →
      (s.mo.re.state = .running ∨ s.mo.re.state = .draining → s.mo.re.sub = .passWait →
        s.mo.re.active = some .main → exec .passTimerExpiry s = .next (s.runs { q with re := { s.mo.re with
          state := .running, sub := .segment, seg := none, todo := .begin } })) ∧
      (s.mo.re.suspended = some .passWait → s.mo.re.active = some .priority → s.mo.re.todo = .none →
        exec .passTimerExpiry s = .next (s.withMotion { q with re := { s.mo.re with keptExpiry := true } })))

/-- PARK (R115, R150, R182). An Alarm field above 1, or set with an initial count of 0, is INVALID. With the engine
IDLE, no grant, no fill and no burn, the device is PARKED, the guard OFF with its sensors CLEAR and no window, and the
watch stopped; with the Alarm set and an initial count above 0 the Pass Timer runs in ALARM. With one of these not so
it is refused. -/
def Obligations.ParkStopsTheGuard : Prop :=
  (∀ (alarm : Byte) (s : State), s.Ready →
    1 < alarm.toNat ∨ alarm = 1 ∧ s.mo.eu.settings.initial = 0 →
    exec (.park alarm) s = .next (s.answered 4 (.invalid 2 0))) ∧
  ∀ (alarm : Bool) (s : State), s.Ready → (alarm = true → 0 < s.mo.eu.settings.initial) →
    (s.mo.re.state = .idle → s.mo.dp.grant.state = .none → s.fm.fill = none → s.cs.burn = none →
      ∃ t, exec (.park (flagByte alarm)) s = .next t ∧
        t.mo.eu.timer = (if alarm then
          { state := .alarm, count := s.mo.eu.settings.initial, reloads := s.mo.eu.settings.reloadCount,
            tickBase := s.mo.eu.settings.tickBase, reload := s.mo.eu.settings.reload, ms := 0 }
          else s.mo.eu.timer) ∧
        t = State.answered 4 (.done []) { s with mo := { s.mo with
          hg := { s.mo.hg with state := .off, fl := { state := .clear, count := 0 }
                               fr := { state := .clear, count := 0 }, sl := { state := .clear, count := 0 }
                               sr := { state := .clear, count := 0 }, window := none }
          dp := { s.mo.dp with watch := none }
          eu := { s.mo.eu with device := .parked, timer := t.mo.eu.timer } } }) ∧
    (s.mo.re.state ≠ .idle ∨ s.mo.dp.grant.state ≠ .none ∨ s.fm.fill ≠ none ∨ s.cs.burn ≠ none →
      exec (.park (flagByte alarm)) s = .next (s.answered 4 (.rejected .notIdle)))

/-! ## Calibration and resets (chapters 9 and 11) -/

/-- The calibration record and its one-time slots (R185 to R187). WRITE CALIBRATION names the first field out of its
range; is refused with NotIdle when the engine is not IDLE; and otherwise replaces the working record. BURN
CALIBRATION during a burn is BUSY; is refused with NotIdle or with SlotsExhausted; and otherwise starts a burn of the
working record into the first Blank slot, of 40 ms. BURN DONE writes its copy into the slot, ends it and raises
BurnDone once the 40 ms are over, and before them, or with no burn, does nothing (assumption 5). Nothing else changes.
Over every step a slot keeps its state and its record, unless it is the Blank slot of a running burn: the burn's end
leaves it Written with the burn's copy, and a power-on reset leaves it Spoiled. A burn always has a Blank slot before
it. -/
def Obligations.CalibrationIsBurntOnce : Prop :=
  (∀ (s : State) (c : Calibration), s.Ready →
    (∀ n : Nat, (∀ (k : Nat) (v : Int) (r : Int × Int), k < n → (calibrationValues c)[k]? = some v →
        calibrationRanges[k]? = some r →
        r.1 ≤ v ∧ v ≤ r.2) →
      (∃ (v : Int) (r : Int × Int), (calibrationValues c)[n]? = some v ∧ calibrationRanges[n]? = some r ∧
        (v < r.1 ∨ r.2 < v)) →
      exec (.writeCalibration c) s = .next (s.answered 24 (.invalid (n + 2) 0))) ∧
    ((∀ (k : Nat) (v : Int) (r : Int × Int), (calibrationValues c)[k]? = some v →
        calibrationRanges[k]? = some r → r.1 ≤ v ∧ v ≤ r.2) →
      (s.mo.re.state ≠ .idle → exec (.writeCalibration c) s = .next (s.answered 24 (.rejected .notIdle))) ∧
      (s.mo.re.state = .idle → exec (.writeCalibration c) s =
        .next (State.answered 24 (.done []) { s with cs := { s.cs with working := c } }))) ∧
    (s.cs.burn.isSome = true → exec .burnCalibration s = .next (s.answered 3 .busy)) ∧
    (s.cs.burn = none → s.mo.re.state ≠ .idle →
      exec .burnCalibration s = .next (s.answered 3 (.rejected .notIdle))) ∧
    (s.cs.burn = none → s.mo.re.state = .idle → s.cs.first ≠ .blank → s.cs.second ≠ .blank →
      exec .burnCalibration s = .next (s.answered 3 (.rejected .slotsExhausted))) ∧
    (s.cs.burn = none → s.mo.re.state = .idle → s.cs.first = .blank ∨ s.cs.second = .blank →
      exec .burnCalibration s = .next (State.answered 3 .started
        { s with cs := { s.cs with burn := some {
            slot := if s.cs.first = .blank then .first else .second, copy := s.cs.working
            left := 40 } } }))) ∧
  (∀ s : State, (s.cs.burn = none → exec .burnDone s = .next s) ∧
    ∀ b, s.cs.burn = some b →
      (b.left ≠ 0 → exec .burnDone s = .next s) ∧
      (b.left = 0 → exec .burnDone s = .next { s with
        mo := { s.mo with eu := s.mo.eu.raise .burnDone }
        cs := { s.cs with burn := none
                          first := if b.slot = .first then .written b.copy else s.cs.first
                          second := if b.slot = .second then .written b.copy else s.cs.second } })) ∧
  ∀ s t : State, s.cs.BurnOk → step s = .next t →
    t.cs.BurnOk ∧
    ∀ id : SlotId, t.cs.slot id = s.cs.slot id ∨
      ∃ b, s.cs.burn = some b ∧ b.slot = id ∧ s.cs.slot id = .blank ∧ t.cs.burn = none ∧
        ((s.pending.head? = some .burnDone ∧ b.left = 0 ∧ t.cs.slot id = .written b.copy) ∨
         (s.pending.head? = some .powerOnReset ∧ t.cs.slot id = .spoiled))

/-- SOFT RESET of a ready part (R2, R12, R14, R31, R67, R74, R82, R84, R85, R114, R120, R124, R132, R150, R153, R154,
R167, R170, R173 to R175, R178 to R180, R187): during a burn it is BUSY; otherwise what it keeps and what it returns to its
reset value, in every block; a Stop made for an outstanding grant is sent, or waits alone behind the frame being
sent. A descriptor InProgress reads Cancelled now, with the tries begun, at least 1, whether the alternate was tried,
no blocking cell and end error 0; every other stands. That the record made NONE keeps its kind, amount, cap and counts
and the values of fields the manual gives none, that the queue of commands stays, that a report received whole and not
yet taken goes, that a contact change that is due stays due, and that the sub-state reads Segment are the model's
choices (assumptions 15, 1, 38, 26, 43). -/
def Obligations.SoftResetKeepsAndReturns : Prop :=
  (∀ s : State, s.Ready → s.cs.burn.isSome = true → exec .softReset s = .next (s.answered 3 .busy)) ∧
  ∀ s : State, s.Ready → s.cs.burn = none →
    ∃ t, exec .softReset s = .next t ∧
      t.fm = { s.fm with win := { x0 := 0, x1 := 255, y0 := 0, y1 := 255 }, cursor := { cx := 0, cy := 0 }
                         mode := { primary := .x, xDir := .inc, yDir := .inc }, mapHeld := false, fill := none
                         changes := [], changeLost := false } ∧
      t.tun = s.tun ∧ t.cs = s.cs ∧ t.pending = s.pending ∧ t.pp.slot = some (.done []) ∧ t.pp.buffer = none ∧
      t.mo.pu = { s.mo.pu with base := { s.mo.pu.base with held := false }, slip := 0, travel := 0, turn := 0 } ∧
      t.mo.cu = { checks := [], corridor := none } ∧
      t.mo.re.pool = s.mo.re.pool ∧ t.mo.re.state = .idle ∧ t.mo.re.active = none ∧ t.mo.re.seg = none ∧
      t.mo.re.suspended = none ∧ t.mo.re.switchPending = false ∧ t.mo.re.tally = 0 ∧
      t.mo.re.haltCause = none ∧ t.mo.re.latch = .above ∧ t.mo.re.lastOutcome = none ∧
      t.mo.re.poolIndex = none ∧ t.mo.re.attempt = 0 ∧ t.mo.re.lastBlocking = none ∧
      t.mo.re.progress = { stage := 0, retryInUse := false, altInUse := false, guardTrip := false
                           unknownSeen := false } ∧
      t.mo.re.sub = .segment ∧ t.mo.re.drain = .atSegment ∧ t.mo.re.keptStop = false ∧
      t.mo.re.keptExpiry = false ∧ t.mo.re.haltedOn = none ∧ t.mo.re.todo = .none ∧ t.mo.re.amountDone = 0 ∧
      (∀ id, (t.mo.re.list id).position = 0 ∧ (t.mo.re.list id).passes = (s.mo.re.list id).passes ∧
        (t.mo.re.list id).passesDone = 0 ∧
        (t.mo.re.list id).stopOnHazard = (s.mo.re.list id).stopOnHazard ∧
        (t.mo.re.list id).homeOnLow = (s.mo.re.list id).homeOnLow ∧
        (t.mo.re.list id).entries.length = (s.mo.re.list id).entries.length ∧
        ∀ (j : Nat) (e e' : Entry), (s.mo.re.list id).entries[j]? = some e →
          (t.mo.re.list id).entries[j]? = some e' →
          e'.slot = e.slot ∧ (e.desc.outcome ≠ .inProgress → e' = e) ∧
          (e.desc.outcome = .inProgress → e'.desc = { e.desc with
            outcome := .recorded .cancelled, finish := s.mo.eu.time, attempts := max 1 s.mo.re.attempt
            altUsed := (match s.mo.re.seg with
              | some sr => decide (sr.seg.kind = .line ∧ sr.seg.alt.isSome = true ∧
                  sr.seg.retries + 1 < s.mo.re.attempt)
              | none => false)
            blocking := none, endError := 0 })) ∧
      t.mo.dp.link = .offline ∧ t.mo.dp.watch = none ∧ t.mo.dp.rx = [] ∧
      t.mo.dp.grant = { s.mo.dp.grant with state := .none } ∧ t.mo.dp.nextId = s.mo.dp.nextId ∧
      (s.mo.dp.grant.state = .none → t.mo.dp.txNow = s.mo.dp.txNow ∧ t.mo.dp.txQueue = []) ∧
      (s.mo.dp.grant.state ≠ .none → s.mo.dp.txNow = none →
        t.mo.dp.txNow = some (.stop s.mo.dp.grant.id .cancel) ∧ t.mo.dp.txQueue = []) ∧
      t.mo.hg.state = .armed ∧ t.mo.hg.window = none ∧
      (∀ k, t.mo.hg.cliff k = { state := .clear, count := 0 }) ∧
      t.mo.du = { s.mo.du with phase := .none, docked := false, seekTurn := 0, lossCount := 0, losses := 0
                               closeTravel := 0, beamSeen := false, lastPattern := none } ∧
      t.mo.eu.flags = 0 ∧ t.mo.eu.enables = 0 ∧ t.mo.eu.attn = false ∧ t.mo.eu.time = s.mo.eu.time ∧
      t.mo.eu.settings = s.mo.eu.settings ∧ t.mo.eu.timer.state = .stopped ∧ t.mo.eu.device = .run ∧
      t.mo.dp.seq = s.mo.dp.seq ∧ t.mo.dp.battery = s.mo.dp.battery ∧
      t.mo.eu.wakeHazard = false ∧ t.mo.eu.wakeUndocked = false ∧ t.mo.eu.wakeBattery = false ∧
      t.mo.eu.woke = none ∧ t.mo.eu.slipSeen = false ∧ t.mo.eu.jumpSeen = false ∧
      (∀ f, s.mo.dp.txNow = some f → s.mo.dp.grant.state ≠ .none →
        t.mo.dp.txNow = some f ∧ t.mo.dp.txQueue = [.stop s.mo.dp.grant.id .cancel])
end

