-- ==== Sys2Proof/Laws/Memory.lean ====
section
/-! SUPPORT. Laws/Memory.lean: the sparse store. A read after a write to the same address gives the value
written, a write leaves every other address alone, and a write keeps the canonical form. -/

-- One theorem after another: side by side they start more threads than a small machine has room for.
set_option Elab.async false

namespace Sys2Proof.Machine
open Sys2Proof

variable {α : Type}

/-- An address below all of a store's addresses reads as the default. -/
theorem Memory.read_below (d : α) (m : List (Nat × α)) (a : Nat) (h : ∀ e ∈ m, a < e.1) :
    Memory.read d m a = d := by
  induction m with
  | nil => rfl
  | cons e m ih =>
    obtain ⟨k, v⟩ := e
    have hk : a < k := h (k, v) (by simp)
    simp only [Memory.read]
    rw [if_neg (by omega)]
    exact ih fun e he => h e (by simp [he])

/-- Rising addresses: the rest of a store lies above its head. -/
theorem Memory.above_head {k : Nat} {v : α} {m : List (Nat × α)}
    (h : (((k, v) :: m).map Prod.fst).Pairwise (· < ·)) : ∀ e ∈ m, k < e.1 := by
  intro e he
  simp only [List.map_cons, List.pairwise_cons] at h
  exact h.1 e.1 (List.mem_map_of_mem he)

/-- The rest of a store with rising addresses has rising addresses. -/
theorem Memory.rising_tail {e : Nat × α} {m : List (Nat × α)}
    (h : ((e :: m).map Prod.fst).Pairwise (· < ·)) : (m.map Prod.fst).Pairwise (· < ·) := by
  simp only [List.map_cons, List.pairwise_cons] at h
  exact h.2

theorem Memory.read_insert_same (d : α) (m : List (Nat × α)) (a : Nat) (v : α) :
    Memory.read d (Memory.insert m a v) a = v := by
  induction m with
  | nil => simp [Memory.insert, Memory.read]
  | cons e m ih =>
    obtain ⟨k, w⟩ := e
    simp only [Memory.insert]
    split
    · simp [Memory.read]
    · split
      · simp [Memory.read]
      · rename_i h1 h2
        simp only [Memory.read]
        rw [if_neg (by omega)]
        exact ih

theorem Memory.read_insert_other (d : α) (m : List (Nat × α)) {a b : Nat} (v : α) (h : b ≠ a) :
    Memory.read d (Memory.insert m a v) b = Memory.read d m b := by
  induction m with
  | nil => simp [Memory.insert, Memory.read, Ne.symm h]
  | cons e m ih =>
    obtain ⟨k, w⟩ := e
    simp only [Memory.insert]
    split
    · simp [Memory.read, Ne.symm h]
    · split
      · rename_i h1 h2
        subst h2
        simp [Memory.read, Ne.symm h]
      · simp only [Memory.read, ih]

theorem Memory.read_erase_same (d : α) (m : List (Nat × α)) (a : Nat)
    (h : (m.map Prod.fst).Pairwise (· < ·)) : Memory.read d (Memory.erase m a) a = d := by
  induction m with
  | nil => rfl
  | cons e m ih =>
    obtain ⟨k, w⟩ := e
    simp only [Memory.erase]
    split
    · rename_i hk
      subst hk
      exact Memory.read_below d m k (Memory.above_head h)
    · rename_i hk
      simp only [Memory.read]
      rw [if_neg hk]
      exact ih (Memory.rising_tail h)

theorem Memory.read_erase_other (d : α) (m : List (Nat × α)) {a b : Nat} (h : b ≠ a) :
    Memory.read d (Memory.erase m a) b = Memory.read d m b := by
  induction m with
  | nil => rfl
  | cons e m ih =>
    obtain ⟨k, w⟩ := e
    simp only [Memory.erase]
    split
    · rename_i hk
      subst hk
      simp [Memory.read, Ne.symm h]
    · simp only [Memory.read, ih]

/-- A read after a write to the same address. -/
theorem Memory.read_write_same [DecidableEq α] (d : α) (m : List (Nat × α)) (a : Nat) (v : α)
    (h : (m.map Prod.fst).Pairwise (· < ·)) : Memory.read d (Memory.write d m a v) a = v := by
  unfold Memory.write
  split
  · rename_i hv
    rw [Memory.read_erase_same d m a h, hv]
  · exact Memory.read_insert_same d m a v

/-- A write leaves every other address alone. -/
theorem Memory.read_write_other [DecidableEq α] (d : α) (m : List (Nat × α)) {a b : Nat} (v : α) (h : b ≠ a) :
    Memory.read d (Memory.write d m a v) b = Memory.read d m b := by
  unfold Memory.write
  split
  · exact Memory.read_erase_other d m h
  · exact Memory.read_insert_other d m v h

/-- Every entry of an erased store is one of the store. -/
theorem Memory.mem_erase {m : List (Nat × α)} {a : Nat} {e : Nat × α} (h : e ∈ Memory.erase m a) : e ∈ m := by
  induction m with
  | nil => exact h
  | cons x m ih =>
    obtain ⟨k, w⟩ := x
    simp only [Memory.erase] at h
    split at h
    · simp [h]
    · rcases List.mem_cons.1 h with h | h
      · simp [h]
      · simp [ih h]

/-- Every entry of a store after an insertion is the new one or one of the store. -/
theorem Memory.mem_insert {m : List (Nat × α)} {a : Nat} {v : α} {e : Nat × α}
    (h : e ∈ Memory.insert m a v) : e = (a, v) ∨ e ∈ m := by
  induction m with
  | nil => simpa [Memory.insert] using h
  | cons x m ih =>
    obtain ⟨k, w⟩ := x
    simp only [Memory.insert] at h
    split at h
    · simpa using h
    · split at h
      · rcases List.mem_cons.1 h with h | h
        · exact .inl h
        · simp [h]
      · rcases List.mem_cons.1 h with h | h
        · simp [h]
        · rcases ih h with h | h
          · exact .inl h
          · simp [h]

theorem Memory.rising_erase {m : List (Nat × α)} (a : Nat) (h : (m.map Prod.fst).Pairwise (· < ·)) :
    ((Memory.erase m a).map Prod.fst).Pairwise (· < ·) := by
  induction m with
  | nil => exact h
  | cons x m ih =>
    obtain ⟨k, w⟩ := x
    simp only [Memory.erase]
    split
    · exact Memory.rising_tail h
    · simp only [List.map_cons, List.pairwise_cons]
      refine ⟨?_, ih (Memory.rising_tail h)⟩
      intro b hb
      obtain ⟨e, he, rfl⟩ := List.mem_map.1 hb
      exact Memory.above_head h e (Memory.mem_erase he)

theorem Memory.rising_insert {m : List (Nat × α)} (a : Nat) (v : α)
    (h : (m.map Prod.fst).Pairwise (· < ·)) : ((Memory.insert m a v).map Prod.fst).Pairwise (· < ·) := by
  induction m with
  | nil => simp [Memory.insert]
  | cons x m ih =>
    obtain ⟨k, w⟩ := x
    have above := Memory.above_head h
    simp only [Memory.insert]
    split
    · rename_i hk
      simp only [List.map_cons, List.pairwise_cons]
      simp only [List.map_cons, List.pairwise_cons] at h
      refine ⟨?_, h⟩
      intro b hb
      rcases List.mem_cons.1 hb with rfl | hb
      · exact hk
      · exact lt_trans hk (h.1 b hb)
    · split
      · rename_i h1 h2
        subst h2
        simpa using h
      · rename_i h1 h2
        simp only [List.map_cons, List.pairwise_cons]
        refine ⟨?_, ih (Memory.rising_tail h)⟩
        intro b hb
        obtain ⟨e, he, rfl⟩ := List.mem_map.1 hb
        rcases Memory.mem_insert he with rfl | he
        · show k < a
          omega
        · exact above e he

/-- A write keeps the canonical form. -/
theorem Memory.wf_write [DecidableEq α] (d : α) (m : List (Nat × α)) (a : Nat) (v : α) (h : Memory.wf d m) :
    Memory.wf d (Memory.write d m a v) := by
  unfold Memory.write
  split
  · exact ⟨Memory.rising_erase a h.1, fun e he => h.2 e (Memory.mem_erase he)⟩
  · rename_i hv
    refine ⟨Memory.rising_insert a v h.1, fun e he => ?_⟩
    rcases Memory.mem_insert he with rfl | he
    · exact hv
    · exact h.2 e he

/-- The empty store is in canonical form. -/
theorem Memory.wf_nil (d : α) : Memory.wf d ([] : List (Nat × α)) := by simp [Memory.wf]

end Sys2Proof.Machine
end

