-- ==== Sys2Proof/Laws/Cells.lean ====
section
/-! SUPPORT. Laws/Cells.lean: everything one cell's change can do to the Floor Map, and what the operations made
of it do. -/

-- One theorem after another: side by side they start more threads than a small machine has room for.
set_option Elab.async false

namespace Sys2Proof.Machine
open Sys2Proof

/-- A cell's change leaves the window, the cursor, the fill, the sweep and the queue as they were. -/
theorem FloorMap.putCell_frame (c : CellIx) (r : CellRec) (fm : FloorMap) :
    fm.putCell c r =
      { fm with cells := (fm.putCell c r).cells, sectors := (fm.putCell c r).sectors } := by
  unfold FloorMap.putCell
  split <;> rfl

/-- The cell that was changed reads as its new record. -/
theorem FloorMap.cellAt_putCell_same (c : CellIx) (r : CellRec) (fm : FloorMap)
    (h : Memory.wf CellRec.swept fm.cells) : (fm.putCell c r).cellAt c = r := by
  unfold FloorMap.putCell
  split
  · rename_i e
    exact e.symm
  · exact Memory.read_write_same _ _ _ _ h.1

/-- Every other address reads as before. -/
theorem FloorMap.read_putCell_other (c : CellIx) (r : CellRec) (fm : FloorMap) {a : Nat} (h : a ≠ c.addr) :
    Memory.read CellRec.swept (fm.putCell c r).cells a = Memory.read CellRec.swept fm.cells a := by
  unfold FloorMap.putCell
  split
  · rfl
  · exact Memory.read_write_other _ _ _ h

/-- A sector other than the cell's keeps its counts. -/
theorem FloorMap.sectorAt_putCell_other (c : CellIx) (r : CellRec) (fm : FloorMap) {k : Nat}
    (h : k ≠ c.sector) : (fm.putCell c r).sectorAt k = fm.sectorAt k := by
  unfold FloorMap.putCell
  split
  · rfl
  · exact Memory.read_write_other _ _ _ h

/-- Both stores keep their canonical form. -/
theorem FloorMap.putCell_wf (c : CellIx) (r : CellRec) (fm : FloorMap)
    (h : Memory.wf CellRec.swept fm.cells ∧ Memory.wf SectorRec.swept fm.sectors) :
    Memory.wf CellRec.swept (fm.putCell c r).cells ∧ Memory.wf SectorRec.swept (fm.putCell c r).sectors := by
  unfold FloorMap.putCell
  split
  · exact h
  · exact ⟨Memory.wf_write _ _ _ _ h.1, Memory.wf_write _ _ _ _ h.2⟩

/-- Handing a map change touches the Clearance Unit alone. -/
theorem State.handChange_frame (held : Bool) (c : CellIx) (old new : CellRec) (s : State) :
    s.handChange held c old new =
      { s with mo := { s.mo with cu := (s.handChange held c old new).mo.cu } } := by
  unfold State.handChange takeMapChange askRecheck restartReached askCheck
  repeat' (first | rfl | split)

/-- A cell's change with its map change: the Floor Map's is the whole of it but for the Clearance Unit. -/
theorem State.changeCell_frame (held : Bool) (c : CellIx) (r : CellRec) (s : State) :
    s.changeCell held c r =
      { s with fm := s.fm.putCell c r, mo := { s.mo with cu := (s.changeCell held c r).mo.cu } } := by
  unfold State.changeCell
  rw [State.handChange_frame]

/-- A planner write holds a sensed Cliff, and otherwise is a change with origin Planner (R4). -/
theorem State.plannerWrite_cases (held : Bool) (c : CellIx) (r : CellRec) (s : State) :
    ((s.fm.cellAt c).sensedCliff = true ∧ s.plannerWrite held c r = s) ∨
    ((s.fm.cellAt c).sensedCliff = false ∧
      s.plannerWrite held c r = s.changeCell held c { r with origin := .planner }) := by
  unfold State.plannerWrite
  cases h : (s.fm.cellAt c).sensedCliff <;> simp

end Sys2Proof.Machine
end

