-- ==== Sys2Proof/Laws/Drive.lean ====
section
/-! SUPPORT. Laws/Drive.lean: what the Drive Port's shared operations and the engine's run of its own moves can
do, each said once. -/

-- One theorem after another: side by side they start more threads than a small machine has room for.
set_option Elab.async false

namespace Sys2Proof.Machine
open Sys2Proof

/-- A frame made with the transmitter idle is the one being sent (R120). -/
theorem makeFrame_of_idle (f : DriveFrame) (m : Motion) (h : m.dp.txNow = none) :
    makeFrame f m = { m with dp := { m.dp with txNow := some f } } := by
  simp [makeFrame, h]

/-- A frame made while another is sent waits as the last (R120). -/
theorem makeFrame_of_busy (f g : DriveFrame) (m : Motion) (h : m.dp.txNow = some g) :
    makeFrame f m = { m with dp := { m.dp with txQueue := m.dp.txQueue ++ [f] } } := by
  simp [makeFrame, h]

/-- Making a frame touches the transmitter alone. -/
theorem makeFrame_frame (f : DriveFrame) (m : Motion) :
    makeFrame f m =
      { m with dp := { m.dp with txNow := (makeFrame f m).dp.txNow, txQueue := (makeFrame f m).dp.txQueue } } := by
  unfold makeFrame
  split <;> rfl

/-- A Stop asked for with no grant to stop makes nothing (R123). -/
theorem askStop_of_closed (r : StopReason) (m : Motion) (h : m.dp.grant.state.openTo = false) :
    askStop r m = m := by
  simp [askStop, h]

/-- A Stop of a SENT or ACTIVE grant (R62, R123): STOPPING, the corridor record and a re-check of it gone, and
nothing but the transmitter and the Clearance Unit beside. -/
theorem askStop_of_open (r : StopReason) (m : Motion) (h : m.dp.grant.state.openTo = true) :
    (askStop r m).dp.grant = { m.dp.grant with state := .stopping, settle := 0 } ∧
    (askStop r m).cu = { checks := m.cu.checks.filter Check.ofEngine, corridor := none } ∧
    askStop r m = { m with
      cu := (askStop r m).cu
      dp := { m.dp with grant := (askStop r m).dp.grant, txNow := (askStop r m).dp.txNow
                        txQueue := (askStop r m).dp.txQueue } } := by
  unfold askStop
  rw [if_pos h]
  unfold makeFrame dropTrims dropCorridor
  split <;> exact ⟨rfl, rfl, rfl⟩

/-- After a Stop is asked for, no grant is open (R123). -/
theorem askStop_closes (r : StopReason) (m : Motion) : (askStop r m).dp.grant.state.openTo = false := by
  cases h : m.dp.grant.state.openTo
  · rw [askStop_of_closed r m h, h]
  · rw [(askStop_of_open r m h).1]
    rfl

/-- A grant handed over (R121): the record SENT under the next id, and the amount done at 0. -/
theorem sendGrant_grant (g : ReadyGrant) (m : Motion) :
    (sendGrant g m).dp.grant =
      { state := .sent, id := m.dp.nextId, kind := g.kind, amount := g.amount, cap := g.cap, miss := 0,
        settle := 0 } ∧
    (sendGrant g m).re = { m.re with amountDone := 0 } := by
  unfold sendGrant makeFrame
  split <;> exact ⟨rfl, rfl⟩

/-- Hunting only drops bytes (R117). -/
theorem huntFrame_length_le : ∀ bs : List Byte, (huntFrame bs).length ≤ bs.length
  | [] => Nat.le_refl _
  | b :: bs => by
    have := huntFrame_length_le bs
    unfold huntFrame
    split
    · split <;> simp only [List.length_cons] <;> omega
    · simp only [List.length_cons]
      omega

/-- A report taken leaves fewer bytes (R117). -/
theorem takeFrame_length_lt {bs rest : List Byte} {r : Report} (h : takeFrame bs = some (r, rest)) :
    rest.length < bs.length := by
  cases bs with
  | nil => cases h
  | cons b bs =>
    simp only [takeFrame] at h
    split at h
    · cases h
      simp only [List.length_drop, List.length_cons]
      omega
    · cases h

/-- The number in `wholeFrames` says nothing once it bounds the bytes. -/
theorem wholeFrames_bound : ∀ (n k : Nat) (rx : List Byte), rx.length ≤ n → rx.length ≤ k →
    wholeFrames n rx = wholeFrames k rx
  | 0, k, rx, hn, _ => by
    cases List.eq_nil_of_length_eq_zero (Nat.le_zero.1 hn)
    cases k <;> rfl
  | n + 1, 0, rx, _, hk => by
    cases List.eq_nil_of_length_eq_zero (Nat.le_zero.1 hk)
    rfl
  | n + 1, k + 1, rx, hn, hk => by
    simp only [wholeFrames]
    split
    · rename_i r rest h
      have h1 := takeFrame_length_lt h
      have h2 := huntFrame_length_le rest
      rw [wholeFrames_bound n k _ (by omega) (by omega)]
    · rfl

/-- A gap keeps a report received whole, and does to what follows it what a gap does to that alone (R117). -/
theorem DrivePort.gap_of_whole {dp : DrivePort} {r : Report} {rest : List Byte}
    (h : takeFrame dp.rx = some (r, rest)) :
    dp.gap = { dp with rx := dp.rx.take 15 ++ (DrivePort.gap { dp with rx := huntFrame rest }).rx } := by
  have h1 := takeFrame_length_lt h
  have h2 := huntFrame_length_le rest
  obtain ⟨n, hn⟩ : ∃ n, dp.rx.length = n + 1 := ⟨dp.rx.length - 1, by omega⟩
  simp only [DrivePort.gap, hn, wholeFrames, h]
  rw [wholeFrames_bound n _ _ (by omega) (Nat.le_refl _)]

/-- A gap discards a frame cut short (R117). -/
theorem DrivePort.gap_of_none {dp : DrivePort} (h : takeFrame dp.rx = none) : dp.gap = { dp with rx := [] } := by
  unfold DrivePort.gap
  cases hn : dp.rx.length <;> simp [wholeFrames, h]

/-- An engine with no move of its own stands still. -/
theorem runEngine_of_none (env : Env) (n : Nat) (m : Motion) (h : m.re.todo = .none) :
    runEngine env n m = m := by
  cases n <;> simp [runEngine, h]

/-- What every move of the engine keeps, a run of its moves keeps. -/
theorem runEngine_keeps (env : Env) (P : Motion → Prop) (h : ∀ m, P m → P (engineMove env m)) :
    ∀ (n : Nat) (m : Motion), P m → P (runEngine env n m)
  | 0, _, hm => hm
  | n + 1, m, hm => by
    unfold runEngine
    split
    · exact hm
    · exact runEngine_keeps env P h n _ (h m hm)

/-- A change of the motion blocks that leaves the engine no move is the whole of what happens. -/
theorem State.engine_of_none (f : Env → Motion → Motion) (s : State) (h : (f s.env s.mo).re.todo = .none) :
    s.engine f = { s with mo := f s.env s.mo } := by
  unfold State.engine
  rw [runEngine_of_none _ _ _ h]

/-- The engine's reactions to events leave a part with no segment in progress as it is. -/
theorem reactions_of_no_segment (env : Env) (o : SegOutcome) (c : Option CellIx) (res : CheckResult) (m : Motion)
    (h : m.re.seg = none) :
    checkHanded env res m = m ∧ pieceDone env m = m ∧ pieceStopped o c m = m ∧ grantSettled env m = m ∧
    lostIndication m = m ∧ tripReported o m = m ∧ releaseHeld m = m := by
  simp [checkHanded, pieceDone, pieceStopped, grantSettled, lostIndication, tripReported, releaseHeld, h]

end Sys2Proof.Machine
end

