-- ==== Sys2Proof/Laws/PerInstr.lean ====
section
/-! SUPPORT. Laws/PerInstr.lean: one law of each command as syntax: the frame of a request never carries the code
of FETCH, and the frame of a request that can be sent has a good envelope. -/

-- One theorem after another: side by side they start more threads than a small machine has room for.
set_option Elab.async false

namespace Sys2Proof.Laws.FrameOf
open Sys2Proof Sys2Proof.Machine

/-- A request's frame has a code other than 0 (R168), and a good envelope when the request is well formed
(R164). -/
def Statement (i : Instr) : Prop :=
  ∀ f, requestFrame i = some f → f.code ≠ 0 ∧ (i.wf = true → f.badEnvelope = false)

/-- A frame with a body of its own length, of at most 1024 bytes, has a good envelope. -/
theorem good (code : Byte) (body : List Byte) (h : body.length ≤ 1024) :
    (Frame.mk' code body).badEnvelope = false := by
  simp [Frame.badEnvelope, Frame.mk']
  omega

/-- A command whose frame has a code other than 0 and a short body. -/
theorem of_frame (i : Instr) (code : Byte) (body : List Byte) (hf : requestFrame i = some (.mk' code body))
    (hc : code ≠ 0) (hb : i.wf = true → body.length ≤ 1024) : Statement i := by
  intro f h
  rw [hf] at h
  cases h
  exact ⟨hc, fun w => good code body (hb w)⟩

/-- A command without a frame. -/
theorem of_none (i : Instr) (hf : requestFrame i = none) : Statement i := by
  intro f h
  rw [hf] at h
  cases h

theorem powerOnReset : Statement .powerOnReset := of_none _ rfl
theorem mapSweepProgress (count : Nat) : Statement (.mapSweepProgress count) := of_none _ rfl
theorem mapSweepDone : Statement .mapSweepDone := of_none _ rfl
theorem timeBaseTick : Statement .timeBaseTick := of_none _ rfl
theorem transactionEnd (bytes : List Byte) : Statement (.transactionEnd bytes) := of_none _ rfl
theorem fetch (clocked : Nat) : Statement (.fetch clocked) := of_none _ rfl
theorem invalidFrame (code : Byte) (length : Half) (body : List Byte) : Statement (.invalidFrame code length body) := of_none _ rfl
theorem setWindow (xStart xEnd yStart yEnd primary xDir yDir : Byte) : Statement (.setWindow xStart xEnd yStart yEnd primary xDir yDir) :=
  of_frame _ _ _ rfl (by decide) (fun _ => by simp)
theorem setCursor (cx cy : Byte) : Statement (.setCursor cx cy) :=
  of_frame _ _ _ rfl (by decide) (fun _ => by simp)
theorem writeCells (cells : List Byte) : Statement (.writeCells cells) :=
  of_frame _ _ _ rfl (by decide) (fun w => by simpa [Instr.wf] using w)
theorem readCells (count : Half) : Statement (.readCells count) :=
  of_frame _ _ _ rfl (by decide) (fun _ => by simp [halfBytes])
theorem fillWindow (cell : Byte) : Statement (.fillWindow cell) :=
  of_frame _ _ _ rfl (by decide) (fun _ => by simp)
theorem fillProgress (count : Nat) : Statement (.fillProgress count) := of_none _ rfl
theorem fillDone : Statement .fillDone := of_none _ rfl
theorem releaseHazard (cx cy cls : Byte) : Statement (.releaseHazard cx cy cls) :=
  of_frame _ _ _ rfl (by decide) (fun _ => by simp)
theorem readSectors (start count : Byte) : Statement (.readSectors start count) :=
  of_frame _ _ _ rfl (by decide) (fun _ => by simp)
theorem readChanges (count : Byte) : Statement (.readChanges count) :=
  of_frame _ _ _ rfl (by decide) (fun _ => by simp)
theorem fixPose (x y : Word) (theta : Half) (u : Word) : Statement (.fixPose x y theta u) :=
  of_frame _ _ _ rfl (by decide) (fun _ => by simp [wordBytes, halfBytes])
theorem readPose : Statement .readPose :=
  of_frame _ _ _ rfl (by decide) (fun _ => by simp)
theorem setDockPose (form : Byte) (x y : Word) (theta standoff : Half) : Statement (.setDockPose form x y theta standoff) :=
  of_frame _ _ _ rfl (by decide) (fun _ => by simp [wordBytes, halfBytes])
theorem loadSegment (slot : Byte) (fields : SegmentFields) : Statement (.loadSegment slot fields) :=
  of_frame _ _ _ rfl (by decide) (fun _ => by simp [segmentBytes, wordBytes, halfBytes])
theorem clearSegment (slot : Byte) : Statement (.clearSegment slot) :=
  of_frame _ _ _ rfl (by decide) (fun _ => by simp)
theorem loadList (list length passes flags : Byte) (slots : List Byte) : Statement (.loadList list length passes flags slots) :=
  of_frame _ _ _ rfl (by decide) (fun w => by simp [Instr.wf] at w; simp; omega)
theorem readList (list : Byte) : Statement (.readList list) :=
  of_frame _ _ _ rfl (by decide) (fun _ => by simp)
theorem startRoute (mode : Byte) : Statement (.startRoute mode) :=
  of_frame _ _ _ rfl (by decide) (fun _ => by simp)
theorem stopRoute (mode : Byte) : Statement (.stopRoute mode) :=
  of_frame _ _ _ rfl (by decide) (fun _ => by simp)
theorem postPriority (urgent : Byte) : Statement (.postPriority urgent) :=
  of_frame _ _ _ rfl (by decide) (fun _ => by simp)
theorem acknowledge : Statement .acknowledge :=
  of_frame _ _ _ rfl (by decide) (fun _ => by simp)
theorem writeTuning (block : Tuning) : Statement (.writeTuning block) :=
  of_frame _ _ _ rfl (by decide) (fun _ => by simp [tuningBytes, fieldBytes, tuningWidths, tuningList, leBytes])
theorem readTuning : Statement .readTuning :=
  of_frame _ _ _ rfl (by decide) (fun _ => by simp)
theorem writeCalibration (record : Calibration) : Statement (.writeCalibration record) :=
  of_frame _ _ _ rfl (by decide) (fun _ => by simp [calibrationBytes, signedBytes, leBytes])
theorem readCalibration : Statement .readCalibration :=
  of_frame _ _ _ rfl (by decide) (fun _ => by simp)
theorem burnCalibration : Statement .burnCalibration :=
  of_frame _ _ _ rfl (by decide) (fun _ => by simp)
theorem burnDone : Statement .burnDone := of_none _ rfl
theorem readEvents : Statement .readEvents :=
  of_frame _ _ _ rfl (by decide) (fun _ => by simp)
theorem armNotices (set clear : Half) : Statement (.armNotices set clear) :=
  of_frame _ _ _ rfl (by decide) (fun _ => by simp [halfBytes])
theorem armWake (hazard undocked battery : Byte) : Statement (.armWake hazard undocked battery) :=
  of_frame _ _ _ rfl (by decide) (fun _ => by simp)
theorem setPassTimer (tickBase : Half) (initial reload reloadCount : Byte) : Statement (.setPassTimer tickBase initial reload reloadCount) :=
  of_frame _ _ _ rfl (by decide) (fun _ => by simp [halfBytes])
theorem readSense : Statement .readSense :=
  of_frame _ _ _ rfl (by decide) (fun _ => by simp)
theorem park (alarm : Byte) : Statement (.park alarm) :=
  of_frame _ _ _ rfl (by decide) (fun _ => by simp)
theorem softReset : Statement .softReset :=
  of_frame _ _ _ rfl (by decide) (fun _ => by simp)
theorem checkBegin : Statement .checkBegin := of_none _ rfl
theorem checkSample : Statement .checkSample := of_none _ rfl
theorem checkResult (beacon : Beacon) : Statement (.checkResult beacon) := of_none _ rfl
theorem recheckResult : Statement .recheckResult := of_none _ rfl
theorem heldGrantRelease : Statement .heldGrantRelease := of_none _ rfl
theorem txFrameDone : Statement .txFrameDone := of_none _ rfl
theorem rxFrameDiscard (bytes : List Byte) : Statement (.rxFrameDiscard bytes) := of_none _ rfl
theorem rxGapTimeout : Statement .rxGapTimeout := of_none _ rfl
theorem driveReport (bytes : List Byte) (beacon : Beacon) : Statement (.driveReport bytes beacon) := of_none _ rfl
theorem dwellEnd : Statement .dwellEnd := of_none _ rfl
theorem driveWatchExpiry : Statement .driveWatchExpiry := of_none _ rfl
theorem cliffSample (sensor : CliffSensor) (level : Byte) : Statement (.cliffSample sensor level) := of_none _ rfl
theorem lineSample (line : SwitchLine) (asserted : Bool) : Statement (.lineSample line asserted) := of_none _ rfl
theorem bumpWindowTimeout : Statement .bumpWindowTimeout := of_none _ rfl
theorem dckSample (asserted : Bool) : Statement (.dckSample asserted) := of_none _ rfl
theorem contactChange : Statement .contactChange := of_none _ rfl
theorem passTimerReload : Statement .passTimerReload := of_none _ rfl
theorem passTimerExpiry : Statement .passTimerExpiry := of_none _ rfl

end Sys2Proof.Laws.FrameOf
end

