-- ==== Sys2Proof/Laws/Request.lean ====
section
/-! SUPPORT. Laws/Request.lean: what a request does on a ready part, and what raising a cause and waking the
part do. -/

-- One theorem after another: side by side they start more threads than a small machine has room for.
set_option Elab.async false

namespace Sys2Proof.Machine
open Sys2Proof

/-- A part in RUN is not woken. -/
theorem State.wakeIf_of_run (e : Bool) (c : WakeCause) (s : State) (h : s.mo.eu.device = .run) :
    s.wakeIf e c = s := by
  simp [State.wakeIf, State.parked, h]

/-- A request on a ready part (R165 to R167): its owner serves it with the slot empty, and its answer is
placed. -/
theorem State.request_of_ready (i : Instr) (f : Frame) (owner : State → Answer) (s : State) (h : s.Ready)
    (hf : requestFrame i = some f) (hb : f.badEnvelope = false) :
    s.request i owner = .next (State.place (owner
      { s with pp := { s.pp with slot := none, miso := List.replicate (3 + f.body.length) 0 } })) := by
  simp [State.request, hf, h.idlePort, dealWith, hb, State.takeFrame, State.frameWake,
    State.sweepHolds, h.swept, State.misoZeros, State.wakeIf, State.parked, h.running]

/-- A frame with a body of at most 1024 bytes and its own length has a good envelope (R164). -/
theorem Frame.mk'_envelope (code : Byte) (body : List Byte) (h : body.length ≤ 1024) :
    (Frame.mk' code body).badEnvelope = false := by
  simp [Frame.badEnvelope, Frame.mk']
  omega

/-- Raising a cause sets its flag (R174). -/
theorem EventUnit.flagged_raise_same (c : Cause) (eu : EventUnit) : (eu.raise c).flagged c = true := by
  cases c <;> simp [EventUnit.raise, EventUnit.flagged, Cause.bit, Cause.number]

/-- Raising a cause leaves every flag that stood (R174). -/
theorem EventUnit.flagged_raise_of_flagged (c d : Cause) (eu : EventUnit) (h : eu.flagged d = true) :
    (eu.raise c).flagged d = true := by
  simp only [EventUnit.flagged] at h
  simp [EventUnit.raise, EventUnit.flagged, h]

/-- What a wake leaves (R184): RUN, the record, the guard ARMED with its sensors CLEAR and no window. -/
theorem State.wake_leaves (c : WakeCause) (s : State) :
    (s.wake c).mo.eu.device = .run ∧ (s.wake c).mo.eu.woke = some c ∧
    (s.wake c).mo.hg = .armed (freeLevels s.moments) ∧ (s.wake c).fm = s.fm ∧ (s.wake c).mo.re = s.mo.re ∧
    (s.wake c).moments = s.moments + 1 := by
  unfold State.wake State.wakeWith startWatch
  split <;> exact ⟨rfl, rfl, rfl, rfl, rfl, rfl⟩

end Sys2Proof.Machine
end

