-- ==== Sys2Proof/Laws/State.lean ====
section
/-! SUPPORT. Laws/State.lean: what each update of the state leaves as it was, field by field, so that no later
proof unfolds a record update. -/

-- One theorem after another: side by side they start more threads than a small machine has room for.
set_option Elab.async false

namespace Sys2Proof.Machine
open Sys2Proof

/-! ## Updates of the motion blocks -/

section motion
variable (m : Motion)

@[simp] theorem Motion.raise_pu (c : Cause) : (Motion.raise c m).pu = m.pu := rfl
@[simp] theorem Motion.raise_cu (c : Cause) : (Motion.raise c m).cu = m.cu := rfl
@[simp] theorem Motion.raise_re (c : Cause) : (Motion.raise c m).re = m.re := rfl
@[simp] theorem Motion.raise_dp (c : Cause) : (Motion.raise c m).dp = m.dp := rfl
@[simp] theorem Motion.raise_hg (c : Cause) : (Motion.raise c m).hg = m.hg := rfl
@[simp] theorem Motion.raise_du (c : Cause) : (Motion.raise c m).du = m.du := rfl

@[simp] theorem Motion.updSeg_pu (f : SegRun → SegRun) : (Motion.updSeg f m).pu = m.pu := rfl
@[simp] theorem Motion.updSeg_cu (f : SegRun → SegRun) : (Motion.updSeg f m).cu = m.cu := rfl
@[simp] theorem Motion.updSeg_dp (f : SegRun → SegRun) : (Motion.updSeg f m).dp = m.dp := rfl
@[simp] theorem Motion.updSeg_hg (f : SegRun → SegRun) : (Motion.updSeg f m).hg = m.hg := rfl
@[simp] theorem Motion.updSeg_du (f : SegRun → SegRun) : (Motion.updSeg f m).du = m.du := rfl
@[simp] theorem Motion.updSeg_eu (f : SegRun → SegRun) : (Motion.updSeg f m).eu = m.eu := rfl

@[simp] theorem Motion.setTodo_pu (t : Todo) : (Motion.setTodo t m).pu = m.pu := rfl
@[simp] theorem Motion.setTodo_cu (t : Todo) : (Motion.setTodo t m).cu = m.cu := rfl
@[simp] theorem Motion.setTodo_dp (t : Todo) : (Motion.setTodo t m).dp = m.dp := rfl
@[simp] theorem Motion.setTodo_hg (t : Todo) : (Motion.setTodo t m).hg = m.hg := rfl
@[simp] theorem Motion.setTodo_du (t : Todo) : (Motion.setTodo t m).du = m.du := rfl
@[simp] theorem Motion.setTodo_eu (t : Todo) : (Motion.setTodo t m).eu = m.eu := rfl

@[simp] theorem Motion.reachStage_pu (n : Nat) : (Motion.reachStage n m).pu = m.pu := rfl
@[simp] theorem Motion.reachStage_cu (n : Nat) : (Motion.reachStage n m).cu = m.cu := rfl
@[simp] theorem Motion.reachStage_dp (n : Nat) : (Motion.reachStage n m).dp = m.dp := rfl
@[simp] theorem Motion.reachStage_hg (n : Nat) : (Motion.reachStage n m).hg = m.hg := rfl
@[simp] theorem Motion.reachStage_du (n : Nat) : (Motion.reachStage n m).du = m.du := rfl
@[simp] theorem Motion.reachStage_eu (n : Nat) : (Motion.reachStage n m).eu = m.eu := rfl

@[simp] theorem Motion.setMiss_pu (n : Nat) : (Motion.setMiss n m).pu = m.pu := rfl
@[simp] theorem Motion.setMiss_cu (n : Nat) : (Motion.setMiss n m).cu = m.cu := rfl
@[simp] theorem Motion.setMiss_re (n : Nat) : (Motion.setMiss n m).re = m.re := rfl
@[simp] theorem Motion.setMiss_hg (n : Nat) : (Motion.setMiss n m).hg = m.hg := rfl
@[simp] theorem Motion.setMiss_du (n : Nat) : (Motion.setMiss n m).du = m.du := rfl
@[simp] theorem Motion.setMiss_eu (n : Nat) : (Motion.setMiss n m).eu = m.eu := rfl

@[simp] theorem Motion.setSettle_pu (n : Nat) : (Motion.setSettle n m).pu = m.pu := rfl
@[simp] theorem Motion.setSettle_cu (n : Nat) : (Motion.setSettle n m).cu = m.cu := rfl
@[simp] theorem Motion.setSettle_re (n : Nat) : (Motion.setSettle n m).re = m.re := rfl
@[simp] theorem Motion.setSettle_hg (n : Nat) : (Motion.setSettle n m).hg = m.hg := rfl
@[simp] theorem Motion.setSettle_du (n : Nat) : (Motion.setSettle n m).du = m.du := rfl
@[simp] theorem Motion.setSettle_eu (n : Nat) : (Motion.setSettle n m).eu = m.eu := rfl

@[simp] theorem Motion.setLatch_pu (l : BatteryLatch) : (Motion.setLatch l m).pu = m.pu := rfl
@[simp] theorem Motion.setLatch_cu (l : BatteryLatch) : (Motion.setLatch l m).cu = m.cu := rfl
@[simp] theorem Motion.setLatch_dp (l : BatteryLatch) : (Motion.setLatch l m).dp = m.dp := rfl
@[simp] theorem Motion.setLatch_hg (l : BatteryLatch) : (Motion.setLatch l m).hg = m.hg := rfl
@[simp] theorem Motion.setLatch_du (l : BatteryLatch) : (Motion.setLatch l m).du = m.du := rfl
@[simp] theorem Motion.setLatch_eu (l : BatteryLatch) : (Motion.setLatch l m).eu = m.eu := rfl

@[simp] theorem Motion.dropFront_pu (l : List Check) : (Motion.dropFront l m).pu = m.pu := rfl
@[simp] theorem Motion.dropFront_re (l : List Check) : (Motion.dropFront l m).re = m.re := rfl
@[simp] theorem Motion.dropFront_dp (l : List Check) : (Motion.dropFront l m).dp = m.dp := rfl
@[simp] theorem Motion.dropFront_hg (l : List Check) : (Motion.dropFront l m).hg = m.hg := rfl
@[simp] theorem Motion.dropFront_du (l : List Check) : (Motion.dropFront l m).du = m.du := rfl
@[simp] theorem Motion.dropFront_eu (l : List Check) : (Motion.dropFront l m).eu = m.eu := rfl

@[simp] theorem setDockPhase_pu (p : DockPhase) : (setDockPhase p m).pu = m.pu := rfl
@[simp] theorem setDockPhase_cu (p : DockPhase) : (setDockPhase p m).cu = m.cu := rfl
@[simp] theorem setDockPhase_re (p : DockPhase) : (setDockPhase p m).re = m.re := rfl
@[simp] theorem setDockPhase_dp (p : DockPhase) : (setDockPhase p m).dp = m.dp := rfl
@[simp] theorem setDockPhase_hg (p : DockPhase) : (setDockPhase p m).hg = m.hg := rfl
@[simp] theorem setDockPhase_eu (p : DockPhase) : (setDockPhase p m).eu = m.eu := rfl

@[simp] theorem setGrantState_pu (g : GrantState) : (setGrantState g m).pu = m.pu := rfl
@[simp] theorem setGrantState_cu (g : GrantState) : (setGrantState g m).cu = m.cu := rfl
@[simp] theorem setGrantState_re (g : GrantState) : (setGrantState g m).re = m.re := rfl
@[simp] theorem setGrantState_hg (g : GrantState) : (setGrantState g m).hg = m.hg := rfl
@[simp] theorem setGrantState_du (g : GrantState) : (setGrantState g m).du = m.du := rfl
@[simp] theorem setGrantState_eu (g : GrantState) : (setGrantState g m).eu = m.eu := rfl

@[simp] theorem dropTrims_pu : (dropTrims m).pu = m.pu := rfl
@[simp] theorem dropTrims_cu : (dropTrims m).cu = m.cu := rfl
@[simp] theorem dropTrims_re : (dropTrims m).re = m.re := rfl
@[simp] theorem dropTrims_hg : (dropTrims m).hg = m.hg := rfl
@[simp] theorem dropTrims_du : (dropTrims m).du = m.du := rfl
@[simp] theorem dropTrims_eu : (dropTrims m).eu = m.eu := rfl

@[simp] theorem withdrawCheck_pu : (withdrawCheck m).pu = m.pu := rfl
@[simp] theorem withdrawCheck_re : (withdrawCheck m).re = m.re := rfl
@[simp] theorem withdrawCheck_dp : (withdrawCheck m).dp = m.dp := rfl
@[simp] theorem withdrawCheck_hg : (withdrawCheck m).hg = m.hg := rfl
@[simp] theorem withdrawCheck_du : (withdrawCheck m).du = m.du := rfl
@[simp] theorem withdrawCheck_eu : (withdrawCheck m).eu = m.eu := rfl

@[simp] theorem dropCorridor_pu : (dropCorridor m).pu = m.pu := rfl
@[simp] theorem dropCorridor_re : (dropCorridor m).re = m.re := rfl
@[simp] theorem dropCorridor_dp : (dropCorridor m).dp = m.dp := rfl
@[simp] theorem dropCorridor_hg : (dropCorridor m).hg = m.hg := rfl
@[simp] theorem dropCorridor_du : (dropCorridor m).du = m.du := rfl
@[simp] theorem dropCorridor_eu : (dropCorridor m).eu = m.eu := rfl

@[simp] theorem loseLink_cu (l : LinkState) : (loseLink l m).cu = m.cu := rfl
@[simp] theorem loseLink_re (l : LinkState) : (loseLink l m).re = m.re := rfl
@[simp] theorem loseLink_hg (l : LinkState) : (loseLink l m).hg = m.hg := rfl
@[simp] theorem loseLink_du (l : LinkState) : (loseLink l m).du = m.du := rfl
@[simp] theorem loseLink_eu (l : LinkState) : (loseLink l m).eu = m.eu := rfl

@[simp] theorem makeFrame_pu (f : DriveFrame) : (makeFrame f m).pu = m.pu := by
  unfold makeFrame; split <;> rfl
@[simp] theorem makeFrame_cu (f : DriveFrame) : (makeFrame f m).cu = m.cu := by
  unfold makeFrame; split <;> rfl
@[simp] theorem makeFrame_re (f : DriveFrame) : (makeFrame f m).re = m.re := by
  unfold makeFrame; split <;> rfl
@[simp] theorem makeFrame_hg (f : DriveFrame) : (makeFrame f m).hg = m.hg := by
  unfold makeFrame; split <;> rfl
@[simp] theorem makeFrame_du (f : DriveFrame) : (makeFrame f m).du = m.du := by
  unfold makeFrame; split <;> rfl
@[simp] theorem makeFrame_eu (f : DriveFrame) : (makeFrame f m).eu = m.eu := by
  unfold makeFrame; split <;> rfl

@[simp] theorem nextFrame_pu : (nextFrame m).pu = m.pu := by
  unfold nextFrame; split <;> rfl
@[simp] theorem nextFrame_cu : (nextFrame m).cu = m.cu := by
  unfold nextFrame; split <;> rfl
@[simp] theorem nextFrame_re : (nextFrame m).re = m.re := by
  unfold nextFrame; split <;> rfl
@[simp] theorem nextFrame_hg : (nextFrame m).hg = m.hg := by
  unfold nextFrame; split <;> rfl
@[simp] theorem nextFrame_du : (nextFrame m).du = m.du := by
  unfold nextFrame; split <;> rfl
@[simp] theorem nextFrame_eu : (nextFrame m).eu = m.eu := by
  unfold nextFrame; split <;> rfl

@[simp] theorem endGrant_pu : (endGrant m).pu = m.pu := rfl
@[simp] theorem endGrant_re : (endGrant m).re = m.re := rfl
@[simp] theorem endGrant_hg : (endGrant m).hg = m.hg := rfl
@[simp] theorem endGrant_du : (endGrant m).du = m.du := rfl
@[simp] theorem endGrant_eu : (endGrant m).eu = m.eu := rfl

@[simp] theorem startWatch_pu (env : Env) : (startWatch env m).pu = m.pu := by
  unfold startWatch; split <;> rfl
@[simp] theorem startWatch_cu (env : Env) : (startWatch env m).cu = m.cu := by
  unfold startWatch; split <;> rfl
@[simp] theorem startWatch_re (env : Env) : (startWatch env m).re = m.re := by
  unfold startWatch; split <;> rfl
@[simp] theorem startWatch_hg (env : Env) : (startWatch env m).hg = m.hg := by
  unfold startWatch; split <;> rfl
@[simp] theorem startWatch_du (env : Env) : (startWatch env m).du = m.du := by
  unfold startWatch; split <;> rfl
@[simp] theorem startWatch_eu (env : Env) : (startWatch env m).eu = m.eu := by
  unfold startWatch; split <;> rfl

@[simp] theorem releaseGuard_pu : (releaseGuard m).pu = m.pu := by
  unfold releaseGuard; split <;> rfl
@[simp] theorem releaseGuard_cu : (releaseGuard m).cu = m.cu := by
  unfold releaseGuard; split <;> rfl
@[simp] theorem releaseGuard_re : (releaseGuard m).re = m.re := by
  unfold releaseGuard; split <;> rfl
@[simp] theorem releaseGuard_dp : (releaseGuard m).dp = m.dp := by
  unfold releaseGuard; split <;> rfl
@[simp] theorem releaseGuard_du : (releaseGuard m).du = m.du := by
  unfold releaseGuard; split <;> rfl
@[simp] theorem releaseGuard_eu : (releaseGuard m).eu = m.eu := by
  unfold releaseGuard; split <;> rfl

@[simp] theorem askStop_pu (r : StopReason) : (askStop r m).pu = m.pu := by
  unfold askStop; split <;> simp
@[simp] theorem askStop_re (r : StopReason) : (askStop r m).re = m.re := by
  unfold askStop; split <;> simp
@[simp] theorem askStop_hg (r : StopReason) : (askStop r m).hg = m.hg := by
  unfold askStop; split <;> simp
@[simp] theorem askStop_du (r : StopReason) : (askStop r m).du = m.du := by
  unfold askStop; split <;> simp
@[simp] theorem askStop_eu (r : StopReason) : (askStop r m).eu = m.eu := by
  unfold askStop; split <;> simp

@[simp] theorem sendGrant_pu (g : ReadyGrant) : (sendGrant g m).pu = m.pu := by
  simp [sendGrant]
@[simp] theorem sendGrant_hg (g : ReadyGrant) : (sendGrant g m).hg = m.hg := by
  simp [sendGrant]
@[simp] theorem sendGrant_du (g : ReadyGrant) : (sendGrant g m).du = m.du := by
  simp [sendGrant]
@[simp] theorem sendGrant_eu (g : ReadyGrant) : (sendGrant g m).eu = m.eu := by
  simp [sendGrant]

@[simp] theorem trimAmount_pu (a : Int) : (trimAmount a m).pu = m.pu := by
  unfold trimAmount; split <;> simp
@[simp] theorem trimAmount_re (a : Int) : (trimAmount a m).re = m.re := by
  unfold trimAmount; split <;> simp
@[simp] theorem trimAmount_hg (a : Int) : (trimAmount a m).hg = m.hg := by
  unfold trimAmount; split <;> simp
@[simp] theorem trimAmount_du (a : Int) : (trimAmount a m).du = m.du := by
  unfold trimAmount; split <;> simp
@[simp] theorem trimAmount_eu (a : Int) : (trimAmount a m).eu = m.eu := by
  unfold trimAmount; split <;> simp

@[simp] theorem trimNudge_pu (a : Int) : (trimNudge a m).pu = m.pu := by
  unfold trimNudge; split <;> simp
@[simp] theorem trimNudge_cu (a : Int) : (trimNudge a m).cu = m.cu := by
  unfold trimNudge; split <;> simp
@[simp] theorem trimNudge_re (a : Int) : (trimNudge a m).re = m.re := by
  unfold trimNudge; split <;> simp
@[simp] theorem trimNudge_hg (a : Int) : (trimNudge a m).hg = m.hg := by
  unfold trimNudge; split <;> simp
@[simp] theorem trimNudge_du (a : Int) : (trimNudge a m).du = m.du := by
  unfold trimNudge; split <;> simp
@[simp] theorem trimNudge_eu (a : Int) : (trimNudge a m).eu = m.eu := by
  unfold trimNudge; split <;> simp

@[simp] theorem askCheck_pu (env : Env) (q : CheckReq) : (askCheck env q m).pu = m.pu := by
  unfold askCheck; split <;> rfl
@[simp] theorem askCheck_re (env : Env) (q : CheckReq) : (askCheck env q m).re = m.re := by
  unfold askCheck; split <;> rfl
@[simp] theorem askCheck_dp (env : Env) (q : CheckReq) : (askCheck env q m).dp = m.dp := by
  unfold askCheck; split <;> rfl
@[simp] theorem askCheck_hg (env : Env) (q : CheckReq) : (askCheck env q m).hg = m.hg := by
  unfold askCheck; split <;> rfl
@[simp] theorem askCheck_du (env : Env) (q : CheckReq) : (askCheck env q m).du = m.du := by
  unfold askCheck; split <;> rfl
@[simp] theorem askCheck_eu (env : Env) (q : CheckReq) : (askCheck env q m).eu = m.eu := by
  unfold askCheck; split <;> rfl

@[simp] theorem beginWaiting_pu (env : Env) : (beginWaiting env m).pu = m.pu := by
  unfold beginWaiting; repeat' split
  all_goals rfl
@[simp] theorem beginWaiting_re (env : Env) : (beginWaiting env m).re = m.re := by
  unfold beginWaiting; repeat' split
  all_goals rfl
@[simp] theorem beginWaiting_dp (env : Env) : (beginWaiting env m).dp = m.dp := by
  unfold beginWaiting; repeat' split
  all_goals rfl
@[simp] theorem beginWaiting_hg (env : Env) : (beginWaiting env m).hg = m.hg := by
  unfold beginWaiting; repeat' split
  all_goals rfl
@[simp] theorem beginWaiting_du (env : Env) : (beginWaiting env m).du = m.du := by
  unfold beginWaiting; repeat' split
  all_goals rfl
@[simp] theorem beginWaiting_eu (env : Env) : (beginWaiting env m).eu = m.eu := by
  unfold beginWaiting; repeat' split
  all_goals rfl

@[simp] theorem sampleHeld_pu (fm : FloorMap) : (sampleHeld fm m).pu = m.pu := by
  unfold sampleHeld; repeat' split
  all_goals rfl
@[simp] theorem sampleHeld_re (fm : FloorMap) : (sampleHeld fm m).re = m.re := by
  unfold sampleHeld; repeat' split
  all_goals rfl
@[simp] theorem sampleHeld_dp (fm : FloorMap) : (sampleHeld fm m).dp = m.dp := by
  unfold sampleHeld; repeat' split
  all_goals rfl
@[simp] theorem sampleHeld_hg (fm : FloorMap) : (sampleHeld fm m).hg = m.hg := by
  unfold sampleHeld; repeat' split
  all_goals rfl
@[simp] theorem sampleHeld_du (fm : FloorMap) : (sampleHeld fm m).du = m.du := by
  unfold sampleHeld; repeat' split
  all_goals rfl
@[simp] theorem sampleHeld_eu (fm : FloorMap) : (sampleHeld fm m).eu = m.eu := by
  unfold sampleHeld; repeat' split
  all_goals rfl

@[simp] theorem restartReached_pu (c : CellIx) : (restartReached c m).pu = m.pu := by
  unfold restartReached; repeat' split
  all_goals rfl
@[simp] theorem restartReached_re (c : CellIx) : (restartReached c m).re = m.re := by
  unfold restartReached; repeat' split
  all_goals rfl
@[simp] theorem restartReached_dp (c : CellIx) : (restartReached c m).dp = m.dp := by
  unfold restartReached; repeat' split
  all_goals rfl
@[simp] theorem restartReached_hg (c : CellIx) : (restartReached c m).hg = m.hg := by
  unfold restartReached; repeat' split
  all_goals rfl
@[simp] theorem restartReached_du (c : CellIx) : (restartReached c m).du = m.du := by
  unfold restartReached; repeat' split
  all_goals rfl
@[simp] theorem restartReached_eu (c : CellIx) : (restartReached c m).eu = m.eu := by
  unfold restartReached; repeat' split
  all_goals rfl

@[simp] theorem askRecheck_pu (env : Env) (c : CellIx) (r : CellRec) :
    (askRecheck env c r m).pu = m.pu := by
  unfold askRecheck; repeat' split
  all_goals first | rfl | simp
@[simp] theorem askRecheck_re (env : Env) (c : CellIx) (r : CellRec) :
    (askRecheck env c r m).re = m.re := by
  unfold askRecheck; repeat' split
  all_goals first | rfl | simp
@[simp] theorem askRecheck_dp (env : Env) (c : CellIx) (r : CellRec) :
    (askRecheck env c r m).dp = m.dp := by
  unfold askRecheck; repeat' split
  all_goals first | rfl | simp
@[simp] theorem askRecheck_hg (env : Env) (c : CellIx) (r : CellRec) :
    (askRecheck env c r m).hg = m.hg := by
  unfold askRecheck; repeat' split
  all_goals first | rfl | simp
@[simp] theorem askRecheck_du (env : Env) (c : CellIx) (r : CellRec) :
    (askRecheck env c r m).du = m.du := by
  unfold askRecheck; repeat' split
  all_goals first | rfl | simp
@[simp] theorem askRecheck_eu (env : Env) (c : CellIx) (r : CellRec) :
    (askRecheck env c r m).eu = m.eu := by
  unfold askRecheck; repeat' split
  all_goals first | rfl | simp

@[simp] theorem takeMapChange_pu (env : Env) (c : CellIx) (r : CellRec) :
    (takeMapChange env c r m).pu = m.pu := by
  simp [takeMapChange]
@[simp] theorem takeMapChange_re (env : Env) (c : CellIx) (r : CellRec) :
    (takeMapChange env c r m).re = m.re := by
  simp [takeMapChange]
@[simp] theorem takeMapChange_dp (env : Env) (c : CellIx) (r : CellRec) :
    (takeMapChange env c r m).dp = m.dp := by
  simp [takeMapChange]
@[simp] theorem takeMapChange_hg (env : Env) (c : CellIx) (r : CellRec) :
    (takeMapChange env c r m).hg = m.hg := by
  simp [takeMapChange]
@[simp] theorem takeMapChange_du (env : Env) (c : CellIx) (r : CellRec) :
    (takeMapChange env c r m).du = m.du := by
  simp [takeMapChange]
@[simp] theorem takeMapChange_eu (env : Env) (c : CellIx) (r : CellRec) :
    (takeMapChange env c r m).eu = m.eu := by
  simp [takeMapChange]

@[simp] theorem Motion.latch_pu : (Motion.latch m).pu = m.pu := rfl
@[simp] theorem Motion.latch_cu : (Motion.latch m).cu = m.cu := rfl
@[simp] theorem Motion.latch_re : (Motion.latch m).re = m.re := rfl
@[simp] theorem Motion.latch_dp : (Motion.latch m).dp = m.dp := rfl
@[simp] theorem Motion.latch_du : (Motion.latch m).du = m.du := rfl
@[simp] theorem Motion.latch_eu : (Motion.latch m).eu = m.eu := rfl

end motion

/-! ## Updates of the whole part -/

section whole
variable (s : State)

@[simp] theorem State.engine_fm (f : Env → Motion → Motion) : (State.engine f s).fm = s.fm := rfl
@[simp] theorem State.engine_cs (f : Env → Motion → Motion) : (State.engine f s).cs = s.cs := rfl
@[simp] theorem State.engine_tun (f : Env → Motion → Motion) : (State.engine f s).tun = s.tun := rfl
@[simp] theorem State.engine_pp (f : Env → Motion → Motion) : (State.engine f s).pp = s.pp := rfl
@[simp] theorem State.engine_moments (f : Env → Motion → Motion) :
    (State.engine f s).moments = s.moments := rfl
@[simp] theorem State.engine_pending (f : Env → Motion → Motion) :
    (State.engine f s).pending = s.pending := rfl

@[simp] theorem State.setRe_fm (re : RouteEngine) : (State.setRe re s).fm = s.fm := rfl
@[simp] theorem State.setRe_cs (re : RouteEngine) : (State.setRe re s).cs = s.cs := rfl
@[simp] theorem State.setRe_tun (re : RouteEngine) : (State.setRe re s).tun = s.tun := rfl
@[simp] theorem State.setRe_pp (re : RouteEngine) : (State.setRe re s).pp = s.pp := rfl
@[simp] theorem State.setRe_moments (re : RouteEngine) : (State.setRe re s).moments = s.moments := rfl
@[simp] theorem State.setRe_pending (re : RouteEngine) : (State.setRe re s).pending = s.pending := rfl

@[simp] theorem State.misoZeros_fm (n : Nat) : (State.misoZeros n s).fm = s.fm := rfl
@[simp] theorem State.misoZeros_cs (n : Nat) : (State.misoZeros n s).cs = s.cs := rfl
@[simp] theorem State.misoZeros_tun (n : Nat) : (State.misoZeros n s).tun = s.tun := rfl
@[simp] theorem State.misoZeros_mo (n : Nat) : (State.misoZeros n s).mo = s.mo := rfl
@[simp] theorem State.misoZeros_moments (n : Nat) : (State.misoZeros n s).moments = s.moments := rfl
@[simp] theorem State.misoZeros_pending (n : Nat) : (State.misoZeros n s).pending = s.pending := rfl

@[simp] theorem State.bufferFrame_fm (f : Frame) : (State.bufferFrame f s).fm = s.fm := rfl
@[simp] theorem State.bufferFrame_cs (f : Frame) : (State.bufferFrame f s).cs = s.cs := rfl
@[simp] theorem State.bufferFrame_tun (f : Frame) : (State.bufferFrame f s).tun = s.tun := rfl
@[simp] theorem State.bufferFrame_mo (f : Frame) : (State.bufferFrame f s).mo = s.mo := rfl
@[simp] theorem State.bufferFrame_moments (f : Frame) : (State.bufferFrame f s).moments = s.moments := rfl
@[simp] theorem State.bufferFrame_pending (f : Frame) : (State.bufferFrame f s).pending = s.pending := rfl

@[simp] theorem State.wakeWith_fm (c : WakeCause) (l : LineLevels) :
    (State.wakeWith c l s).fm = s.fm := rfl
@[simp] theorem State.wakeWith_cs (c : WakeCause) (l : LineLevels) :
    (State.wakeWith c l s).cs = s.cs := rfl
@[simp] theorem State.wakeWith_tun (c : WakeCause) (l : LineLevels) :
    (State.wakeWith c l s).tun = s.tun := rfl
@[simp] theorem State.wakeWith_pp (c : WakeCause) (l : LineLevels) :
    (State.wakeWith c l s).pp = s.pp := rfl
@[simp] theorem State.wakeWith_pending (c : WakeCause) (l : LineLevels) :
    (State.wakeWith c l s).pending = s.pending := rfl

@[simp] theorem State.wake_fm (c : WakeCause) : (State.wake c s).fm = s.fm := rfl
@[simp] theorem State.wake_cs (c : WakeCause) : (State.wake c s).cs = s.cs := rfl
@[simp] theorem State.wake_tun (c : WakeCause) : (State.wake c s).tun = s.tun := rfl
@[simp] theorem State.wake_pp (c : WakeCause) : (State.wake c s).pp = s.pp := rfl
@[simp] theorem State.wake_pending (c : WakeCause) : (State.wake c s).pending = s.pending := rfl

@[simp] theorem State.wakeIf_fm (b : Bool) (c : WakeCause) : (State.wakeIf b c s).fm = s.fm := by
  unfold State.wakeIf; split <;> rfl
@[simp] theorem State.wakeIf_cs (b : Bool) (c : WakeCause) : (State.wakeIf b c s).cs = s.cs := by
  unfold State.wakeIf; split <;> rfl
@[simp] theorem State.wakeIf_tun (b : Bool) (c : WakeCause) : (State.wakeIf b c s).tun = s.tun := by
  unfold State.wakeIf; split <;> rfl
@[simp] theorem State.wakeIf_pp (b : Bool) (c : WakeCause) : (State.wakeIf b c s).pp = s.pp := by
  unfold State.wakeIf; split <;> rfl
@[simp] theorem State.wakeIf_pending (b : Bool) (c : WakeCause) :
    (State.wakeIf b c s).pending = s.pending := by
  unfold State.wakeIf; split <;> rfl

@[simp] theorem State.takeFrame_fm : (State.takeFrame s).fm = s.fm := by
  simp [State.takeFrame, State.frameWake]
@[simp] theorem State.takeFrame_cs : (State.takeFrame s).cs = s.cs := by
  simp [State.takeFrame, State.frameWake]
@[simp] theorem State.takeFrame_tun : (State.takeFrame s).tun = s.tun := by
  simp [State.takeFrame, State.frameWake]
@[simp] theorem State.takeFrame_pending : (State.takeFrame s).pending = s.pending := by
  simp [State.takeFrame, State.frameWake]

@[simp] theorem State.tick_fm : (State.tick s).fm = s.fm := rfl
@[simp] theorem State.tick_tun : (State.tick s).tun = s.tun := rfl
@[simp] theorem State.tick_pp : (State.tick s).pp = s.pp := rfl
@[simp] theorem State.tick_moments : (State.tick s).moments = s.moments := rfl
@[simp] theorem State.tick_pending : (State.tick s).pending = s.pending := rfl

@[simp] theorem State.handChange_fm (h : Bool) (c : CellIx) (o n : CellRec) :
    (State.handChange h c o n s).fm = s.fm := by
  unfold State.handChange; split <;> rfl
@[simp] theorem State.handChange_cs (h : Bool) (c : CellIx) (o n : CellRec) :
    (State.handChange h c o n s).cs = s.cs := by
  unfold State.handChange; split <;> rfl
@[simp] theorem State.handChange_tun (h : Bool) (c : CellIx) (o n : CellRec) :
    (State.handChange h c o n s).tun = s.tun := by
  unfold State.handChange; split <;> rfl
@[simp] theorem State.handChange_pp (h : Bool) (c : CellIx) (o n : CellRec) :
    (State.handChange h c o n s).pp = s.pp := by
  unfold State.handChange; split <;> rfl
@[simp] theorem State.handChange_moments (h : Bool) (c : CellIx) (o n : CellRec) :
    (State.handChange h c o n s).moments = s.moments := by
  unfold State.handChange; split <;> rfl
@[simp] theorem State.handChange_pending (h : Bool) (c : CellIx) (o n : CellRec) :
    (State.handChange h c o n s).pending = s.pending := by
  unfold State.handChange; split <;> rfl

@[simp] theorem State.changeCell_cs (h : Bool) (c : CellIx) (n : CellRec) :
    (State.changeCell h c n s).cs = s.cs := by
  simp [State.changeCell]
@[simp] theorem State.changeCell_tun (h : Bool) (c : CellIx) (n : CellRec) :
    (State.changeCell h c n s).tun = s.tun := by
  simp [State.changeCell]
@[simp] theorem State.changeCell_pp (h : Bool) (c : CellIx) (n : CellRec) :
    (State.changeCell h c n s).pp = s.pp := by
  simp [State.changeCell]
@[simp] theorem State.changeCell_moments (h : Bool) (c : CellIx) (n : CellRec) :
    (State.changeCell h c n s).moments = s.moments := by
  simp [State.changeCell]
@[simp] theorem State.changeCell_pending (h : Bool) (c : CellIx) (n : CellRec) :
    (State.changeCell h c n s).pending = s.pending := by
  simp [State.changeCell]

@[simp] theorem State.plannerWrite_cs (h : Bool) (c : CellIx) (r : CellRec) :
    (State.plannerWrite h c r s).cs = s.cs := by
  unfold State.plannerWrite; split <;> simp
@[simp] theorem State.plannerWrite_tun (h : Bool) (c : CellIx) (r : CellRec) :
    (State.plannerWrite h c r s).tun = s.tun := by
  unfold State.plannerWrite; split <;> simp
@[simp] theorem State.plannerWrite_pp (h : Bool) (c : CellIx) (r : CellRec) :
    (State.plannerWrite h c r s).pp = s.pp := by
  unfold State.plannerWrite; split <;> simp
@[simp] theorem State.plannerWrite_moments (h : Bool) (c : CellIx) (r : CellRec) :
    (State.plannerWrite h c r s).moments = s.moments := by
  unfold State.plannerWrite; split <;> simp
@[simp] theorem State.plannerWrite_pending (h : Bool) (c : CellIx) (r : CellRec) :
    (State.plannerWrite h c r s).pending = s.pending := by
  unfold State.plannerWrite; split <;> simp

@[simp] theorem State.queueEntry_cs (k : SensedMark) (o n : CellClass) :
    (State.queueEntry k o n s).cs = s.cs := by
  unfold State.queueEntry; repeat' split
  all_goals rfl
@[simp] theorem State.queueEntry_tun (k : SensedMark) (o n : CellClass) :
    (State.queueEntry k o n s).tun = s.tun := by
  unfold State.queueEntry; repeat' split
  all_goals rfl
@[simp] theorem State.queueEntry_pp (k : SensedMark) (o n : CellClass) :
    (State.queueEntry k o n s).pp = s.pp := by
  unfold State.queueEntry; repeat' split
  all_goals rfl
@[simp] theorem State.queueEntry_moments (k : SensedMark) (o n : CellClass) :
    (State.queueEntry k o n s).moments = s.moments := by
  unfold State.queueEntry; repeat' split
  all_goals rfl
@[simp] theorem State.queueEntry_pending (k : SensedMark) (o n : CellClass) :
    (State.queueEntry k o n s).pending = s.pending := by
  unfold State.queueEntry; repeat' split
  all_goals rfl

@[simp] theorem State.sensedMark_cs (k : SensedMark) : (State.sensedMark k s).cs = s.cs := by
  simp only [State.sensedMark, State.handChange_cs]; split <;> simp
@[simp] theorem State.sensedMark_tun (k : SensedMark) : (State.sensedMark k s).tun = s.tun := by
  simp only [State.sensedMark, State.handChange_tun]; split <;> simp
@[simp] theorem State.sensedMark_pp (k : SensedMark) : (State.sensedMark k s).pp = s.pp := by
  simp only [State.sensedMark, State.handChange_pp]; split <;> simp
@[simp] theorem State.sensedMark_moments (k : SensedMark) :
    (State.sensedMark k s).moments = s.moments := by
  simp only [State.sensedMark, State.handChange_moments]; split <;> simp
@[simp] theorem State.sensedMark_pending (k : SensedMark) :
    (State.sensedMark k s).pending = s.pending := by
  simp only [State.sensedMark, State.handChange_pending]; split <;> simp

@[simp] theorem State.markIf_cs (k : Option SensedMark) : (State.markIf k s).cs = s.cs := by
  unfold State.markIf; split <;> simp
@[simp] theorem State.markIf_tun (k : Option SensedMark) : (State.markIf k s).tun = s.tun := by
  unfold State.markIf; split <;> simp
@[simp] theorem State.markIf_pp (k : Option SensedMark) : (State.markIf k s).pp = s.pp := by
  unfold State.markIf; split <;> simp
@[simp] theorem State.markIf_moments (k : Option SensedMark) :
    (State.markIf k s).moments = s.moments := by
  unfold State.markIf; split <;> simp
@[simp] theorem State.markIf_pending (k : Option SensedMark) :
    (State.markIf k s).pending = s.pending := by
  unfold State.markIf; split <;> simp

@[simp] theorem State.setBeacon_fm (b : Beacon) : (State.setBeacon b s).fm = s.fm := rfl
@[simp] theorem State.setBeacon_cs (b : Beacon) : (State.setBeacon b s).cs = s.cs := rfl
@[simp] theorem State.setBeacon_tun (b : Beacon) : (State.setBeacon b s).tun = s.tun := rfl
@[simp] theorem State.setBeacon_pp (b : Beacon) : (State.setBeacon b s).pp = s.pp := rfl
@[simp] theorem State.setBeacon_moments (b : Beacon) : (State.setBeacon b s).moments = s.moments := rfl
@[simp] theorem State.setBeacon_pending (b : Beacon) : (State.setBeacon b s).pending = s.pending := rfl

@[simp] theorem State.holdLine_fm (l : SwitchLine) (v : Bool) : (State.holdLine l v s).fm = s.fm := rfl
@[simp] theorem State.holdLine_cs (l : SwitchLine) (v : Bool) : (State.holdLine l v s).cs = s.cs := rfl
@[simp] theorem State.holdLine_tun (l : SwitchLine) (v : Bool) : (State.holdLine l v s).tun = s.tun := rfl
@[simp] theorem State.holdLine_pp (l : SwitchLine) (v : Bool) : (State.holdLine l v s).pp = s.pp := rfl
@[simp] theorem State.holdLine_moments (l : SwitchLine) (v : Bool) :
    (State.holdLine l v s).moments = s.moments := rfl
@[simp] theorem State.holdLine_pending (l : SwitchLine) (v : Bool) :
    (State.holdLine l v s).pending = s.pending := rfl

@[simp] theorem State.tripStop_fm : (State.tripStop s).fm = s.fm := by
  unfold State.tripStop; split <;> rfl
@[simp] theorem State.tripStop_cs : (State.tripStop s).cs = s.cs := by
  unfold State.tripStop; split <;> rfl
@[simp] theorem State.tripStop_tun : (State.tripStop s).tun = s.tun := by
  unfold State.tripStop; split <;> rfl
@[simp] theorem State.tripStop_pp : (State.tripStop s).pp = s.pp := by
  unfold State.tripStop; split <;> rfl
@[simp] theorem State.tripStop_moments : (State.tripStop s).moments = s.moments := by
  unfold State.tripStop; split <;> rfl
@[simp] theorem State.tripStop_pending : (State.tripStop s).pending = s.pending := by
  unfold State.tripStop; split <;> rfl

@[simp] theorem State.lostTest_fm : (State.lostTest s).fm = s.fm := by
  unfold State.lostTest; split <;> rfl
@[simp] theorem State.lostTest_cs : (State.lostTest s).cs = s.cs := by
  unfold State.lostTest; split <;> rfl
@[simp] theorem State.lostTest_tun : (State.lostTest s).tun = s.tun := by
  unfold State.lostTest; split <;> rfl
@[simp] theorem State.lostTest_pp : (State.lostTest s).pp = s.pp := by
  unfold State.lostTest; split <;> rfl
@[simp] theorem State.lostTest_moments : (State.lostTest s).moments = s.moments := by
  unfold State.lostTest; split <;> rfl
@[simp] theorem State.lostTest_pending : (State.lostTest s).pending = s.pending := by
  unfold State.lostTest; split <;> rfl

@[simp] theorem State.takeSense_fm (r : Report) : (State.takeSense r s).fm = s.fm := rfl
@[simp] theorem State.takeSense_cs (r : Report) : (State.takeSense r s).cs = s.cs := rfl
@[simp] theorem State.takeSense_tun (r : Report) : (State.takeSense r s).tun = s.tun := rfl
@[simp] theorem State.takeSense_pp (r : Report) : (State.takeSense r s).pp = s.pp := rfl
@[simp] theorem State.takeSense_moments (r : Report) : (State.takeSense r s).moments = s.moments := rfl
@[simp] theorem State.takeSense_pending (r : Report) : (State.takeSense r s).pending = s.pending := rfl

end whole

end Sys2Proof.Machine
end

