-- ==== Sys2Proof/Tests/Slice0.lean ====
section
/-! SUPPORT. Tests/Slice0.lean: ill-formed commands are refused; the manual's worked values; and, for every
statement with hypotheses, states and operands that meet them. -/

-- One theorem after another: side by side they start more threads than a small machine has room for.
set_option Elab.async false

namespace Sys2Proof.Tests
open Sys2Proof Sys2Proof.Machine

/-! ## Small states -/

/-- A part that has just swept its map. -/
def ready : State := { State.reset with fm := { FloorMap.reset with sweep := none } }

/-- A part with given motion blocks. -/
def motion (m : Motion) : State := { ready with mo := m }

/-- The motion blocks with the link ONLINE, the pose known and the Route Engine given. -/
def moving (re : RouteEngine) (seg : Option SegRun) : Motion :=
  { Motion.reset with
    re := { re with seg := seg }
    pu := { PoseUnit.reset with u := 20000 }
    dp := { DrivePort.reset with link := .online } }

/-- A Line with an alternate. -/
def line : Segment :=
  { kind := .line, targetX := 7000000, targetY := 6400000, heading := none, reverseDist := 0, speed := 300,
    allowUnknown := true, avoidRug := false, notify := true, retries := 1, dwell := 0,
    alt := some (7000000, 6450000) }

/-- An entry of a list. -/
def entry (slot : Nat) : Entry := { slot := slot, desc := .fresh }

/-- A Route Engine with one record and a Main and a Priority List that name it. -/
def loaded : RouteEngine :=
  { RouteEngine.reset with
    pool := [(3, some line)]
    main := { RunList.reset with entries := [entry 3] }
    priority := { RunList.reset with entries := [entry 3] } }

/-- The same engine RUNNING on the Main List. -/
def running : RouteEngine := { loaded with state := .running, active := some .main, attempt := 1 }

/-- The segment in progress in a phase, waiting for something. -/
def inPhase (p : Phase) (w : Wait) : SegRun := { SegRun.fresh 3 line with phase := p, wait := w }

/-- A grant record in a state. -/
def grantIn (st : GrantState) : GrantRec := { GrantRec.reset with state := st, id := 20, kind := .travel, amount := 300000 }

/-- A segment in progress under a grant in a state. -/
def under (p : Phase) (w : Wait) (st : GrantState) : Motion :=
  { moving running (some (inPhase p w)) with dp := { DrivePort.reset with link := .online, grant := grantIn st } }

/-- A check request of the engine. -/
def engineReq (col : Column) : CheckReq :=
  { owner := .engine, path := .spot, column := col, allowUnknown := true, avoidRug := false, speed := 300 }

/-- A sampling check that has ended, blocked or not. -/
def ended (b : Option (Nat × BlockCell)) : Sampling :=
  { beginCheck ready.env (moving loaded none) (engineReq .rotate) with next := 1, blocked := b }

/-- A part with one cell, its sector's counts following. -/
def withCell (c : CellIx) (r : CellRec) (s : State) : State := { s with fm := s.fm.putCell c r }

/-- A cell holding Cliff with origin Sensed. -/
def drop : CellRec := { cls := .cliff, conf := 7, origin := .sensed, visited := false }

/-- The beacon lines, all dark. -/
def dark : Beacon := { left := false, centre := false, right := false, near := false }

/-- A report without motion. -/
def still : Report :=
  { seq := 1, restart := false, left := 0, right := 0, yaw := 0, drive := .idle, echo := 0, battery := 80 }

/-- What a command answers from a state, read by a function. -/
def after {α : Type} (i : Instr) (s : State) (f : State → α) : Option α :=
  match exec i s with
  | .next t => some (f t)
  | .fault _ => none
  | .refused _ => none

/-! ## Ill-formed commands (WellFormed.lean) -/

theorem test_wf_sweep_count : (Instr.mapSweepProgress 0).wf = false := by decide
theorem test_wf_fill_count : (Instr.fillProgress 0).wf = false := by decide
theorem test_wf_discard_bytes : (Instr.rxFrameDiscard []).wf = false := by decide
theorem test_wf_report_bytes : (Instr.driveReport [] dark).wf = false := by decide
theorem test_wf_good_frame_is_no_invalid_frame : (Instr.invalidFrame 0x21 0 []).wf = false := by decide
theorem test_wf_fetch_is_no_invalid_frame : (Instr.invalidFrame 0 0 []).wf = false := by decide
theorem test_wf_short_frame_is_no_invalid_frame : (Instr.invalidFrame 0x10 7 [1]).wf = false := by decide
theorem test_wf_oversize_frame : (Instr.invalidFrame 0x41 0 [1]).wf = true := by decide
theorem test_wf_write_cells_length : (Instr.writeCells (List.replicate 1025 0)).wf = false := by decide +kernel
theorem test_wf_load_list_length : (Instr.loadList 0 0 0 0 (List.replicate 1021 0)).wf = false := by decide +kernel
theorem test_wf_tuning_field : (Instr.writeTuning { Config.tuning with margin := 256 }).wf = false := by decide
theorem test_wf_calibration_offset :
    (Instr.writeCalibration { Config.calibration with flF := 40000 }).wf = false := by decide

/-! ## The manual's worked values -/

/-- Section 12.6: the Stop of section 6.7 on TXD. -/
theorem test_stop_frame : (DriveFrame.stop 22 .hazard).bytes = [0xC3, 0x13, 0x02, 0x16, 0x01, 0xA5] := by decide +kernel

/-- Section 12.2: a cell byte, class in bits 0 to 2, confidence in 3 to 5, origin in 6, visited in 7. -/
theorem test_cell_byte : drop.toByte = 0x7C := by decide

/-- Section 5.17, step 7: the bearing of (10,000, −400,000) is that of index 772. -/
theorem test_bearing : bearing 10000 (-400000) = 49408 := by decide +kernel

/-- Section 2.2: sinT(85) and sinT(341), as section 7.9 reads them. -/
theorem test_sine : sinT 85 = 8163 ∧ sinT 341 = 14206 ∧ sinT 768 = -16384 := by decide +kernel

/-- Section 7.9: the mark point of a bump on the left alone. -/
theorem test_bump_point : bodyPoint Config.calibration 2000000 1000000 5461 = (2169078, 1097155) := by decide +kernel

/-- Section 2.7, case 6: wrapped counts and a negative half turn. -/
theorem test_pose_wrapped :
    integrate Config.tuning Config.calibration 256
      (Baseline.deltas { left := 65500, right := 65480, yaw := 10, held := true }
        { still with left := 64, right := 44, yaw := 65533 })
      { PoseUnit.reset with x := 1000000, y := 1000000, theta := 100, u := 20000 } =
    { x := 1050000, y := 1000308, theta := 87, u := 20976, slip := 0, clamped := false, slipped := false,
      travel := 50000 } := by decide +kernel

/-- Section 2.7, case 5: the edge of the map. -/
theorem test_pose_edge :
    (integrate Config.tuning Config.calibration 256 { left := 100, right := 100, yaw := 0 }
      { PoseUnit.reset with x := 12790000, y := 1000000, u := 20000 }).x = 12799999 := by decide +kernel

/-- Section 2.8, report seq 10: rug factor, half rounded away, slip counter. -/
theorem test_pose_rug_and_slip :
    integrate Config.tuning Config.calibration 224 { left := 100, right := 150, yaw := 100 }
      { PoseUnit.reset with x := 2093750, y := 1500000, theta := 0, u := 21830 } =
    { x := 2148438, y := 1500000, theta := 100, u := 22898, slip := 1, clamped := false, slipped := false,
      travel := 54688 } := by decide +kernel

/-- Section 1.4: the walk of x 10..12, y 5..6, primary X, x decrement, y increment, passes from (10, 6) to the
start corner (12, 5). -/
theorem test_window_walk :
    Window.walk { x0 := 10, x1 := 12, y0 := 5, y1 := 6 } { primary := .x, xDir := .dec, yDir := .inc } 7
      { cx := 12, cy := 5 } =
    [⟨12, 5⟩, ⟨11, 5⟩, ⟨10, 5⟩, ⟨12, 6⟩, ⟨11, 6⟩, ⟨10, 6⟩, ⟨12, 5⟩] := by decide

/-- Section 1.9, step 3: two bytes held, one written. -/
theorem test_write_cells_held :
    after (.writeCells [0x39, 0x39, 0x39])
      { withCell ⟨41, 22⟩ drop (withCell ⟨40, 22⟩ drop ready) with
        fm := { (withCell ⟨41, 22⟩ drop (withCell ⟨40, 22⟩ drop ready)).fm with
          win := { x0 := 40, x1 := 42, y0 := 22, y1 := 22 }, cursor := ⟨40, 22⟩ } }
      (fun t => (t.pp.slot, t.fm.mapHeld, t.fm.cursor, t.fm.cellAt ⟨42, 22⟩)) =
    some (some (.done [2, 0]), true, ⟨40, 22⟩, { cls := .free, conf := 7, origin := .planner, visited := false }) := by
  decide +kernel

/-- Section 8.6: the standoff point of a Dock Pose at (1,000,000, 500,000), θd 16384. -/
theorem test_standoff : standoffPoint 1000000 500000 16384 300 = (1000000, 200000) := by decide +kernel

/-- Section 9.6, transaction 6: CLEAR SEGMENT of slot 200. -/
theorem test_clear_slot_200 : after (.clearSegment 200) ready (·.pp.slot) = some (some (.invalid 2 0)) := by
  decide +kernel

/-- Section 9.6, transaction 7: READ TUNING with four bytes of body. -/
theorem test_oversize_read_tuning :
    after (.invalidFrame 0x41 0 [1, 2, 3, 4]) ready (·.pp.slot) = some (some (.invalid 1 0)) := by decide +kernel

/-- Section 9.6, transaction 8: START ROUTE with the Main List empty. -/
theorem test_start_empty :
    after (.startRoute 0) ready (·.pp.slot) = some (some (.rejected .listEmpty)) := by decide +kernel

/-- Section 4.6: slot 5's Reverse at speed 600 is stored at 500, with the speed mark. -/
theorem test_load_reverse :
    after (.loadSegment 5
      { kind := 3, targetX := 0, targetY := 0, headingPresent := 0, heading := 0, reverseDist := 200,
        speed := 600, flags := 0, retries := 0, dwell := 0, altPresent := 0, altX := 0, altY := 0 }) ready
      (fun t => (t.pp.slot, (t.mo.re.slotAt 5).map fun g => (g.speed, g.reverseDist))) =
    some (some (.done [1]), some (500, 200)) := by decide +kernel

/-- Section 11.6: a burn cut short spoils its slot, and the First slot is loaded. -/
theorem test_burn_cut_short :
    after .powerOnReset
      { ready with cs := { CalStore.reset with
          first := .written { Config.calibration with tickScale := 8150 }
          burn := some { slot := .second, copy := Config.calibration, left := 28 } } }
      (fun t => (t.cs.second, t.cs.working.tickScale, t.cs.source)) =
    some (.spoiled, 8150, .first) := by decide +kernel

/-! ## Witnesses: states and operands that meet the hypotheses of each statement, clause by clause -/

theorem ready_ready : ready.Ready := ⟨rfl, rfl, rfl⟩

/-- A part that is serving a request. -/
def serving : State := { ready with pp := { ready.pp with serving := some .started } }

/-- An answer held, with a frame waiting or none; a request's frame; and a length of 1024 with no body. -/
theorem test_witness_FramesAreHeldAndAnswered :
    (ready.pending = [] ∧ ready.pp.serving = none ∧ ready.mo.re.todo = .none) ∧
    (serving.pending = [] ∧ serving.pp.serving = some .started ∧ serving.pp.buffer = none ∧
      ({ serving with pp := { serving.pp with buffer := some (.mk' 0x21 []) } } : State).pp.buffer.isSome = true) ∧
    ((Instr.setCursor 255 0).wf = true ∧ requestFrame (.setCursor 255 0) = some (.mk' 0x11 [255, 0]) ∧
      ready.pp.buffer = none ∧ serving.pp.serving.isSome = true) ∧
    ((0x12 : Byte) ≠ 0 ∧ (half 0x00 0x04).toNat = 1024 ∧ ([] : List Byte).length < (half 0x00 0x04).toNat) := by decide

/-- CLEAR SEGMENT of slot 128 is refused. -/
theorem test_witness_RefusedRequestsChangeNothing :
    ready.Ready ∧ requestFrame (.clearSegment 128) = some (.mk' 0x31 [128]) ∧
    (Frame.mk' 0x31 [128]).badEnvelope = false ∧ (serve (.clearSegment 128) ready).2.refuses = true :=
  ⟨ready_ready, by decide, by decide, by decide +kernel⟩

theorem test_witness_FramesRoundTrip :
    (Instr.park 1).wf = true ∧ requestFrame (.park 1) = some (.mk' 0x55 [1]) ∧
    parseRequest 0x55 [1] = .request (.park 1) := by decide

/-- A slot with a response, and one without, clocked whole or one byte short. -/
theorem test_witness_FetchShiftsOutTheSlot :
    ready.mo.eu.device = .run ∧ ready.pp.slot = none ∧
    (ready.answered 3 .started).mo.eu.device = .run ∧ (ready.answered 3 .started).pp.slot = some .started ∧
    Response.started.bytes.length = 3 ∧ ([1, 2] : List Byte).length = 2 := by decide

/-- A part PARKED on the contacts, which have just gone, with a baseline, and its wake enables set or clear. -/
def parked (enabled : Bool) : State :=
  let m := (moving loaded none).park false
  motion { m with
    pu := { m.pu with base := { left := 0, right := 0, yaw := 0, held := true } }
    du := { m.du with contact := true, docked := true, changeDue := true }
    eu := { m.eu with wakeHazard := enabled, wakeUndocked := enabled, wakeBattery := enabled } }

/-- Each wake with its enable set and clear; a report without travel, and one with the largest that is no jump. -/
theorem test_witness_WakesArmThePart :
    (parked true).mo.eu.device = .parked ∧ (parked false).mo.eu.device = .parked ∧
    requestFrame .readSense = some (.mk' 0x54 []) ∧ (parked true).pp.serving = none ∧
    (parked true).mo.hg.state = .off ∧ (parked true).mo.hg.lines.get .wl = false ∧
    (parked true).mo.eu.wakeHazard = true ∧ (parked false).mo.eu.wakeHazard = false ∧
    (parked true).mo.dp.rx = [] ∧ (parked true).mo.Still ∧ (parked true).mo.dp.grant.state = .none ∧
    (parked true).mo.re.latch = .above ∧ (parked true).tun.homeLevel ≤ still.level ∧
    (parked true).mo.pu.base.held = true ∧ still.restart = false ∧
    (still.left = (parked true).mo.pu.base.left ∧ still.right = (parked true).mo.pu.base.right) ∧
    ((2047 : Half) - (parked true).mo.pu.base.left).toInt.natAbs ≤ 2047 ∧
    (2047 : Half) ≠ (parked true).mo.pu.base.left ∧
    (parked true).mo.du.changeDue = true ∧ (parked true).mo.du.contact = true ∧ (parked true).mo.du.docked = true ∧
    (parked true).mo.eu.wakeUndocked = true ∧ (parked false).mo.eu.wakeUndocked = false :=
  ⟨by decide, by decide, by decide, by decide, by decide, by decide, by decide, by decide, by decide, ⟨rfl, rfl⟩,
    by decide⟩

/-- A length of 1025; a code that names no request; a body of the wrong length, in RUN and during the sweep; a
request during the sweep. -/
theorem test_witness_RefusedFrames :
    ready.pp.serving = none ∧ ready.mo.eu.device = .run ∧ 1024 < (1025 : Half).toNat ∧
    (0 : Half).toNat < ([1] : List Byte).length ∧ (0x57 : Byte) ≠ 0 ∧
    ((1 : Half).toNat ≤ 1024 ∧ ([7] : List Byte).length = (1 : Half).toNat ∧
      parseRequest 0x57 [7] = .noCode ∧ parseRequest 0x10 [7] = .badLength ∧ parseRequest 0x54 [7] = .badLength) ∧
    (Instr.readPose.wf = true ∧ requestFrame .readPose = some (.mk' 0x21 []) ∧ Instr.readPose ≠ .readSense ∧
      State.reset.fm.sweep.isSome = true ∧ State.reset.pp.serving = none ∧ State.reset.mo.eu.device = .run) := by
  decide

theorem test_witness_ReadingRequestsChangeNothing :
    ready.pp.serving = none ∧ ready.mo.eu.device = .run ∧ ready.fm.sweep = none ∧ 1 < (2 : Byte).toNat := by decide

/-- The power-on block, and one whose last field is the only one out of range. -/
theorem test_witness_TuningIsWrittenAndReadBack :
    ready.Ready ∧ tuningOk ready.tun ∧
    (∀ v lo hi, (tuningList { Config.tuning with dockUncertainty := 65536 })[31]? = some v →
      tuningRanges[31]? = some (lo, hi) → v < lo ∨ hi < v) ∧
    firstOutside 2 tuningRanges (tuningList { Config.tuning with dockUncertainty := 65536 }) = some 33 := by
  refine ⟨ready_ready, by unfold tuningOk; decide +kernel, ?_, by decide +kernel⟩
  intro v lo hi h1 h2
  have e1 : (65536 : Nat) = v := by simpa [tuningList] using h1
  have e2 : (0 : Nat) = lo ∧ (65535 : Nat) = hi := by simpa [tuningRanges] using h2
  omega

/-- A part with a fill of some cells left. -/
def fillingFrom (pos : CellIx) (left : Nat) : State :=
  let f : Fill := { cell := CellRec.swept, win := .whole, mode := .reset, pos := pos, left := left, held := 0 }
  { ready with fm := { ready.fm with fill := some f } }

/-- A part with a fill of one cell left. -/
def filling : State := fillingFrom ⟨255, 255⟩ 1

/-- The whole map and the far corner; each field one too large; a cursor just outside a window; counts 0, 1024 and
1025; and a fill in the way. -/
theorem test_witness_WindowCursorAndReadCells :
    ready.Ready ∧ filling.Ready ∧ ready.fm.fill = none ∧ (0 : Byte) ≤ 255 ∧ (0 : Byte) < 1 ∧ (1 : Byte) ≤ 1 ∧
    (1 : Byte) < 2 ∧ filling.fm.fill.isSome = true ∧
    ({ x0 := 0, x1 := 254, y0 := 1, y1 := 255 } : Window).x1 < (255 : Byte).toNat ∧
    (0 : Byte).toNat < ({ x0 := 0, x1 := 254, y0 := 1, y1 := 255 } : Window).y0 ∧
    ready.fm.win.Has { cx := (255 : Byte).toNat, cy := (255 : Byte).toNat } ∧ (0 : Half).toNat = 0 ∧
    1024 < (1025 : Half).toNat ∧ 1 ≤ (1024 : Half).toNat ∧ (1024 : Half).toNat ≤ 1024 :=
  ⟨ready_ready, ⟨rfl, rfl, rfl⟩, by decide, by decide, by decide, by decide, by decide, by decide, by decide, by decide,
    ⟨by decide, by decide, by decide, by decide⟩, by decide⟩

theorem test_witness_CursorWalksTheWindowOnce : Window.whole.Ok ∧ Window.whole.Has { cx := 255, cy := 255 } :=
  ⟨⟨by decide, by decide, by decide, by decide⟩, ⟨by decide, by decide, by decide, by decide⟩⟩

/-- The Clearance Unit with one check. -/
def checking (r : Option Sampling) (owner : CheckOwner) (m : Motion) : State :=
  motion { m with cu := { checks := [{ req := { engineReq .rotate with owner := owner }, run := r }], corridor := none } }

/-- A part with a sensed drop in a cell. -/
def droppedAt (c : CellIx) : State := withCell c drop ready

/-- Two bytes over a walk whose first cell is held; no byte; a bad byte at place 1; a fill and a check in the way; one
byte on a sensed Cliff and on another cell. -/
theorem test_witness_WriteCellsWalksTheWindow :
    (droppedAt ⟨0, 0⟩).Ready ∧ filling.Ready ∧ (checking none .engine (moving loaded none)).Ready ∧
    (droppedAt ⟨0, 0⟩).fm.fill = none ∧ (droppedAt ⟨0, 0⟩).mo.cu.checks = [] ∧
    Memory.wf CellRec.swept (droppedAt ⟨0, 0⟩).fm.cells ∧ ([0x06, 0xF8] : List Byte) ≠ [] ∧
    (∀ b ∈ ([0x06, 0xF8] : List Byte), b.toNat % 8 ≠ 7) ∧
    (droppedAt ⟨0, 0⟩).fm.win.walk (droppedAt ⟨0, 0⟩).fm.mode 2 (droppedAt ⟨0, 0⟩).fm.cursor = [⟨0, 0⟩, ⟨1, 0⟩] ∧
    (droppedAt ⟨0, 0⟩).fm.heldOn [⟨0, 0⟩, ⟨1, 0⟩] = 1 ∧
    ((droppedAt ⟨0, 0⟩).fm.cellAt ⟨0, 0⟩).sensedCliff = true ∧
    ((droppedAt ⟨0, 0⟩).fm.cellAt ⟨1, 0⟩).sensedCliff = false ∧
    ([0x06, 0x07] : List Byte)[1]? = some 0x07 ∧ (0x07 : Byte).toNat % 8 = 7 ∧ filling.fm.fill.isSome = true ∧
    (checking none .engine (moving loaded none)).mo.cu.checks ≠ [] ∧ (CellRec.ofByte 0xF8).isSome = true ∧
    (ready.fm.cellAt ready.fm.cursor).sensedCliff = false :=
  ⟨⟨rfl, rfl, rfl⟩, ⟨rfl, rfl, rfl⟩, ⟨rfl, rfl, rfl⟩, by decide +kernel⟩

/-- A fill asked for and refused; one whose progress meets a sensed Cliff; its last cell; no fill. -/
theorem test_witness_FillsWalkTheirWindow :
    ready.Ready ∧ filling.Ready ∧ ready.fm.fill = none ∧ ready.mo.cu.checks = [] ∧ (6 : Byte).toNat % 8 ≠ 7 ∧
    (CellRec.ofByte 6).isSome = true ∧ (7 : Byte).toNat % 8 = 7 ∧ filling.fm.fill.isSome = true ∧
    (∃ f, (fillingFrom ⟨254, 255⟩ 2).fm.fill = some f ∧
      f.win.walk f.mode (min 1 (f.left - 1)) f.pos = [⟨254, 255⟩]) ∧
    Memory.wf CellRec.swept filling.fm.cells ∧ (∃ f, filling.fm.fill = some f ∧ f.left = 1) ∧
    ∀ f, ready.fm.fill = some f → f.left ≠ 1 := by
  refine ⟨ready_ready, ⟨rfl, rfl, rfl⟩, by decide, by decide, by decide, by decide, by decide, by decide,
    ⟨_, rfl, by decide⟩, by decide, ⟨_, rfl, rfl⟩, ?_⟩
  intro f h
  cases h

theorem ready_sound : ready.fm.Sound :=
  ⟨by decide, by decide, ⟨by decide, by decide, by decide, by decide⟩,
    ⟨by decide, by decide, by decide, by decide⟩, fun _ h => (by cases h), fun _ h => (by cases h), by decide⟩

theorem test_witness_FillWritesTheWindow :
    ready.Ready ∧ ready.fm.Sound ∧ ready.fm.fill = none ∧ ready.mo.cu.checks = [] ∧
    (CellRec.ofByte 6).isSome = true :=
  ⟨ready_ready, ready_sound, by decide⟩

/-- The far corner of the map, released to the last class; a class code too large; a fill in the way; no drop. -/
theorem test_witness_ReleaseHazardFreesTheCell :
    (droppedAt ⟨255, 255⟩).Ready ∧ ready.Ready ∧ filling.Ready ∧ (droppedAt ⟨255, 255⟩).fm.fill = none ∧
    (droppedAt ⟨255, 255⟩).mo.cu.checks = [] ∧ Memory.wf CellRec.swept (droppedAt ⟨255, 255⟩).fm.cells ∧
    CellClass.ofCode (6 : Byte).toNat = some .dock ∧ 7 ≤ (7 : Byte).toNat ∧ filling.fm.fill.isSome = true ∧
    ((droppedAt ⟨255, 255⟩).fm.cellAt { cx := (255 : Byte).toNat, cy := (255 : Byte).toNat }).sensedCliff = true ∧
    (ready.fm.cellAt { cx := (255 : Byte).toNat, cy := (255 : Byte).toNat }).sensedCliff = false :=
  ⟨⟨rfl, rfl, rfl⟩, ready_ready, ⟨rfl, rfl, rfl⟩, by decide +kernel⟩

theorem test_witness_SectorsAndChangesAreRead :
    ready.Ready ∧ ready.fm.fill = none ∧ filling.Ready ∧ filling.fm.fill.isSome = true ∧
    1 ≤ (64 : Byte).toNat ∧ (64 : Byte).toNat ≤ 64 ∧ (192 : Byte).toNat + (64 : Byte).toNat ≤ 256 ∧
    (0 : Byte).toNat = 0 ∧ 64 < (65 : Byte).toNat ∧ 256 < (193 : Byte).toNat + (64 : Byte).toNat :=
  ⟨ready_ready, by decide, ⟨rfl, rfl, rfl⟩, by decide⟩

/-- An entry of the queue. -/
def change : ChangeEntry :=
  { cell := ⟨1, 1⟩, old := .free, new := .cliff, cause := .cliffTrip, sensor := .fl, time := 0 }

/-- A part with n entries in its queue. -/
def queued (n : Nat) : State := { ready with fm := { ready.fm with changes := List.replicate n change } }

/-- A Cliff mark on a swept cell, with 63 entries and with 64; a mark that changes nothing, and one that raises a
confidence. -/
theorem test_witness_SensedMarksMerge :
    Memory.wf CellRec.swept (queued 63).fm.cells ∧ (queued 63).fm.changes.length < 64 ∧
    64 ≤ (queued 64).fm.changes.length ∧
    (((queued 63).sensedMark { cell := ⟨2, 2⟩, cause := .cliffTrip, sensor := .fl }).fm.cellAt ⟨2, 2⟩).cls ≠
      ((queued 63).fm.cellAt ⟨2, 2⟩).cls ∧
    ((droppedAt ⟨2, 2⟩).sensedMark { cell := ⟨2, 2⟩, cause := .bump, sensor := .bl }).fm.cellAt ⟨2, 2⟩ =
      (droppedAt ⟨2, 2⟩).fm.cellAt ⟨2, 2⟩ ∧
    (let o : State := withCell ⟨2, 2⟩ { cls := .obstacle, conf := 6, origin := .sensed, visited := false } ready
     ((o.sensedMark { cell := ⟨2, 2⟩, cause := .bump, sensor := .bl }).fm.cellAt ⟨2, 2⟩).conf ≠
      (o.fm.cellAt ⟨2, 2⟩).conf) := by decide +kernel

/-- The corridor record of a grant straight ahead. -/
def ahead : Corridor :=
  { grant := 20, column := .line, allowUnknown := true, avoidRug := false, dirX := 16384, dirY := 0, divisor := 16384
    rh := 190, rm := 230, rc := 250, obstacleFloor := 2, amount := 300000 }

/-- A check that has examined P_0, and a cell inside and outside its outer disc; a corridor that a new Obstacle
blocks at P_0, a re-check held already, and a new Free cell, which blocks nowhere. -/
theorem test_witness_MapChangesReachTheUnit :
    (let sp : Sampling := { ended none with next := 1 }
     0 < sp.next ∧ cellDist2 (sp.point 0).1 (sp.point 0).2 (128, 128) ≤ (sp.outer * 1000) ^ 2 ∧
     (∀ i, i < sp.next → (sp.outer * 1000) ^ 2 < cellDist2 (sp.point i).1 (sp.point i).2 (0, 0))) ∧
    (moving loaded none).cu.corridor = none ∧ (moving loaded none).cu.checks = [] ∧
    blockRadius ahead.column ahead.allowUnknown ahead.avoidRug ahead.obstacleFloor ahead.rh ahead.rc 0 .obstacle 7 =
      some 190 ∧
    cellDist2 (moving loaded none).pu.x (moving loaded none).pu.y (128, 128) ≤ (190 * 1000) ^ 2 ∧
    blockRadius ahead.column ahead.allowUnknown ahead.avoidRug ahead.obstacleFloor ahead.rh ahead.rc 0 .free 7 = none ∧
    (∃ k ∈ (checking none (.recheck 20) (moving loaded none)).mo.cu.checks, k.req.owner = .recheck ahead.grant) := by
  refine ⟨⟨by decide +kernel, by decide +kernel, ?_⟩, rfl, rfl, by decide, by decide +kernel, by decide,
    ⟨_, List.mem_singleton.2 rfl, rfl⟩⟩
  intro i h
  cases Nat.lt_one_iff.1 h
  decide +kernel

/-- A part with a sensed drop in cell (2, 2). -/
def dropped : State := droppedAt ⟨2, 2⟩

theorem test_witness_SensedCliffStandsUntilReleased :
    dropped.fm.Sound ∧ (dropped.fm.cellAt ⟨2, 2⟩).sensedCliff = true ∧
    mayRelease .timeBaseTick = false ∧ exec .timeBaseTick dropped = .next dropped.tick ∧
    dropped.pending = [] ∧ (∀ f, dropped.pp.buffer = some f → f.code ≠ releaseCode) ∧
    ∃ t, step dropped = .next t :=
  ⟨⟨by decide +kernel, by decide +kernel, ⟨by decide, by decide, by decide, by decide⟩,
      ⟨by decide, by decide, by decide, by decide⟩, fun _ h => (by cases h), fun _ h => (by cases h), by decide⟩,
    by decide +kernel, rfl, rfl, rfl, fun _ h => (by cases h), _, rfl⟩

/-- A part that is burning its second slot, some ms from the end. -/
def burning (left : Nat) : State :=
  { ready with cs := { CalStore.reset with burn := some { slot := .second, copy := Config.calibration, left := left } } }

/-- A part whose First slot is Written, and its Second with another tick scale or not. -/
def burnt (both : Bool) : State :=
  let second := if both then .written { Config.calibration with tickScale := 8150 } else .blank
  { ready with cs := { CalStore.reset with first := .written Config.calibration, second := second } }

/-- No burn, and a burn of the Second slot; both slots Written, the First alone, and none; the sweep's last cell, the
sweep that has written it, and none. -/
theorem test_witness_PowerOnResetsAndSweeps :
    ready.cs.burn = none ∧ (∃ b, (burning 28).cs.burn = some b ∧ b.slot = .second) ∧
    after .powerOnReset (burnt true) (fun t => (t.cs.source, t.cs.working.tickScale)) = some (.second, 8150) ∧
    after .powerOnReset (burnt false) (fun t => (t.cs.source, t.cs.working.tickScale)) = some (.first, 8000) ∧
    after .powerOnReset ready (fun t => (t.cs.source, t.cs.working)) = some (.defaults, Config.calibration) ∧
    ({ FloorMap.reset with sweep := some 65535 } : FloorMap).sweep = some 65535 ∧ 65535 + 1 ≤ 65536 ∧
    ({ FloorMap.reset with sweep := some 65536 } : FloorMap).sweep = some 65536 ∧ ready.fm.sweep = none ∧
    Memory.wf CellRec.swept FloorMap.reset.cells :=
  ⟨by decide, ⟨_, rfl, rfl⟩, by decide +kernel⟩

theorem ready_tallied : ready.fm.Tallied := by
  intro k _
  simp [FloorMap.counted, FloorMap.countIn, FloorMap.cellAt, FloorMap.sectorAt, ready, FloorMap.reset, Memory.read,
    CellRec.swept, SectorRec.swept, sectorCells]

theorem test_witness_FloorMapAndSectorTableStayTrue : ready.fm.Sound ∧ ready.fm.Tallied ∧ ∃ t, step ready = .next t :=
  ⟨ready_sound, ready_tallied, _, rfl⟩

/-- A part that a report concerns in its pose alone, its baseline Held and its slip counter one short. -/
def quiet (held : Bool) : State :=
  motion { moving loaded none with
    pu := { PoseUnit.reset with u := 20000, slip := 3, base := { left := 0, right := 0, yaw := 0, held := held } } }

theorem quiet_quiet (held : Bool) (r : Report) (h : 15 ≤ r.level) : (quiet held).QuietFor r :=
  ⟨rfl, ⟨rfl, rfl⟩, rfl, by cases held <;> decide, rfl, h, fun h => (by cases h)⟩

/-- A Pending baseline, and one that each limit is passed from by one, of a quiet part (the baselines its link step
leaves are its own) and under a grant. -/
theorem test_witness_BaselineAndJumpReports :
    ((quiet false).linked dark).mo.pu.base = (quiet false).mo.pu.base ∧
    (under .travel .grant .active).pu.base.held = false ∧
    (quiet false).QuietFor still ∧ (quiet false).mo.pu.base.held = false ∧
    (quiet true).QuietFor { still with left := 2048 } ∧ (quiet true).mo.pu.base.held = true ∧
    2047 < ((2048 : Half) - (quiet true).mo.pu.base.left).toInt.natAbs ∧
    (quiet true).QuietFor { still with right := 63488 } ∧
    2047 < ((63488 : Half) - (quiet true).mo.pu.base.right).toInt.natAbs ∧
    (quiet true).QuietFor { still with yaw := 4096 } ∧
    4095 < ((4096 : Half) - (quiet true).mo.pu.base.yaw).toInt.natAbs :=
  ⟨rfl, by decide, quiet_quiet _ _ (by decide), by decide, quiet_quiet _ _ (by decide), by decide, by decide,
    quiet_quiet _ _ (by decide), by decide, quiet_quiet _ _ (by decide), by decide⟩

/-- The largest deltas that are no jump, of a quiet part, of one PARKED with its enable set and clear, and under a
grant, whose amount done the travel joins; the mismatch they make is above SlipLimit, so the fourth report in a row
declares a slip. -/
theorem test_witness_IntegratedReportMovesThePose :
    ((parked true).mo.pu.base.held = true ∧ (parked true).mo.eu.device = .parked ∧
      (parked true).mo.eu.wakeHazard = true ∧ (parked false).mo.eu.wakeHazard = false) ∧
    (let m := under .travel .grant .active
     let v := motion { m with pu := { m.pu with base := { left := 0, right := 0, yaw := 0, held := true } } }
     (v.takePose { still with left := 100, right := 100 }).mo.re.amountDone = v.mo.re.amountDone + 50000) ∧
    (quiet true).QuietFor { still with left := 63489, right := 2047, yaw := 4095 } ∧
    (quiet true).mo.pu.base.held = true ∧ ((63489 : Half) - (quiet true).mo.pu.base.left).toInt = -2047 ∧
    ((2047 : Half) - (quiet true).mo.pu.base.right).toInt = 2047 ∧
    ((4095 : Half) - (quiet true).mo.pu.base.yaw).toInt = 4095 ∧
    (((0 : Nat) : Int) + 4095 / 2) % 65536 / 64 = ((31 : Nat) : Int) ∧
    ((quiet true).tun.slipLimit : Int) < (rhaz ((2047 - -2047) * 8000 * 10430) (16000 * 230) - 4095).natAbs ∧
    (quiet true).tun.slipReports ≤ (quiet true).mo.pu.slip + 1 ∧
    (quiet false).mo.pu.slip + 1 < { Config.tuning with slipReports := 5 }.slipReports :=
  ⟨by decide, by decide +kernel, quiet_quiet _ _ (by decide), by decide +kernel⟩

/-- A Dock Pose, that of section 8.6. -/
def dockPose : DockPose := { x := 1000000, y := 500000, theta := 16384, standoff := 300, sx := 1000000, sy := 200000 }

/-- Records of the other kinds. -/
def dockSeg : Segment := { line with kind := .dock, alt := none }
def turnSeg : Segment := { line with kind := .rotate, heading := some 729, alt := none }
def backSeg : Segment := { line with kind := .reverse, reverseDist := 500, alt := none }

/-- Motion blocks with a segment of a record in progress, a Dock Pose set. -/
def onSeg (seg : Segment) (p : Phase) (w : Wait) (st : GrantState) : Motion :=
  { under p w st with re := { running with seg := some { inPhase p w with seg := seg } }
                      du := { DockUnit.reset with pose := some dockPose } }

/-- FIX POSE at the far corner with the largest U, past each bound by one, and with a grant out; SET DOCK POSE with
the standoff point of section 8.6, past each bound, off the map, with a Dock segment in progress, and Clear with and
without one set. -/
theorem test_witness_PoseAndDockPoseAreSet :
    (quiet true).Ready ∧ (quiet true).mo.Still ∧ (12799999 : Word).toNat ≤ 12799999 ∧
    (1000000 : Word).toNat ≤ 1000000 ∧ 12799999 < (12800000 : Word).toNat ∧ 1000000 < (1000001 : Word).toNat ∧
    (quiet true).mo.dp.grant.state = .none ∧ (quiet true).mo.cu.checks = [] ∧
    (motion (onSeg dockSeg .close .grant .active)).mo.dp.grant.state ≠ .none ∧ 1 < (2 : Byte).toNat ∧
    (((1000000 : Nat) : Int), ((200000 : Nat) : Int)) = pointAlong (1000000 : Word).toNat (500000 : Word).toNat
      (((16384 : Half).toNat + 32768) % 65536) ((if (0 : Half) = 0 then 300 else (0 : Half).toNat) * 1000 : Nat) ∧
    150 ≤ (150 : Half).toNat ∧ (600 : Half).toNat ≤ 600 ∧ 0 < (149 : Half).toNat ∧ (149 : Half).toNat < 150 ∧
    600 < (601 : Half).toNat ∧ (pointAlong 0 0 32768 300000).1 < 0 ∧
    (motion (onSeg dockSeg .close .grant .active)).mo.re.seg = some { inPhase .close .grant with seg := dockSeg } ∧
    dockSeg.kind = .dock ∧ (quiet true).mo.re.seg = none ∧ (quiet true).mo.du.pose = none ∧
    (onSeg dockSeg .close .grant .active).du.pose.isSome = true :=
  ⟨⟨rfl, rfl, rfl⟩, ⟨rfl, rfl⟩, by decide +kernel⟩

theorem ready_poseSound : ready.PoseSound :=
  ⟨⟨by decide, by decide, by decide, by decide, by decide +kernel, by decide⟩, (by unfold tuningOk; decide +kernel),
    fun _ h => (by cases h)⟩

theorem test_witness_PoseStaysInRange : ready.PoseSound ∧ ∃ t, step ready = .next t := ⟨ready_poseSound, _, rfl⟩

/-- The fields of a Line record at the ends of their ranges, for the last slot. -/
def lineFields : SegmentFields :=
  { kind := 2, targetX := 12799999, targetY := 12799999, headingPresent := 1, heading := 65535, reverseDist := 0,
    speed := 501, flags := 7, retries := 7, dwell := 65535, altPresent := 1, altX := 12799999, altY := 0 }

theorem lineFields_ok : SegmentFieldsOk .line lineFields :=
  ⟨by decide, by decide, by decide, by decide, by decide, by decide, by decide, by decide⟩

/-- A Line, a Reverse with both adjustments, the kinds 0 and 5, a first and a last bad field, a slot that an entry ahead
names, one that none names, and slot 128. -/
theorem test_witness_SegmentsAreLoadedAndCleared :
    ready.Ready ∧ (motion (moving running none)).Ready ∧ (127 : Byte).toNat ≤ 127 ∧ Memory.wf none ready.mo.re.pool ∧
    lineFields.kind.toNat = 2 ∧ SegmentFieldsOk .line lineFields ∧
    SegmentFieldsOk .reverse { lineFields with kind := 3, reverseDist := 501, speed := 19 } ∧
    ((0 : Byte).toNat = 0 ∧ 4 < (5 : Byte).toNat) ∧
    SegmentFieldBad .line { lineFields with targetX := 12800000 } 4 ∧
    SegmentFieldBad .line { lineFields with altY := 12800000 } 15 ∧
    (∀ n, n < 4 → ¬ SegmentFieldBad .line lineFields n) ∧
    (running.engaged .main = true ∧ (running.list .main).position ≤ 0 ∧
      (running.list .main).entries[0]? = some (entry 3) ∧ (entry 3).slot = (3 : Byte).toNat) ∧
    (∃ e ∈ (loaded.list .main).entries, e.slot = (3 : Byte).toNat) ∧ 127 < (128 : Byte).toNat ∧
    (∀ id, ready.mo.re.engaged id = false) ∧ ∀ id, (ready.mo.re.list id).entries = [] :=
  ⟨ready_ready, ⟨rfl, rfl, rfl⟩, by decide, by decide, by decide, lineFields_ok,
    ⟨by decide, by decide, by decide, by decide, by decide, by decide, by decide, by decide⟩, by decide,
    ⟨rfl, by decide⟩, ⟨rfl, rfl, by decide⟩, fun n h => (by
      match n, h with
      | 0, _ => exact id
      | 1, _ => exact id
      | 2, _ => exact id
      | 3, _ => exact id), by decide,
    ⟨_, List.mem_singleton.2 rfl, rfl⟩, by decide, fun id => (by cases id <;> decide),
    fun id => (by cases id <;> decide)⟩

/-- A Main List of 64 entries and a Priority List of 16; list 2, a length of 65, a slot that names no record, and an
engaged list. -/
theorem test_witness_ListsAreLoaded :
    (motion (moving loaded none)).Ready ∧ (motion (moving running none)).Ready ∧
    (List.replicate 64 (3 : Byte)).length = (64 : Byte).toNat ∧
    (List.replicate 16 (3 : Byte)).length = (16 : Byte).toNat ∧
    (∀ b ∈ List.replicate 64 (3 : Byte),
      b.toNat ≤ 127 ∧ ((motion (moving loaded none)).mo.re.slotAt b.toNat).isSome = true) ∧
    1 < (2 : Byte).toNat ∧ 64 < (65 : Byte).toNat ∧ ([3, 4] : List Byte)[1]? = some 4 ∧
    loaded.slotAt (4 : Byte).toNat = none ∧ loaded.engaged .main = false ∧ loaded.engaged .priority = false ∧
    running.engaged .main = true :=
  ⟨⟨rfl, rfl, rfl⟩, ⟨rfl, rfl, rfl⟩, by decide +kernel⟩

theorem test_witness_ListsAndGrantsStaySound :
    (moving running (some (inPhase .dwell .nothing))).re.Sound ∧ (under .travel .grant .sent).GrantOwned ∧
    (∃ t, step (motion (moving running (some (inPhase .dwell .nothing)))) = .next t) ∧
    ∃ t, step (motion (under .travel .grant .sent)) = .next t :=
  ⟨⟨by decide, ⟨by decide, by decide, by decide⟩, ⟨by decide, by decide, by decide⟩,
    fun _ => ⟨.inl rfl, .main, rfl, by decide⟩, fun h => absurd rfl h⟩,
   ⟨fun _ => ⟨.inl rfl, _, rfl, rfl⟩, fun _ => rfl, fun h => absurd h (by decide), fun _ => .inl rfl,
    fun h => absurd rfl h, fun h => absurd rfl h, fun sr h => (by cases h; decide), fun _ _ _ => rfl,
    fun sr h => (by cases h; decide)⟩, ⟨_, rfl⟩, _, rfl⟩

/-- Fresh, Resume of a list whose position stands at its length, mode 2, and each reason of refusal. -/
theorem test_witness_StartRouteBeginsALine :
    (motion (moving loaded none)).Ready ∧ (1 : Byte).toNat ≤ 1 ∧ 1 < (2 : Byte).toNat ∧
    loaded.state = .idle ∧ (moving loaded none).dp.link = .online ∧
    (moving loaded none).pu.u < ready.tun.lostLimit ∧ loaded.switchPending = false ∧ ready.fm.fill = none ∧
    (moving loaded none).cu.checks = [] ∧ loaded.main.entries[0]? = some (entry 3) ∧
    loaded.slotAt (entry 3).slot = some line ∧ line.kind = .line ∧ loaded.suspended = none ∧
    ({ loaded.main with position := 1 } : RunList).position = loaded.main.entries.length ∧
    ({ loaded with state := .halted } : RouteEngine).state = .halted ∧ running.state = .running ∧
    ready.mo.re.main.entries = [] ∧ loaded.main.entries ≠ [] ∧ Motion.reset.dp.link ≠ .online ∧
    ready.tun.lostLimit ≤ 150000 :=
  ⟨⟨rfl, rfl, rfl⟩, by decide +kernel⟩

/-- The engine with a move of its own to make. -/
def toDo (t : Todo) (seg : Option SegRun) : Motion := moving { running with todo := t } seg

/-- FETCH: a switch pending, a position at the length, U at LostLimit, an Empty slot, a Dock segment with and without a
Dock Pose. A try: a Line's last at the primary and its first at the alternate, a turn of AlignTolerance and one more, a
Reverse, and a Dock segment on and off the contacts. -/
theorem test_witness_SegmentsAndTriesBegin :
    ((toDo .begin none).re.todo = .begin ∧ (toDo .begin none).re.seg = none ∧
      (toDo .begin none).re.active = some .main ∧ running.switchPending = false ∧
      ({ running with switchPending := true } : RouteEngine).switchPending = true ∧
      (running.list .main).entries.length ≤ ({ running.main with position := 1 } : RunList).position ∧
      ready.tun.lostLimit ≤ 150000 ∧ (toDo .begin none).pu.u < ready.tun.lostLimit ∧
      (running.list .main).entries[(running.list .main).position]? = some (entry 3) ∧
      running.slotAt (entry 4).slot = none ∧ running.slotAt (entry 3).slot = some line ∧ line.kind ≠ .dock ∧
      dockSeg.kind = .dock ∧ (toDo .begin none).du.pose = none ∧ (onSeg dockSeg .vet .nothing .none).du.pose ≠ none ∧
      ({ ready.env with dockTotal := 1 } : Env).dockTotal ≠ 0) ∧
    ((toDo .startTry (some (inPhase .vet .nothing))).re.todo = .startTry ∧
      (toDo .startTry (some (inPhase .vet .nothing))).re.seg = some (inPhase .vet .nothing) ∧
      line.alt = some (7000000, 6450000) ∧ 2 ≤ line.retries + 1 ∧ line.retries + 1 < 3) ∧
    (((728 : Int) - 0 + 32768) % 65536 - 32768).natAbs ≤ ready.tun.alignTolerance ∧ turnSeg.kind = .rotate ∧
    turnSeg.heading = some 729 ∧ ready.tun.alignTolerance < (((729 : Int) - 0 + 32768) % 65536 - 32768).natAbs ∧
    backSeg.kind = .reverse ∧ (onSeg dockSeg .vet .nothing .none).du.contact = false ∧
    ({ DockUnit.reset with contact := true } : DockUnit).contact = true := by decide +kernel

/-- A recording that is due; a fault, a full tally, a StopOnHazard list, a pending switch, a drain of each mode, and a
position that reaches the length or does not. -/
theorem test_witness_RecordingMovesOn :
    ((toDo (.record .blocked none) (some (inPhase .vet .nothing))).re.todo = .record .blocked none ∧
      SegOutcome.blocked.cls = .hazard ∧ SegOutcome.lost.cls = .fault ∧ SegOutcome.arrived.cls = .done ∧
      SegOutcome.blocked.cls ≠ .cancel ∧ running.active = some .main ∧
      (running.list .main).entries[(running.list .main).position]? = some (entry 3)) ∧
    ((7000000, 6400000) = (inPhase .vet .nothing).goal (toDo .none none) ∧
      ((360000000000 : Nat) : Int) = (((toDo .none none).pu.x : Int) - 7000000) ^ 2 +
        (((toDo .none none).pu.y : Int) - 6400000) ^ 2 ∧ 360000000000 < 2 ^ 64) ∧
    ({ running with tally := 255 } : RouteEngine).tally = 255 ∧ running.tally ≠ 255 ∧
    ({ running.main with stopOnHazard := true } : RunList).stopOnHazard = true ∧ running.main.stopOnHazard = false ∧
    ({ running with switchPending := true } : RouteEngine).switchPending = true ∧ running.switchPending = false ∧
    ({ running with state := .draining, drain := .atPass } : RouteEngine).state = .draining ∧
    running.main.entries.length ≤ running.main.position + 1 ∧
    running.main.position + 1 < ({ running.main with entries := [entry 3, entry 3] } : RunList).entries.length := by
  decide +kernel

/-- A pass with none remaining, with one, and without end; a drain; a Pass Timer with an initial count; the Priority
List's end with a stop kept, with the Main List suspended in each sub-state, and with an expiry kept. -/
theorem test_witness_ListsEnd :
    (({ running.main with passes := 1 } : RunList).passes ≠ 0 ∧ 1 ≤ min 255 (running.main.passesDone + 1)) ∧
    min 255 (running.main.passesDone + 1) < ({ running.main with passes := 2 } : RunList).passes ∧
    ({ running.main with passes := 0 } : RunList).passes = 0 ∧ running.state ≠ .draining ∧
    ({ running with state := .draining } : RouteEngine).state = .draining ∧
    (moving running none).eu.settings.initial = 0 ∧
    ({ EventUnit.reset.settings with initial := 1 } : TimerSettings).initial ≠ 0 ∧
    ({ running with keptStop := true } : RouteEngine).keptStop = true ∧ running.keptStop = false ∧
    running.suspended = none ∧ ({ running with suspended := some .segment } : RouteEngine).suspended = some .segment ∧
    ({ running with suspended := some .passWait, keptExpiry := true } : RouteEngine).suspended = some .passWait ∧
    running.keptExpiry = false ∧ (running.list .main).position < (running.list .main).entries.length ∧
    (({ running with main := { running.main with position := 1 } } : RouteEngine).list .main).entries.length ≤ 1 ∧
    running.drain = .atSegment := by decide

/-- The third and the fourth of four tries, a tally one short of 255 and at it, a dwell of 0 and of 1. -/
theorem test_witness_TriesEnd :
    (moving running (some (inPhase .travel .nothing))).re.seg = some (inPhase .travel .nothing) ∧
    (if line.kind = .line ∧ line.alt.isSome = true then 2 * (line.retries + 1) else line.retries + 1) = 4 ∧
    ({ running with attempt := 3 } : RouteEngine).attempt < 4 ∧ 4 ≤ ({ running with attempt := 4 } : RouteEngine).attempt ∧
    ({ running with tally := 255 } : RouteEngine).tally = 255 ∧ ({ running with tally := 254 } : RouteEngine).tally ≠ 255 ∧
    line.dwell = 0 ∧ ({ line with dwell := 1 } : Segment).dwell ≠ 0 ∧ SegOutcome.guardInBackoff.cls = .fault ∧
    SegOutcome.short.cls = .hazard := by decide

/-- A segment in SETTLE with an outcome pending. -/
def settling (o : SegOutcome) (backoff : Bool) : SegRun :=
  { inPhase .settle .nothing with outcome := some o, inBackoff := backoff }

/-- A sampling check that has ended after some of its path. -/
def clearTo (len : Nat) : Sampling := { ended none with len := len, next := len / 25000 + 2 }

/-- A fault, a backoff stopped, a hazard with and without a backoff to follow; a backoff's check that leaves exactly
MinPiece and 1 µm more; a re-check of the backoff that leaves 20 mm. -/
theorem test_witness_SettlesAndBackoffs :
    ((settling .lost false).outcome = some .lost ∧ SegOutcome.lost.cls = .fault ∧
      (settling .cliffStop true).inBackoff = true ∧ (settling .cliffStop false).inBackoff = false ∧
      0 < ready.env.tun.backoffDistance ∧ ({ Config.tuning with backoffDistance := 0 } : Tuning).backoffDistance = 0) ∧
    ((clearTo 50000).finished = true ∧ (clearTo 50000).clear = 50000 ∧ (clearTo 50001).clear = 50001 ∧
      ((50000 : Nat) : Int) - (ready.tun.stopMargin * 1000 : Nat) ≤ (ready.tun.minPiece * 1000 : Nat) ∧
      (ready.tun.minPiece * 1000 : Nat) < ((50001 : Nat) : Int) - (ready.tun.stopMargin * 1000 : Nat)) ∧
    (let sr : SegRun := { settling .cliffStop false with phase := .backoff, wait := .check }
     let s := checking (some (clearTo 50000)) .engine (moving running (some sr))
     s.mo.cu.checks = { req := engineReq .rotate, run := some (clearTo 50000) } :: [] ∧
     (engineReq .rotate).owner = .engine ∧ s.mo.re.seg = some sr ∧ sr.outcome = some .cliffStop) ∧
    ((ended (some (3, ⟨46, 30, .keepOut⟩))).finished = true ∧
      (((3 - 1) * 25000 : Nat) : Int) - (ready.tun.stopMargin * 1000 : Nat) ≤ (ready.tun.minPiece * 1000 : Nat) ∧
      (under .backoff .grant .active).dp.grant.state = .active ∧ (under .backoff .grant .active).re.todo = .none ∧
      (inPhase .backoff .grant).wait = .grant ∧ (inPhase .backoff .grant).phase = .backoff) := by decide +kernel

/-- IDLE, HALTED, a segment under a grant, a drain, PassWait, a fault pending with and without a grant, and mode 3. -/
theorem test_witness_StopRouteDrainsOrCancels :
    ready.Ready ∧ (motion (under .travel .grant .active)).Ready ∧ 2 < (3 : Byte).toNat ∧ (2 : Byte) ≤ 2 ∧
    ready.mo.re.state = .idle ∧ ({ loaded with state := .halted } : RouteEngine).state = .halted ∧
    (under .travel .grant .active).re.todo = .none ∧
    (under .travel .grant .active).re.state = .running ∧ (under .travel .grant .active).re.sub = .segment ∧
    (under .travel .grant .active).re.seg = some (inPhase .travel .grant) ∧
    (inPhase .travel .grant).faulted = false ∧ (under .travel .grant .active).re.active = some .main ∧
    ((under .travel .grant .active).re.list .main).entries[((under .travel .grant .active).re.list .main).position]?
      = some (entry 3) ∧
    (under .travel .grant .active).dp.txNow = none ∧
    (moving { running with sub := .passWait } none).re.sub = .passWait ∧
    (moving { running with sub := .passWait } none).re.seg = none ∧ (settling .lost false).faulted = true ∧
    (under .settle .nothing .stopping).dp.grant.state ≠ .none ∧ (moving running none).dp.grant.state = .none :=
  ⟨ready_ready, ⟨rfl, rfl, rfl⟩, by decide +kernel⟩

/-- Postings in IDLE, in PassWait, with a segment in progress, with a fault pending, and refused; an acknowledgement
with U one short of LostLimit and at it. -/
theorem test_witness_PostingsAndAcknowledgements :
    (motion (under .travel .grant .active)).Ready ∧ (motion (moving loaded none)).Ready ∧ 1 < (2 : Byte).toNat ∧
    (1 : Byte).toNat ≤ 1 ∧ ready.mo.re.priority.entries = [] ∧ running.priority.entries ≠ [] ∧
    loaded.state = .idle ∧ loaded.switchPending = false ∧ (moving loaded none).re.seg = none ∧
    running.state = .running ∧ running.active = some .main ∧ running.sub = .segment ∧
    (moving { running with sub := .passWait } none).re.sub = .passWait ∧
    (under .travel .grant .active).re.seg = some (inPhase .travel .grant) ∧ (inPhase .travel .grant).faulted = false ∧
    (settling .lost false).faulted = true ∧
    ({ running with active := some .priority } : RouteEngine).active = some .priority ∧
    ({ loaded with state := .halted, haltCause := some .lost } : RouteEngine).haltCause = some .lost ∧
    149999 < Config.tuning.lostLimit ∧ Config.tuning.lostLimit ≤ 150000 :=
  ⟨⟨rfl, rfl, rfl⟩, ⟨rfl, rfl, rfl⟩, by decide +kernel⟩

/-- A check in WAITING with each kind of path; a re-check with its corridor record; a fill in the way; no check. -/
theorem test_witness_CheckBeginTakesItsValues :
    (moving running none).cu.checks = [] ∧ ready.env.mapBusy = false ∧ filling.env.mapBusy = true ∧
    (checking none .engine (moving running (some (inPhase .rotate .check)))).mo.cu.checks =
      { req := engineReq .rotate, run := none } :: [] ∧
    (engineReq .rotate).owner = .engine ∧ (engineReq .rotate).path = .spot ∧
    (∀ h, ({ engineReq .dockClose with path := .heading h 1 } : CheckReq).path = .heading h 1) ∧
    ({ engineReq .line with path := .target 7000000 6400000 } : CheckReq).path = .target 7000000 6400000 ∧
    ({ engineReq .line with owner := .recheck 20 } : CheckReq).owner = .recheck 20 ∧
    ({ checks := [], corridor := some ahead } : ClearanceUnit).corridor = some ahead ∧
    ready.fm.fill = none ∧ filling.fm.fill.isSome = true ∧ ready.mo.cu.checks = [] := by
  refine ⟨rfl, rfl, rfl, rfl, rfl, rfl, fun _ => rfl, rfl, rfl, rfl, rfl, rfl, rfl⟩

/-- P_0 of a Rotate check, and P_1 of a Line check. -/
theorem test_witness_CheckSampleBlocksByTheTable :
    (beginCheck ready.env (moving running none) (engineReq .rotate)).finished = false ∧
    (beginCheck ready.env (moving running none) (engineReq .rotate)).body ≤
      (beginCheck ready.env (moving running none) (engineReq .rotate)).outer ∧
    ({ beginCheck ready.env (moving running none)
        { engineReq .line with path := .target 6500000 6400000 } with next := 1 } : Sampling).finished = false ∧
    (beginCheck ready.env (moving running none) (engineReq .line)).rh ≤
      (beginCheck ready.env (moving running none) (engineReq .line)).outer ∧
    (beginCheck ready.env (moving running none) (engineReq .line)).rc ≤
      (beginCheck ready.env (moving running none) (engineReq .line)).outer := by decide +kernel

/-- A segment that waits for its ended check, its distance left 40 mm. -/
def waiting (p : Phase) (n : Nat) : SegRun := { inPhase p .check with distLeft := 40000, fullDone := n }

/-- A Rotate check blocked and not; a VET, a TRAVEL and a Reverse whose check leaves exactly MinPiece and more; a goal
at the reach of both margins and past it; a second and a third full piece; a piece of exactly PieceLength. -/
theorem test_witness_CheckResultsAreJudged :
    (checking (some (clearTo 55000)) .engine (moving running (some (waiting .travel 2)))).mo.cu.checks =
      { req := engineReq .rotate, run := some (clearTo 55000) } :: [] ∧ (clearTo 55000).finished = true ∧
    (moving running (some (waiting .travel 2))).re.seg = some (waiting .travel 2) ∧
    (waiting .travel 2).wait = .check ∧ (ended none).blocked = none ∧
    (ended (some (3, ⟨46, 30, .keepOut⟩))).blocked = some (3, ⟨46, 30, .keepOut⟩) ∧
    (ended (some (3, ⟨46, 30, .keepOut⟩))).clear = 50000 ∧ (clearTo 55000).clear = 55000 ∧
    55000 ≤ (ready.tun.stopMargin + ready.tun.arriveTolerance) * 1000 ∧
    (ready.tun.stopMargin + ready.tun.arriveTolerance) * 1000 < 55001 ∧
    ((50000 : Nat) : Int) - (ready.tun.stopMargin * 1000 : Nat) ≤ (ready.tun.minPiece * 1000 : Nat) ∧
    ((630000 : Nat) : Int) - (ready.tun.stopMargin * 1000 : Nat) ≤ (ready.tun.pieceLength * 1000 : Nat) ∧
    (ready.tun.pieceLength * 1000 : Nat) < ((630001 : Nat) : Int) - (ready.tun.stopMargin * 1000 : Nat) ∧
    (waiting .travel 2).fullDone < 3 ∧ 3 ≤ (waiting .travel 3).fullDone ∧
    (waiting .reverse 0).phase = .reverse ∧ (waiting .vet 0).phase = .vet ∧ (waiting .turn 0).phase = .turn ∧
    running.todo = .none ∧ (moving running none).dp.link = .online ∧ (moving running none).dp.grant.state = .none ∧
    ready.mo.cu.checks = [] := by decide +kernel

/-- A Reverse piece of 40 mm whose check found all clear is granted. -/
def reversing : State :=
  let sp : Sampling := { ended none with len := 70000, next := 4 }
  let sr : SegRun := { inPhase .reverse .check with distLeft := 40000 }
  let m := moving running (some sr)
  motion { m with cu := { checks := [{ req := engineReq .reverse, run := some sp }], corridor := none } }

theorem test_witness_GrantsFitTheClearCorridor :
    reversing.mo.dp.grant.state = .none ∧ reversing.mo.re.todo = .none ∧
    after (.checkResult dark) reversing (fun t => (t.mo.dp.grant.state, t.mo.dp.grant.kind, t.mo.dp.grant.amount)) =
      some (.sent, .reverse, 40000) := by decide +kernel

/-- The goal at ArriveTolerance and past it; a bearing of AlignTolerance and one more; the end heading of a Line and of
a Dock segment; two corrections made; a full piece, cut and not; a Reverse limited, done and with more to go; a
backoff. -/
theorem test_witness_PiecesAreJudged :
    ((7000000, 6400000) = (inPhase .travel .nothing).goal (moving running none) ∧
      distance 6975000 6400000 7000000 6400000 ≤ ready.env.tun.arriveTolerance * 1000 ∧
      ready.env.tun.arriveTolerance * 1000 < distance 6974999 6400000 7000000 6400000 ∧
      ready.env.tun.alignTolerance < ((((bearing 25001 0 : Nat) : Int) - 729 + 32768) % 65536 - 32768).natAbs) ∧
    line.heading = none ∧ turnSeg.heading = some 729 ∧ dockSeg.kind = .dock ∧
    (onSeg dockSeg .turn .grant .none).du.pose = some dockPose ∧
    (under .travel .grant .active).re.seg = some (inPhase .travel .grant) ∧ (inPhase .travel .grant).wait = .grant ∧
    2 ≤ ({ inPhase .align .grant with rotCorr := 2 } : SegRun).rotCorr ∧ (inPhase .align .grant).rotCorr < 2 ∧
    ({ inPhase .travel .grant with pieceFull := true } : SegRun).pieceFull = true ∧
    (inPhase .reverse .grant).pieceLimited = false ∧ (inPhase .reverse .grant).pieceCut = false ∧
    300000 - (grantIn .active).amount.toNat = 0 ∧ 300001 - (grantIn .active).amount.toNat ≠ 0 ∧
    (settling .cliffStop false).outcome = some .cliffStop ∧
    (let m := onSeg dockSeg .seek .grant .active
     m.re.seg = some { inPhase .seek .grant with seg := dockSeg } ∧ m.du.beacon.centre = false ∧
     m.du.seekTurn < 65536) ∧
    ((clearTo 55000).result (engineReq .line)).blocked = none ∧
    ((ended (some (3, ⟨46, 30, .keepOut⟩))).result (engineReq .line)).blocked.isSome = true := by decide +kernel

/-- A piece sent on the check that VET made is one of TRAVEL, so its Done goes back to the loop (R93, R94). -/
theorem test_vet_piece_is_of_travel :
    after (.checkResult dark) (checking (some (clearTo 600000)) .engine (moving running (some (waiting .vet 0))))
      (fun t => (t.mo.dp.grant.state, t.mo.dp.grant.amount, t.mo.re.seg.map fun r => (r.phase, r.wait, r.pieceFull))) =
      some (.sent, 570000, some (.travel, .grant, true)) := by decide +kernel

/-- A re-check that found nothing; one that leaves 45 mm; one that leaves exactly MinPiece, its Stop behind the frame
being sent and a waiting Trim of its grant gone. -/
theorem test_witness_RecheckTrimsOrStops :
    (checking (some (ended none)) (.recheck 20) (under .travel .grant .active)).mo.cu.checks =
      { req := { engineReq .rotate with owner := .recheck 20 }, run := some (ended none) } :: [] ∧
    (ended none).finished = true ∧ (ended (some (4, ⟨46, 30, .keepOut⟩))).finished = true ∧
    (under .travel .grant .active).re.todo = .none ∧
    (under .travel .grant .active).dp.grant.state = .active ∧ (inPhase .travel .grant).wait = .grant ∧
    (inPhase .travel .grant).phase ≠ .backoff ∧ (under .travel .grant .active).dp.txNow = none ∧
    (let m := under .travel .grant .active
     let busy := { m with dp := { m.dp with
       txNow := some (.grant 20 .travel 300000 300), txQueue := [.trimAmount 20 200000, .trimAmount 19 1] } }
     after .recheckResult (checking (some (ended (some (3, ⟨46, 30, .keepOut⟩)))) (.recheck 20) busy)
       (fun t => (t.mo.dp.txNow, t.mo.dp.txQueue, t.mo.re.seg.map fun r => (r.phase, r.outcome))) =
         some (some (.grant 20 .travel 300000 300), [.trimAmount 19 1, .stop 20 .hazard], some (.settle, some .blocked))) ∧
    (Config.tuning.minPiece * 1000 : Nat) < (((4 - 1) * 25000 : Nat) : Int) - (Config.tuning.stopMargin * 1000 : Nat) ∧
    (((3 - 1) * 25000 : Nat) : Int) - (Config.tuning.stopMargin * 1000 : Nat) ≤ (Config.tuning.minPiece * 1000 : Nat) := by
  decide +kernel

/-- A grant held back. -/
def heldGrant : ReadyGrant := { kind := .travel, amount := 300000, cap := 300, corridor := some ahead }

/-- A segment whose grant is held, with the record NONE and STOPPING, and with the link gone; a dwell at its end and one
ms before it, before a primary and an alternate try. -/
theorem test_witness_HeldGrantsAndDwellsGoOn :
    (let sr : SegRun := { inPhase .travel .held with ready := some heldGrant }
     (moving running (some sr)).re.seg = some sr ∧ sr.wait = .held ∧ sr.ready = some heldGrant ∧
     (moving running (some sr)).dp.link = .online ∧ (moving running (some sr)).dp.grant.state = .none ∧
     (moving running (some sr)).re.todo = .none ∧
     after .heldGrantRelease (motion (moving running (some sr))) (fun t => (t.mo.dp.grant.state, t.mo.dp.grant.amount)) =
       some (.sent, 300000)) ∧
    (under .travel .held .stopping).dp.grant.state ≠ .none ∧ Motion.reset.dp.link ≠ .online ∧
    (inPhase .dwell .nothing).phase = .dwell ∧ (inPhase .dwell .nothing).seg.kind = .line ∧
    (inPhase .dwell .nothing).dwellLeft = 0 ∧ ({ inPhase .dwell .nothing with dwellLeft := 1 } : SegRun).dwellLeft ≠ 0 ∧
    (moving running none).cu.checks = [] ∧ ready.fm.fill = none ∧
    running.attempt + 1 ≤ line.retries + 1 ∧ line.retries + 1 < ({ running with attempt := 2 } : RouteEngine).attempt + 1 ∧
    line.alt = some (7000000, 6450000) := by decide +kernel

/-- A grant to stop and trim, and one that is STOPPING; a frame cut short, and one received whole; two received whole
before a frame cut short, which a gap alone takes out. -/
theorem test_witness_FramesAreSentAndReceived :
    (under .travel .grant .active).dp.grant.state = .active ∧ (under .travel .grant .stopping).dp.grant.state = .stopping ∧
    takeFrame [0xC3, 0x01] = none ∧ takeFrame still.frame = some (still, []) ∧
    huntFrame [0xC3, 0x01] = [0xC3, 0x01] ∧
    (let two := [still, { still with seq := 2 }].flatMap Report.frame
     let s := motion { Motion.reset with dp := { DrivePort.reset with rx := two ++ [0xC3, 0x01] } }
     after .rxGapTimeout s (fun t => t.mo.dp.rx) = some two) := by decide +kernel

/-- What the expiry of the watch leaves of the record, the halt cause and the last outcome, with a grant STOPPING. -/
def expired (re : RouteEngine) : Option (GrantState × Option SegOutcome × Option SegOutcome) :=
  let m := under .settle .nothing .stopping
  after .driveWatchExpiry (motion { m with dp := { m.dp with watch := some 0 }, re := re })
    fun t => (t.mo.dp.grant.state, t.mo.re.haltCause, t.mo.re.lastOutcome)

/-- A grant STOPPING at the expiry with no segment in progress (the settle after STOP ROUTE Now), the engine IDLE and
HALTED, and in SETTLE with a hazard and with a fault pending. -/
theorem test_witness_DriveWatchDropsTheGrant_in_settle :
    (under .settle .nothing .stopping).dp.grant.state ≠ .none ∧ loaded.seg = none ∧ loaded.state ≠ .halted ∧
    loaded.todo = .none ∧ (settling .blocked true).faulted = false ∧ (settling .lost false).outcome = some .lost ∧
    expired loaded = some (.none, some .driveLost, none) ∧
    expired { loaded with state := .halted, haltCause := some .stall } = some (.none, some .stall, none) ∧
    expired { running with seg := some (settling .blocked true) } = some (.none, some .driveLost, some .driveLost) ∧
    expired { running with seg := some (settling .lost false) } = some (.none, some .lost, some .lost) := by
  decide +kernel

/-- The watch at 0 and not; a grant outstanding and none; U at LostLimit; a fault pending and none; no segment, in
HALTED and not. -/
theorem test_witness_DriveWatchDropsTheGrant :
    ready.mo.dp.watch ≠ some 0 ∧
    (let s := motion { under .travel .grant .active with dp := { (under .travel .grant .active).dp with watch := some 0 } }
     s.mo.dp.watch = some 0 ∧ s.mo.dp.grant.state ≠ .none ∧ s.mo.re.todo = .none ∧
     after .driveWatchExpiry s (fun t => (t.mo.dp.link, t.mo.dp.grant.state, t.mo.re.haltCause)) =
       some (.silent, .none, some .driveLost)) ∧
    (let m := under .travel .grant .active
     let busy := motion { m with dp := { m.dp with
       watch := some 0, txNow := some (.grant 20 .travel 300000 300), txQueue := [.trimAmount 20 100000] } }
     after .driveWatchExpiry busy (fun t => (t.mo.dp.txNow, t.mo.dp.txQueue)) =
       some (some (.grant 20 .travel 300000 300), [.stop 20 .fault])) ∧
    (under .settle .nothing .stopping).dp.grant.state = .stopping ∧
    (inPhase .travel .grant).outcome = none ∧ (inPhase .travel .grant).faulted = false ∧
    (settling .lost false).faulted = true ∧ running.active = some .main ∧
    (running.list .main).entries[(running.list .main).position]? = some (entry 3) ∧
    (moving running none).dp.grant.state = .none ∧ (moving running none).re.seg = none ∧ running.state ≠ .halted ∧
    ({ loaded with state := .halted } : RouteEngine).state = .halted ∧ ready.tun.lostLimit ≤ 150000 ∧
    (moving running none).pu.u < ready.tun.lostLimit := by decide +kernel

/-- A state that a report with a given drive state and echo finds, under a grant in a state. -/
def reported (p : Phase) (w : Wait) (st : GrantState) (miss settle : Nat) : State :=
  let m := under p w st
  motion { m with
    pu := { m.pu with base := { left := 0, right := 0, yaw := 0, held := true } }
    dp := { m.dp with grant := { m.dp.grant with miss := miss, settle := settle } } }

/-- A report whose first 7 bytes stand in the receiver, behind a byte that begins no frame and before one of the next;
bytes that complete none. An echo and a miss, the second and the third; Moving, Done, Idle and Stalled, in TRAVEL and in BACKOFF; STOPPING
with the drive at rest, in SETTLE, in DOCKED and in neither, and with it moving for the second and the third report. -/
theorem test_witness_ReportsJudgeTheGrant :
    (still.frame.take 7 ++ (still.frame.drop 7 ++ [0xC3]) = still.frame ++ [0xC3] ∧
      huntFrame (still.frame.take 7 ++ (still.frame.drop 7 ++ [0xC3])) = still.frame ++ [0xC3] ∧
      huntFrame ([0x01] ++ still.frame) = still.frame ++ [] ∧ huntFrame [0xC3] = [0xC3] ∧
      takeFrame (huntFrame ([] ++ still.frame.take 7)) = none) ∧
    (reported .travel .grant .active 1 0).mo.dp.rx = [] ∧ (reported .travel .grant .active 1 0).mo.re.todo = .none ∧
    (State.posed (reported .travel .grant .active 1 0) still dark).mo.re.todo = .none ∧
    (State.posed (reported .travel .grant .active 1 0) still dark).mo.pu.u < ready.tun.lostLimit ∧
    (State.posed (reported .travel .grant .sent 1 0) still dark).mo.dp.grant.state = .sent ∧
    (State.posed (quiet true) still dark).mo.dp.grant.state = .none ∧
    still.echo.toNat ≠ (grantIn .sent).id ∧ ({ still with echo := 20 } : Report).echo.toNat = (grantIn .sent).id ∧
    (State.posed (reported .travel .grant .active 1 0) still dark).mo.dp.grant.miss + 1 < ready.tun.echoLimit ∧
    ready.tun.echoLimit ≤ (State.posed (reported .travel .grant .active 2 0) still dark).mo.dp.grant.miss + 1 ∧
    (State.posed (reported .travel .grant .active 0 0) still dark).mo.re.seg = some (inPhase .travel .grant) ∧
    (inPhase .travel .grant).wait = .grant ∧ (inPhase .travel .grant).phase ≠ .backoff ∧
    (inPhase .backoff .grant).phase = .backoff ∧
    (State.posed (reported .settle .nothing .stopping 0 1) still dark).mo.dp.grant.state = .stopping ∧
    (State.posed (reported .settle .nothing .stopping 0 1) still dark).mo.dp.grant.settle + 1 < ready.tun.echoLimit ∧
    ready.tun.echoLimit ≤ (State.posed (reported .settle .nothing .stopping 0 2) still dark).mo.dp.grant.settle + 1 ∧
    (inPhase .settle .nothing).phase = .settle ∧ (inPhase .docked .nothing).phase = .docked ∧
    (inPhase .vet .check).phase ≠ .settle := by decide +kernel

/-- What a report of state Done, of the echo of the grant, leaves of it; what a Stalled one leaves. -/
theorem test_reports_under_a_grant :
    after (.driveReport { still with echo := 20, drive := .done }.frame dark) (reported .travel .grant .active 0 0)
      (fun t => t.mo.dp.grant.state) = some .none ∧
    after (.driveReport { still with echo := 20, drive := .stalled }.frame dark) (reported .travel .grant .active 0 0)
      (fun t => (t.mo.dp.grant.state, t.mo.re.seg.map fun r => (r.phase, r.outcome))) =
        some (.stopping, some (.settle, some .stall)) := by decide +kernel

/-- HomeLevel and one below it, from above; 19 and 20 from below; a crossing in RUN that may post, one that may not,
and one of a PARKED part with its enable set and clear; a latch that the guard may release. -/
theorem test_witness_BatteryAndGuardRelease :
    (∀ sr, (quiet true).mo.re.seg = some sr → sr.phase ≠ .close ∨ (quiet true).mo.dp.grant.state ≠ .active) ∧
    (quiet true).mo.re.latch = .above ∧ ready.tun.homeLevel ≤ min 100 (15 : Byte).toNat ∧
    min 100 (14 : Byte).toNat < ready.tun.homeLevel ∧ min 100 (19 : Byte).toNat < ready.tun.homeLevel + 5 ∧
    ready.tun.homeLevel + 5 ≤ min 100 (20 : Byte).toNat ∧
    ({ loaded with latch := .below } : RouteEngine).latch = .below ∧ (quiet true).mo.eu.device = .run ∧
    (parked true).mo.eu.device = .parked ∧ (parked true).mo.eu.wakeBattery = true ∧
    (parked false).mo.eu.wakeBattery = false ∧ ({ loaded.priority with homeOnLow := true } : RunList).homeOnLow = true ∧
    loaded.priority.homeOnLow = false ∧ loaded.priority.entries ≠ [] ∧ loaded.switchPending = false ∧
    loaded.state = .idle ∧ running.active = some .main ∧
    ({ Motion.reset.hg with state := .tripped } : HazardGuard).state = .tripped ∧ still.drive = .idle :=
  ⟨fun _ h => (by cases h), by decide +kernel⟩

/-- The light and dark sides of CliffLevel; a count one short over Rug, and one that reaches it. -/
theorem test_witness_CliffSamplesTrip :
    ready.projected .fl = (6560000, 6460000) ∧ (6559999 : Int) ≤ 12799999 ∧
    (let s := motion { Motion.reset with pu := { PoseUnit.reset with x := 159999, theta := 32768 } }
     s.projected .fl = (-1, 6340000)) ∧
    ready.mo.hg.state ≠ .off ∧ ready.tun.cliffLevel ≤ (40 : Byte).toNat ∧ (39 : Byte).toNat < ready.tun.cliffLevel ∧
    (ready.mo.hg.cliff .fl).state ≠ .tripped ∧ ready.classUnder .fl = .unknown ∧
    (let c := cellOf 6560000 6460000
     (withCell c { drop with cls := .rug } ready).classUnder .fl = .rug) ∧
    min 15 (4 + 1) < ready.tun.rugConfirm ∧ ready.tun.rugConfirm ≤ min 15 (5 + 1) ∧
    Memory.wf CellRec.swept ready.fm.cells ∧ ready.mo.re.todo = .none ∧
    (under .travel .grant .sent).hg.state = .armed ∧ Phase.travel.standing = false ∧
    (motion ((moving loaded none).park false)).mo.hg.state = .off := by decide +kernel

/-- A bump window of the left bumper opened at the time 0, and the part some ms after. -/
def bumped (ms : Word) : State :=
  let m := (quiet true).mo
  motion { m with
    hg := { m.hg with window := some { byLeft := true, x := 2000000, y := 1000000, theta := 0, time := 0 } }
    eu := { m.eu with time := ms } }

/-- A held line; an assertion of a wheel and of a bumper, of a TRIPPED guard too; the other bumper and the same after
exactly 5 ms, and after 6; an open window 4 and 5 ms old; a side whose point lies in the map and one whose does not, and
the same of the point ahead, which the other bumper marks unless the pose is lost. -/
theorem test_witness_LineSamplesTrip :
    (quiet true).mo.Still ∧ (bumped 4).mo.Still ∧ (quiet true).mo.hg.state = .armed ∧
    ({ (quiet true).mo.hg with state := .tripped } : HazardGuard).state = .tripped ∧
    (quiet true).mo.pu.u < (quiet true).tun.lostLimit ∧ ready.tun.lostLimit ≤ ready.mo.pu.u ∧
    Memory.wf CellRec.swept (quiet true).fm.cells ∧ (quiet true).mo.hg.lines.get .wl = false ∧
    (quiet true).mo.hg.lines.get .br = false ∧ (quiet true).mo.hg.window = none ∧
    (∃ v, (bumped 5).mo.hg.window = some v ∧ v.byLeft = true ∧ ((bumped 5).mo.eu.time - v.time).toNat ≤ 5 ∧
      5 ≤ ((bumped 5).mo.eu.time - v.time).toNat) ∧
    (∃ v, (bumped 4).mo.hg.window = some v ∧ ((bumped 4).mo.eu.time - v.time).toNat < 5) ∧
    (∃ v, (bumped 6).mo.hg.window = some v ∧ 5 < ((bumped 6).mo.eu.time - v.time).toNat) ∧
    ((5461 : Nat) : Int) = (0 + 5461) % 65536 ∧ ((60075 : Nat) : Int) = (0 + -5461) % 65536 ∧
    cellOfPoint (pointAlong 2000000 1000000 5461 195000).1 (pointAlong 2000000 1000000 5461 195000).2 =
      some ⟨43, 21⟩ ∧
    cellOfPoint (pointAlong 2000000 1000000 0 195000).1 (pointAlong 2000000 1000000 0 195000).2 = some ⟨43, 20⟩ ∧
    cellOfPoint (pointAlong 0 0 60075 195000).1 (pointAlong 0 0 60075 195000).2 = none ∧
    cellOfPoint (pointAlong 0 0 32768 195000).1 (pointAlong 0 0 32768 195000).2 = none ∧
    (let lost := motion { (bumped 5).mo with pu := { (bumped 5).mo.pu with u := (bumped 5).tun.lostLimit } }
     after (.lineSample .br true) lost (fun t => (t.mo.hg.window, t.fm)) = some (none, lost.fm)) ∧
    after (.lineSample .br true) (bumped 5) (fun t => (t.mo.hg.window, (t.fm.cellAt ⟨43, 20⟩).cls)) =
      some (none, .obstacle) :=
  ⟨⟨rfl, rfl⟩, ⟨rfl, rfl⟩, by decide, by decide, by decide +kernel, by decide +kernel, by decide, by decide, by decide,
    by decide, ⟨_, rfl, rfl, by decide, by decide⟩, ⟨_, rfl, by decide⟩, ⟨_, rfl, by decide⟩, by decide +kernel⟩

/-- A trip in OFF; of an ARMED guard with each state of the record; of a TRIPPED one; in DOCKED, in SETTLE with a
fault and with a hazard, in BACKOFF, under a grant, and waiting for a check. -/
theorem test_witness_TripsByPhase :
    (parked true).mo.hg.state = .off ∧ (under .travel .grant .active).hg.state = .armed ∧
    (under .travel .grant .active).re.todo = .none ∧ (under .travel .grant .active).dp.grant.state = .active ∧
    (under .settle .nothing .stopping).dp.grant.state = .stopping ∧ (moving running none).re.seg = none ∧
    ({ (under .travel .grant .active).hg with state := .tripped } : HazardGuard).state = .tripped ∧
    (inPhase .docked .nothing).phase = .docked ∧ (settling .lost false).faulted = true ∧
    (settling .blocked true).faulted = false ∧ (settling .blocked true).phase = .settle ∧
    (inPhase .backoff .grant).phase = .backoff ∧ (inPhase .travel .grant).wait = .grant ∧
    (inPhase .vet .check).wait ≠ .grant ∧ (inPhase .vet .check).phase ≠ .docked := by decide

/-- A trip in BACKOFF halts with GuardInBackoff once its grant has settled, and one in SETTLE replaces a Blocked. -/
theorem test_trips_in_backoff_and_settle :
    (((motion (under .backoff .grant .active)).trip .bumpStop none).mo.re.seg.map fun r => (r.phase, r.outcome)) =
      some (.settle, some .guardInBackoff) ∧
    (((motion (moving running (some (settling .blocked true)))).trip .bumpStop none).mo.re.seg.map
      fun r => (r.outcome, r.inBackoff)) = some (some .bumpStop, false) := by decide +kernel

/-- The sample that makes the change due, and one while it is; changes both ways, of a docked part too, and of one that
a Line takes off its dock. -/
theorem test_witness_ContactIsDebounced :
    (∀ sr, (under .travel .grant .active).re.seg = some sr → sr.seg.kind ≠ .dock) ∧ ready.mo.du.changeDue = false ∧
    (parked true).mo.du.changeDue = true ∧
    true ≠ ready.mo.du.contact ∧
    (DockUnit.sampled 20 true { DockUnit.reset with run := 18 }).changeDue = false ∧
    (DockUnit.sampled 20 true { DockUnit.reset with run := 19 }).changeDue = true ∧
    ready.mo.eu.device = .run ∧
    (let s := motion { Motion.reset with du := { DockUnit.reset with contact := true, docked := true, changeDue := true } }
     s.mo.du.contact = true ∧ s.mo.du.docked = true ∧ s.mo.du.changeDue = true ∧
     after .contactChange s (fun t => (t.mo.du.docked, t.mo.eu.flagged .undocked)) = some (false, true)) ∧
    (let m := under .travel .grant .active
     let off := motion { m with du := { m.du with contact := true, docked := true, changeDue := true } }
     after .contactChange off (fun t => (t.mo.du.docked, t.mo.eu.flagged .undocked, t.mo.re.seg)) =
       some (false, true, m.re.seg)) :=
  ⟨fun _ h => (by cases h; decide), by decide +kernel⟩

/-- A judgement of SEEK short of a full turn and at it; a CLOSE piece's Done near, seen within twice DockStandoff and past
it, dark for the second and the third time, with and without an earlier loss; a check of SEEK, CLOSE and MATE; a
judgement under the Creep of a new pattern and of the last. -/
theorem test_witness_SeekAndCloseFollowTheBeam :
    (onSeg dockSeg .seek .nothing .none).re.seg = some { inPhase .seek .nothing with seg := dockSeg } ∧
    beamPattern dark ≠ .centre ∧ beamPattern { dark with centre := true } = .centre ∧
    ({ DockUnit.reset with seekTurn := 65535 } : DockUnit).seekTurn < 65536 ∧
    65536 ≤ ({ DockUnit.reset with seekTurn := 65536 } : DockUnit).seekTurn ∧
    (onSeg dockSeg .close .grant .active).du.pose = some dockPose ∧
    ({ inPhase .close .grant with seg := dockSeg } : SegRun).wait = .grant ∧ dark.near = false ∧
    ({ dark with near := true } : Beacon).near = true ∧ 600000 ≤ 2 * dockPose.standoff * 1000 ∧
    2 * dockPose.standoff * 1000 < 600001 ∧ 1 + 1 < 3 ∧ 3 ≤ 2 + 1 ∧ DockUnit.reset.losses = 0 ∧
    ({ DockUnit.reset with losses := 1 } : DockUnit).losses ≠ 0 ∧ (clearTo 50000).finished = true ∧
    ((50000 : Nat) : Int) - (ready.tun.stopMargin * 1000 : Nat) ≤ (ready.tun.minPiece * 1000 : Nat) ∧
    (ready.tun.minPiece * 1000 : Nat) < ((50001 : Nat) : Int) - (ready.tun.stopMargin * 1000 : Nat) ∧
    (let s := checking (some (clearTo 50001)) .engine (onSeg dockSeg .close .check .none)
     s.mo.cu.checks = { req := engineReq .rotate, run := some (clearTo 50001) } :: [] ∧
     s.mo.re.seg = some { inPhase .close .check with seg := dockSeg }) ∧
    (onSeg dockSeg .close .grant .active).dp.grant.state = .active ∧
    (onSeg dockSeg .close .grant .active).du.lastPattern = none ∧ ready.tun.nudgeStep ≠ 0 ∧
    beamPattern { dark with left := true } = .left ∧ beamPattern { dark with right := true } = .right := by
  decide +kernel

/-- The contact going On under the MATE Creep stops it in DOCKED; at rest, the pose snaps and Docked is raised. -/
theorem test_contact_docks :
    (let m := onSeg dockSeg .mate .grant .active
     let s := motion { m with du := { m.du with changeDue := true, phase := .mate } }
     after .contactChange s (fun t => (t.mo.dp.grant.state, t.mo.du.phase, t.mo.re.seg.map (·.phase))) =
       some (.stopping, .docked, some .docked)) ∧
    after (.driveReport { still with drive := .holding }.frame dark) (motion (onSeg dockSeg .docked .nothing .stopping))
      (fun t => (t.mo.pu.x, t.mo.pu.u, t.mo.du.docked, t.mo.eu.flagged .docked, t.mo.re.lastOutcome)) =
      some (1000000, 5000, true, true, some .arrived) := by decide +kernel

/-- A MATE Creep's Done on and off the contacts, limited and not; DOCKED entered with the record NONE, STOPPING and
ACTIVE; DockUncertainty at LostLimit and one below; a contact change in a phase, with an outcome pending, and Off in the
wait of DOCKED. -/
theorem test_witness_MateAndDocked :
    (onSeg dockSeg .mate .grant .active).re.seg = some { inPhase .mate .grant with seg := dockSeg } ∧
    (onSeg dockSeg .mate .grant .active).du.contact = false ∧
    ({ DockUnit.reset with contact := true } : DockUnit).contact = true ∧ (inPhase .mate .grant).pieceLimited = false ∧
    ({ inPhase .mate .grant with pieceCut := true } : SegRun).pieceCut = true ∧
    (onSeg dockSeg .mate .nothing .none).dp.grant.state = .none ∧
    (onSeg dockSeg .mate .nothing .stopping).dp.grant.state = .stopping ∧
    (onSeg dockSeg .mate .grant .active).du.pose = some dockPose ∧
    ({ Config.tuning with lostLimit := 5000 } : Tuning).lostLimit ≤ Config.tuning.dockUncertainty ∧
    Config.tuning.dockUncertainty < ({ Config.tuning with lostLimit := 5001 } : Tuning).lostLimit ∧
    ({ DockUnit.reset with changeDue := true, phase := .mate } : DockUnit).phase ≠ .none ∧
    (inPhase .mate .grant).outcome = none ∧ (inPhase .mate .grant).phase ≠ .docked ∧
    (settling .dockMissed false).outcome ≠ none ∧ running.todo = .none ∧ dockSeg.kind = .dock ∧
    (inPhase .docked .nothing).phase = .docked := by decide +kernel

/-- The time base passes from its largest value to 0. -/
theorem test_witness_TickCountsAMillisecond :
    after .timeBaseTick
      (motion { Motion.reset with eu := { EventUnit.reset with time := 0xFFFFFFFF } }) (·.mo.eu.time) = some 0 := by
  decide +kernel

/-- Two disjoint sets, and two that share causes 3 and 15. -/
theorem test_witness_EventsAreReadAndArmed :
    ready.Ready ∧ (0x8000 : Half) &&& 0x7FFF = 0 ∧ ((0x8008 : Half) &&& 0x8009).getLsbD 3 = true ∧
    (∀ k, k < 3 → ((0x8008 : Half) &&& 0x8009).getLsbD k = false) ∧ (1 : Byte) < 2 ∧ (1 : Byte) ≤ 1 :=
  ⟨ready_ready, by decide⟩

/-- The timer in PASS, due with a reload left, due with none, and in ALARM of a PARKED part; an engine in PassWait, and
one on the Priority List with the Main List suspended in it. -/
theorem test_witness_PassTimerRunsOut :
    ready.Ready ∧ (1000 : Half) = 1000 ∧ (255 : Byte) ≠ 0 ∧ ready.mo.eu.timer.state = .stopped ∧
    ({ TimerRun.idle with state := .pass, reloads := 1 } : TimerRun).count = 0 ∧
    ({ TimerRun.idle with state := .pass } : TimerRun).state = .pass ∧
    ({ TimerRun.idle with state := .alarm } : TimerRun).reloads = 0 ∧ (999 : Half) ≠ 1000 ∧ (999 : Half) ≠ 100 ∧
    (motion (Motion.reset.park false)).mo.eu.device = .parked ∧ running.sub ≠ .passWait ∧
    running.suspended ≠ some .passWait ∧ running.todo = .none ∧ running.state = .running ∧ running.active = some .main ∧
    ({ running with sub := .passWait } : RouteEngine).sub = .passWait ∧
    ({ running with suspended := some .passWait, active := some .priority } : RouteEngine).suspended = some .passWait :=
  ⟨ready_ready, by decide⟩

/-- An accepted PARK, one refused for each of its four conditions, and one refused for its Alarm field. -/
theorem test_witness_ParkStopsTheGuard :
    ready.Ready ∧ ready.mo.re.state = .idle ∧ ready.mo.dp.grant.state = .none ∧ ready.fm.fill = none ∧
    ready.cs.burn = none ∧ 0 < ({ EventUnit.reset.settings with initial := 1 } : TimerSettings).initial ∧
    running.state ≠ .idle ∧ (grantIn .stopping).state ≠ .none ∧ filling.fm.fill ≠ none ∧ 1 < (2 : Byte).toNat ∧
    ready.mo.eu.settings.initial = 0 :=
  ⟨ready_ready, by decide⟩

/-- The default record and one whose last field is the only one out of range; two Blank slots and none; a burn one ms
from its end and at it. -/
theorem test_witness_CalibrationIsBurntOnce :
    ready.Ready ∧ (burning 1).Ready ∧ ready.mo.re.state = .idle ∧ running.state ≠ .idle ∧
    (calibrationValues { Config.calibration with srL := 301 })[10]? = some 301 ∧
    calibrationRanges[10]? = some (-300, 300) ∧ (calibrationValues Config.calibration).length = 11 ∧
    ((calibrationValues Config.calibration).zip calibrationRanges).all (fun p => p.2.1 ≤ p.1 && p.1 ≤ p.2.2) = true ∧
    ready.cs.burn = none ∧ ready.cs.first = .blank ∧ (CalSlot.spoiled : CalSlot) ≠ .blank ∧
    (burning 1).cs.burn.isSome = true ∧ (∃ b, (burning 1).cs.burn = some b ∧ b.left ≠ 0) ∧
    (∃ b, (burning 0).cs.burn = some b ∧ b.left = 0) ∧ ready.cs.BurnOk ∧ ∃ t, step ready = .next t :=
  ⟨ready_ready, ⟨rfl, rfl, rfl⟩, by decide, by decide, by decide, by decide, by decide, by decide, by decide, by decide,
    by decide, by decide, ⟨_, rfl, by decide⟩, ⟨_, rfl, by decide⟩, trivial, _, rfl⟩

/-- A part under a grant with the transmitter idle and busy, one with no grant, and a burn. -/
theorem test_witness_SoftResetKeepsAndReturns : (motion (under .travel .grant .active)).Ready ∧ (burning 1).Ready ∧
    (motion (under .travel .grant .active)).cs.burn = none ∧ (under .travel .grant .active).dp.grant.state ≠ .none ∧
    (under .travel .grant .active).dp.txNow = none ∧ ready.mo.dp.grant.state = .none ∧
    ({ DrivePort.reset with txNow := some (.stop 1 .cancel) } : DrivePort).txNow = some (.stop 1 .cancel) ∧
    (burning 1).cs.burn.isSome = true ∧
    (let open' : RunList := { running.main with entries := [{ entry 3 with desc := openedDesc 7 }] }
     (open'.entries[0]?.map fun e => e.desc.outcome) = some .inProgress ∧
     after .softReset (motion (moving { running with main := open', attempt := 3 } (some (inPhase .travel .grant))))
       (fun t => (t.mo.re.main.entries.map fun e => (e.desc.outcome, e.desc.start, e.desc.attempts, e.desc.altUsed))) =
       some [(.recorded .cancelled, 7, 3, true)]) :=
  ⟨⟨rfl, rfl, rfl⟩, ⟨rfl, rfl, rfl⟩, by decide +kernel⟩

end Sys2Proof.Tests
end

section
/-! SUPPORT. The Floor Map's family of statements: how one cell's change moves its sector's counts (R10), what
every operation of the part can do to the Floor Map, and from that the two invariants over every step (R7, R10);
then the map requests that read and set (R13, R15, R16, R20, R28). -/

namespace Sys2Proof.Machine
open Sys2Proof

/-! ## Cells of the map and of a sector -/

/-- The address tells the cells of the map apart. -/
theorem CellIx.eq_of_addr {c d : CellIx} (hc : c.InMap) (hd : d.InMap) (h : c.addr = d.addr) : c = d := by
  obtain ⟨cx, cy⟩ := c
  obtain ⟨dx, dy⟩ := d
  simp only [CellIx.InMap, CellIx.addr, CellIx.mk.injEq] at *
  omega

theorem CellIx.inMap_ofAddr {a : Nat} (h : a < Config.gridCells) : (CellIx.ofAddr a).InMap := by
  simp only [CellIx.InMap, CellIx.ofAddr, Config.gridCells] at *
  omega

theorem CellIx.sector_lt {c : CellIx} (h : c.InMap) : c.sector < 256 := by
  simp only [CellIx.InMap, CellIx.sector] at *
  omega

/-- A cell whose coordinates are inside the map is a cell of the map. -/
theorem cellOf_inMap {x y : Nat} (hx : x ≤ Config.mapMax) (hy : y ≤ Config.mapMax) : (cellOf x y).InMap := by
  simp only [CellIx.InMap, cellOf, Config.mapMax, Config.cellSize] at *
  omega

theorem cellOfPoint_inMap {x y : Int} {c : CellIx} (h : cellOfPoint x y = some c) : c.InMap := by
  unfold cellOfPoint at h
  split at h
  · cases h
    apply cellOf_inMap <;> omega
  · cases h

/-- A window's cells are cells of the map (R14). -/
theorem Window.Has.inMap {w : Window} {c : CellIx} (h : w.Has c) (hw : w.Ok) : c.InMap :=
  ⟨h.xHi.trans hw.xMax, h.yHi.trans hw.yMax⟩

/-- The cells listed for a sector are the cells of the map with its index. -/
theorem mem_sectorCells {k : Nat} (hk : k < 256) {c : CellIx} :
    c ∈ sectorCells k ↔ c.InMap ∧ c.sector = k := by
  obtain ⟨cx, cy⟩ := c
  simp only [sectorCells, List.mem_map, List.mem_range, CellIx.mk.injEq, CellIx.InMap, CellIx.sector]
  constructor
  · rintro ⟨j, hj, rfl, rfl⟩
    omega
  · rintro ⟨hc, hs⟩
    exact ⟨cy % 16 * 16 + cx % 16, by omega⟩

theorem sectorCells_nodup (k : Nat) : (sectorCells k).Nodup := by
  refine List.Nodup.map (fun i j h => ?_) List.nodup_range
  simp only [CellIx.mk.injEq] at h
  omega

/-! ## One cell's change and the counts of its sector (R10) -/

/-- Two properties that agree but at one place count alike but for that place. -/
theorem countP_agree_off {α : Type} [DecidableEq α] {l : List α} (hl : l.Nodup) {a : α} (ha : a ∈ l)
    {p q : α → Bool} (h : ∀ x ∈ l, x ≠ a → q x = p x) : l.countP q + (p a).toNat = l.countP p + (q a).toNat := by
  have hp := List.perm_cons_erase ha
  have rest : (l.erase a).countP q = (l.erase a).countP p :=
    List.countP_congr fun x hx => by rw [h x (List.mem_of_mem_erase hx) ((hl.mem_erase_iff.1 hx).1)]
  rw [hp.countP_eq q, hp.countP_eq p, List.countP_cons, List.countP_cons, rest]
  cases p a <;> cases q a <;> simp

/-- A cell at another address reads as before. -/
theorem FloorMap.cellAt_putCell_other (c : CellIx) (r : CellRec) (fm : FloorMap) {d : CellIx}
    (h : d.addr ≠ c.addr) : (fm.putCell c r).cellAt d = fm.cellAt d :=
  fm.read_putCell_other c r h

/-- A count over the changed cell's own sector exchanges what the old record gave for what the new one gives. -/
theorem FloorMap.countIn_putCell_own {c : CellIx} (hc : c.InMap) (r : CellRec) {fm : FloorMap}
    (h : Memory.wf CellRec.swept fm.cells) (p : CellRec → Bool) :
    (fm.putCell c r).countIn c.sector p + (p (fm.cellAt c)).toNat = fm.countIn c.sector p + (p r).toNat := by
  have mem {d : CellIx} := mem_sectorCells (c := d) (CellIx.sector_lt hc)
  have agree : ∀ d ∈ sectorCells c.sector, d ≠ c →
      p ((fm.putCell c r).cellAt d) = p (fm.cellAt d) := fun d hd hne => by
    rw [fm.cellAt_putCell_other c r fun e => hne (CellIx.eq_of_addr (mem.1 hd).1 hc e)]
  have := countP_agree_off (sectorCells_nodup _) (mem.2 ⟨hc, rfl⟩) agree
  rwa [fm.cellAt_putCell_same c r h] at this

/-- A count over another sector stands. -/
theorem FloorMap.countIn_putCell_other {c : CellIx} (hc : c.InMap) (r : CellRec) (fm : FloorMap) {k : Nat}
    (hk : k < 256) (hne : k ≠ c.sector) (p : CellRec → Bool) :
    (fm.putCell c r).countIn k p = fm.countIn k p := by
  refine List.countP_congr fun d hd => ?_
  obtain ⟨hd, hs⟩ := (mem_sectorCells hk).1 hd
  rw [fm.cellAt_putCell_other c r fun e => hne (by rw [← hs, CellIx.eq_of_addr hd hc e])]

/-- The count a class is kept in; Free cells have none (section 1.2). -/
def SectorRec.ofClass (r : SectorRec) : CellClass → Nat
  | .unknown => r.unknown
  | .free => 0
  | .rug => r.rug
  | .obstacle => r.obstacle
  | .cliff => r.cliff
  | .keepOut => r.keepOut
  | .dock => r.dock

/-- A sector's record is its class counts and its visited count. -/
theorem SectorRec.ext_ofClass {r q : SectorRec} (h : ∀ k, k ≠ .free → r.ofClass k = q.ofClass k)
    (hv : r.visited = q.visited) : r = q := by
  have hu := h .unknown (by decide)
  have hr := h .rug (by decide)
  have ho := h .obstacle (by decide)
  have hk := h .keepOut (by decide)
  have hc := h .cliff (by decide)
  have hd := h .dock (by decide)
  obtain ⟨⟩ := r
  obtain ⟨⟩ := q
  simp_all [SectorRec.ofClass]

/-- A change of one class's count is a change of that count alone. -/
theorem SectorRec.ofClass_atClass (c : CellClass) (f : Nat → Nat) (r : SectorRec) {k : CellClass}
    (hk : k ≠ .free) : (r.atClass c f).ofClass k = if c = k then f (r.ofClass k) else r.ofClass k := by
  cases k with
  | free => exact absurd rfl hk
  | _ => cases c <;> rfl

@[simp] theorem SectorRec.visited_atClass (c : CellClass) (f : Nat → Nat) (r : SectorRec) :
    (r.atClass c f).visited = r.visited := by cases c <;> rfl

@[simp] theorem SectorRec.visited_moveClass (old new : CellClass) (r : SectorRec) :
    (r.moveClass old new).visited = r.visited := by
  unfold SectorRec.moveClass
  split <;> simp

@[simp] theorem SectorRec.ofClass_moveVisited (old new : Bool) (r : SectorRec) (k : CellClass) :
    (r.moveVisited old new).ofClass k = r.ofClass k := by
  cases old <;> cases new <;> cases k <;> rfl

/-- A class change takes one from the old class's count and gives one to the new class's. -/
theorem SectorRec.ofClass_move (old new : CellRec) (r : SectorRec) {k : CellClass} (hk : k ≠ .free) :
    (r.move old new).ofClass k =
      r.ofClass k + (decide (new.cls = k)).toNat - (decide (old.cls = k)).toNat := by
  unfold SectorRec.move SectorRec.moveClass
  rw [SectorRec.ofClass_moveVisited]
  by_cases ho : old.cls = k <;> by_cases hn : new.cls = k <;> by_cases hs : old.cls = new.cls <;>
    simp_all [SectorRec.ofClass_atClass]

theorem SectorRec.visited_move (old new : CellRec) (r : SectorRec) :
    (r.move old new).visited = r.visited + new.visited.toNat - old.visited.toNat := by
  unfold SectorRec.move
  cases old.visited <;> cases new.visited <;> simp [SectorRec.moveVisited]

/-- A sector's record as its cells make it counts each class. -/
theorem FloorMap.ofClass_counted (fm : FloorMap) (i : Nat) {k : CellClass} (hk : k ≠ .free) :
    (fm.counted i).ofClass k = fm.countIn i fun r => r.cls = k := by
  cases k with
  | free => exact absurd rfl hk
  | _ => rfl

/-- The true record of a cell's own sector follows its change by the arithmetic of R10. -/
theorem FloorMap.counted_putCell_own {c : CellIx} (hc : c.InMap) (r : CellRec) {fm : FloorMap}
    (h : Memory.wf CellRec.swept fm.cells) :
    (fm.putCell c r).counted c.sector = (fm.counted c.sector).move (fm.cellAt c) r := by
  refine SectorRec.ext_ofClass (fun k hk => ?_) ?_
  · have := FloorMap.countIn_putCell_own hc r h fun q => q.cls = k
    rw [SectorRec.ofClass_move _ _ _ hk, FloorMap.ofClass_counted _ _ hk, FloorMap.ofClass_counted _ _ hk]
    omega
  · have := FloorMap.countIn_putCell_own hc r h fun q => q.visited
    rw [SectorRec.visited_move]
    simp only [FloorMap.counted]
    omega

/-- The true record of every other sector stands. -/
theorem FloorMap.counted_putCell_other {c : CellIx} (hc : c.InMap) (r : CellRec) (fm : FloorMap) {k : Nat}
    (hk : k < 256) (hne : k ≠ c.sector) : (fm.putCell c r).counted k = fm.counted k := by
  simp only [FloorMap.counted, FloorMap.countIn_putCell_other hc r fm hk hne]

/-- The changed cell's sector takes the arithmetic of R10. -/
theorem FloorMap.sectorAt_putCell_own (c : CellIx) {r : CellRec} {fm : FloorMap}
    (h : Memory.wf SectorRec.swept fm.sectors) (hr : r ≠ fm.cellAt c) :
    (fm.putCell c r).sectorAt c.sector = (fm.sectorAt c.sector).move (fm.cellAt c) r := by
  unfold FloorMap.putCell
  rw [if_neg hr]
  exact Memory.read_write_same _ _ _ _ h.1

/-- A cell's change keeps the Sector Table true (R10). -/
theorem FloorMap.tallied_putCell {c : CellIx} (hc : c.InMap) (r : CellRec) {fm : FloorMap}
    (hcells : Memory.wf CellRec.swept fm.cells) (hsectors : Memory.wf SectorRec.swept fm.sectors)
    (h : fm.Tallied) : (fm.putCell c r).Tallied := by
  by_cases hr : r = fm.cellAt c
  · rwa [FloorMap.putCell, if_pos hr]
  · intro k hk
    by_cases hs : k = c.sector
    · rw [hs, FloorMap.sectorAt_putCell_own c hsectors hr, FloorMap.counted_putCell_own hc r hcells,
        h _ (CellIx.sector_lt hc)]
    · rw [FloorMap.sectorAt_putCell_other c r fm hs, FloorMap.counted_putCell_other hc r fm hk hs, h k hk]

end Sys2Proof.Machine
end

section
namespace Sys2Proof.Machine
open Sys2Proof

/-! ## What may become of the Floor Map

`LeadsTo` says of two Floor Maps what both invariants need, and it composes: every operation of the part is then
shown to lead from the Floor Map it finds to the one it leaves. -/

/-- From a sound Floor Map, `new` is sound, its Sector Table true if `old`'s is (R10), and, unless the change may
`free` cells, every Cliff with origin Sensed stands (R7). -/
structure FloorMap.LeadsTo (free : Bool) (old new : FloorMap) : Prop where
  sound : old.Sound → new.Sound
  tally : old.Sound → old.Tallied → new.Tallied
  cliff : free = false → old.Sound → ∀ c, (old.cellAt c).sensedCliff = true → (new.cellAt c).sensedCliff = true

namespace FloorMap.LeadsTo

variable {free : Bool} {a b c : FloorMap}

theorem refl (free : Bool) (fm : FloorMap) : fm.LeadsTo free fm :=
  ⟨id, fun _ => id, fun _ _ _ => id⟩

theorem of_eq (h : b = a) : a.LeadsTo free b := h ▸ refl free a

theorem trans (h : a.LeadsTo free b) (k : b.LeadsTo free c) : a.LeadsTo free c where
  sound hs := k.sound (h.sound hs)
  tally hs ht := k.tally (h.sound hs) (h.tally hs ht)
  cliff hf hs d hd := k.cliff hf (h.sound hs) d (h.cliff hf hs d hd)

/-- A change may be said to free cells when it does not. -/
theorem weaken {freed : Bool} (h : a.LeadsTo freed b) (hf : freed = true → free = true) : a.LeadsTo free b where
  sound := h.sound
  tally := h.tally
  cliff hfree := h.cliff (Bool.eq_false_iff.2 fun ht => by simp [hf ht] at hfree)

/-- A change of which more is known when the Floor Map is sound. -/
theorem of_sound (h : a.Sound → a.LeadsTo free b) : a.LeadsTo free b :=
  ⟨fun hs => (h hs).sound hs, fun hs => (h hs).tally hs, fun hf hs => (h hs).cliff hf hs⟩

/-- A change that leaves both stores as they were. -/
theorem of_stores (hc : b.cells = a.cells) (hs : b.sectors = a.sectors) (h : a.Sound → b.Sound) :
    a.LeadsTo free b where
  sound := h
  tally _ ht k hk := by
    have cells : b.cellAt = a.cellAt := by funext d; simp only [FloorMap.cellAt, hc]
    have sectors : b.sectorAt = a.sectorAt := by funext j; simp only [FloorMap.sectorAt, hs]
    rw [sectors, ht k hk]
    simp only [FloorMap.counted, FloorMap.countIn, cells]
  cliff _ _ d hd := by simpa only [FloorMap.cellAt, hc] using hd

/-- One cell's change; it may only free a cell where that is allowed. -/
theorem putCell {d : CellIx} (hd : d.InMap) (r : CellRec)
    (hr : free = false → (a.cellAt d).sensedCliff = true → r.sensedCliff = true) :
    a.LeadsTo free (a.putCell d r) where
  sound hs := by
    obtain ⟨hcells, hsectors⟩ := a.putCell_wf d r ⟨hs.cells, hs.sectors⟩
    rw [a.putCell_frame d r]
    exact ⟨hcells, hsectors, hs.win, hs.cursor, hs.fill, hs.sweep, hs.queue⟩
  tally hs := FloorMap.tallied_putCell hd r hs.cells hs.sectors
  cliff hf hs e he := by
    by_cases h : e.addr = d.addr
    · have same (fm : FloorMap) : fm.cellAt e = fm.cellAt d := by simp only [FloorMap.cellAt, h]
      rw [same, a.cellAt_putCell_same d r hs.cells]
      exact hr hf (same a ▸ he)
    · rwa [a.cellAt_putCell_other d r h]

end FloorMap.LeadsTo

/-! ## One cell's change: planner writes, marks, visits (R4 to R8) -/

@[simp] theorem State.changeCell_fm (held : Bool) (c : CellIx) (r : CellRec) (s : State) :
    (s.changeCell held c r).fm = s.fm.putCell c r := by
  simp [State.changeCell]

/-- A planner write frees no cell: it leaves a sensed Cliff whole (R4, R7). -/
theorem State.plannerWrite_leadsTo (held : Bool) {c : CellIx} (hc : c.InMap) (r : CellRec) (s : State) :
    s.fm.LeadsTo false (s.plannerWrite held c r).fm := by
  obtain ⟨-, e⟩ | ⟨hk, e⟩ := s.plannerWrite_cases held c r
  · exact .of_eq (by rw [e])
  · rw [e, State.changeCell_fm]
    exact .putCell hc _ fun _ h => by simp [h] at hk

/-- Neither merge table takes a sensed Cliff away (R5, R6). -/
theorem CellRec.sensedCliff_marked (cause : MarkCause) {r : CellRec} (h : r.sensedCliff = true) :
    (r.marked cause).sensedCliff = true := by
  have hcls : r.cls = .cliff := by simp_all [CellRec.sensedCliff]
  cases cause <;> simp [CellRec.marked, MarkCause.isCliff, CellRec.cliffMark, CellRec.obstacleMark, h, hcls]

/-- The entry of a class change touches the queue alone and keeps it within its 64 entries (R25 to R27). -/
theorem State.queueEntry_leadsTo (m : SensedMark) (old new : CellClass) (s : State) :
    s.fm.LeadsTo false (s.queueEntry m old new).fm := by
  unfold State.queueEntry
  by_cases h : s.fm.changes.length < Config.queueCap
  · have (e : ChangeEntry) : s.fm.LeadsTo false { s.fm with changes := s.fm.changes ++ [e] } :=
      .of_stores rfl rfl fun hs => { hs with queue := by rw [List.length_append]; exact h }
    rw [if_pos h]
    split <;> exact this _
  · rw [if_neg h]
    exact .of_stores rfl rfl fun hs => { hs with }

/-- A sensed mark on a cell of the map frees no cell (R7). -/
theorem State.sensedMark_leadsTo {m : SensedMark} (hm : m.cell.InMap) (s : State) :
    s.fm.LeadsTo false (s.sensedMark m).fm := by
  have put : s.fm.LeadsTo false (s.fm.putCell m.cell ((s.fm.cellAt m.cell).marked m.cause)) :=
    .putCell hm _ fun _ => CellRec.sensedCliff_marked _
  simp only [State.sensedMark, State.handChange_fm]
  split
  · exact put.trans (State.queueEntry_leadsTo m _ _
      { s with fm := s.fm.putCell m.cell ((s.fm.cellAt m.cell).marked m.cause) })
  · exact put

/-- A mark, where there is one, taken in a state with the Floor Map of `s`. -/
theorem State.markIf_leadsTo {m : Option SensedMark} (hm : ∀ k, m = some k → k.cell.InMap) {s q : State}
    (hq : q.fm = s.fm) : s.fm.LeadsTo false (q.markIf m).fm := by
  rw [← hq]
  cases m with
  | none => exact .refl _ _
  | some k => exact q.sensedMark_leadsTo (hm k rfl)

/-- A visited mark leaves class and origin (R8). -/
theorem FloorMap.enter_leadsTo (old : CellIx) {c : CellIx} (hc : c.InMap) (fm : FloorMap) :
    fm.LeadsTo false (fm.enter old c) := by
  unfold FloorMap.enter
  split
  · exact .putCell hc _ fun _ h => h
  · exact .refl _ _

/-! ## The cursor's walk and WRITE CELLS (R17, R18) -/

theorem Dir.first_mem (d : Dir) {lo hi : Nat} (h : lo ≤ hi) : lo ≤ d.first lo hi ∧ d.first lo hi ≤ hi := by
  cases d <;> simp [Dir.first, h]

/-- A step along an axis stays within the bounds. -/
theorem Dir.step_mem {d : Dir} {lo hi i j : Nat} (hi' : lo ≤ i ∧ i ≤ hi) (h : d.step lo hi i = some j) :
    lo ≤ j ∧ j ≤ hi := by
  cases d <;> (simp only [Dir.step] at h; split at h <;> cases h; omega)

theorem Window.has_start {w : Window} (hw : w.Ok) (m : EntryMode) : w.Has (w.start m) := by
  obtain ⟨hx0, hx1⟩ := m.xDir.first_mem hw.x
  obtain ⟨hy0, hy1⟩ := m.yDir.first_mem hw.y
  exact ⟨hx0, hx1, hy0, hy1⟩

/-- The cursor's advance stays in the window (R17). -/
theorem Window.has_advance {w : Window} (hw : w.Ok) (m : EntryMode) {c : CellIx} (h : w.Has c) :
    w.Has (w.advance m c) := by
  have firstX := m.xDir.first_mem hw.x
  have firstY := m.yDir.first_mem hw.y
  have stepX {j} := Dir.step_mem (d := m.xDir) (j := j) ⟨h.xLo, h.xHi⟩
  have stepY {j} := Dir.step_mem (d := m.yDir) (j := j) ⟨h.yLo, h.yHi⟩
  unfold Window.advance
  split
  · split
    · next e => exact ⟨(stepX e).1, (stepX e).2, h.yLo, h.yHi⟩
    · split
      · next e => exact ⟨firstX.1, firstX.2, (stepY e).1, (stepY e).2⟩
      · exact Window.has_start hw m
  · split
    · next e => exact ⟨h.xLo, h.xHi, (stepY e).1, (stepY e).2⟩
    · split
      · next e => exact ⟨(stepX e).1, (stepX e).2, firstY.1, firstY.2⟩
      · exact Window.has_start hw m

theorem FloorMap.advance_leadsTo (fm : FloorMap) : fm.LeadsTo false fm.advance :=
  .of_stores rfl rfl fun hs => { hs with cursor := Window.has_advance hs.win _ hs.cursor }

theorem State.writeByte_leadsTo (b : Byte) (s : State) : s.fm.LeadsTo false (s.writeByte b).fm := by
  refine .of_sound fun hs => ?_
  unfold State.writeByte
  split
  · exact (s.plannerWrite_leadsTo true (hs.cursor.inMap hs.win) _).trans (FloorMap.advance_leadsTo _)
  · exact FloorMap.advance_leadsTo _

theorem writeBytes_leadsTo (bs : List Byte) (n : Nat) (s : State) :
    s.fm.LeadsTo false (writeBytes bs n s).1.fm := by
  induction bs generalizing n s with
  | nil => exact .refl _ _
  | cons b bs ih => exact (s.writeByte_leadsTo b).trans (ih _ _)

/-- MapHeld is no part of what is claimed. -/
theorem FloorMap.mapHeld_leadsTo (h : Bool) (fm : FloorMap) : fm.LeadsTo false { fm with mapHeld := h } :=
  .of_stores rfl rfl fun hs => { hs with }

/-! ## The fill (R21, R22) -/

/-- A fill with the cell it has reached presented. -/
def Fill.onward (held : Bool) (f : Fill) : Fill :=
  { f with pos := f.win.advance f.mode f.pos, left := f.left - 1, held := f.held + held.toNat }

/-- A fill step is a planner write at the cell reached, and the fill goes on. -/
theorem State.fillStep_fm {s : State} {f : Fill} (h : s.fm.fill = some f) :
    s.fillStep.fm = { (s.plannerWrite false f.pos f.cell).fm with
      fill := some (f.onward (s.fm.cellAt f.pos).sensedCliff) } := by
  unfold State.fillStep
  rw [h]
  rfl

theorem State.fillStep_of_none {s : State} (h : s.fm.fill = none) : s.fillStep = s := by
  unfold State.fillStep
  rw [h]

theorem State.fillLeft_of_some {s : State} {f : Fill} (h : s.fm.fill = some f) : s.fillLeft = f.left - 1 := by
  unfold State.fillLeft
  rw [h]

theorem State.fillLeft_fillStep (s : State) : s.fillStep.fillLeft = s.fillLeft - 1 := by
  cases h : s.fm.fill with
  | none => simp [State.fillStep_of_none h, State.fillLeft, h]
  | some f => rw [State.fillLeft_of_some h, State.fillLeft_of_some (by rw [State.fillStep_fm h])]; rfl

/-- A fill step short of the last cell. -/
theorem State.fillStep_leadsTo {s : State} (h : 1 ≤ s.fillLeft) : s.fm.LeadsTo false s.fillStep.fm := by
  refine .of_sound fun hs => ?_
  cases hf : s.fm.fill with
  | none => simp [State.fillLeft, hf] at h
  | some f =>
    obtain ⟨hwin, hpos, -⟩ := hs.fill f hf
    rw [State.fillLeft_of_some hf] at h
    rw [State.fillStep_fm hf]
    refine (s.plannerWrite_leadsTo false (hpos.inMap hwin) f.cell).trans (.of_stores rfl rfl fun ht => ?_)
    refine { ht with fill := fun g hg => ?_ }
    cases hg
    exact ⟨hwin, Window.has_advance hwin _ hpos, h⟩

theorem State.fillSteps_leadsTo (n : Nat) {s : State} (h : n ≤ s.fillLeft) :
    s.fm.LeadsTo false (State.fillSteps n s).fm := by
  induction n generalizing s with
  | zero => exact .refl _ _
  | succ n ih =>
    have next : n ≤ s.fillStep.fillLeft := by rw [State.fillLeft_fillStep]; omega
    exact (State.fillStep_leadsTo (by omega)).trans (ih next)

/-- The last cell presented and the fill ended. -/
theorem State.fillEnd_fillStep_leadsTo (s : State) : s.fm.LeadsTo false s.fillStep.fillEnd.fm := by
  refine .of_sound fun hs => ?_
  cases hf : s.fm.fill with
  | none => exact .of_eq (by rw [State.fillStep_of_none hf]; simp [State.fillEnd, hf])
  | some f =>
    obtain ⟨hwin, hpos, -⟩ := hs.fill f hf
    unfold State.fillEnd
    rw [State.fillStep_fm hf]
    refine (s.plannerWrite_leadsTo false (hpos.inMap hwin) f.cell).trans (.of_stores rfl rfl fun ht => ?_)
    exact { ht with fill := fun g hg => by cases hg }

/-! ## The map sweep and the resets (R167, R189) -/

/-- The sweep frees what it writes over. -/
theorem FloorMap.sweepStep_leadsTo (fm : FloorMap) : fm.LeadsTo true fm.sweepStep := by
  unfold FloorMap.sweepStep
  split
  · exact .refl _ _
  · next a _ =>
    split
    · next h =>
      refine .trans (.putCell (CellIx.inMap_ofAddr h) CellRec.swept nofun) (.of_stores rfl rfl fun hs => ?_)
      exact { hs with sweep := fun b hb => by cases hb; exact h }
    · exact .refl _ _

theorem FloorMap.sweepSteps_leadsTo (n : Nat) (fm : FloorMap) :
    fm.LeadsTo true (FloorMap.sweepSteps n fm) := by
  induction n generalizing fm with
  | zero => exact .refl _ _
  | succ n ih => exact fm.sweepStep_leadsTo.trans (ih _)

theorem Window.whole_ok : Window.whole.Ok := by constructor <;> decide

theorem Window.whole_has_origin : Window.whole.Has { cx := 0, cy := 0 } := by constructor <;> decide

/-- A soft reset keeps the cells and the Sector Table. -/
theorem FloorMap.soft_leadsTo (fm : FloorMap) : fm.LeadsTo false fm.soft :=
  .of_stores rfl rfl fun hs =>
    ⟨hs.cells, hs.sectors, Window.whole_ok, Window.whole_has_origin, nofun, hs.sweep, Nat.zero_le _⟩

/-- A power-on reset alone leaves the stores to the sweep (assumption 2). -/
theorem State.powerOn_leadsTo (s : State) : s.fm.LeadsTo true s.powerOn.fm :=
  .of_stores rfl rfl fun hs =>
    ⟨hs.cells, hs.sectors, Window.whole_ok, Window.whole_has_origin, nofun,
      fun a ha => by cases ha; exact Nat.zero_le _, Nat.zero_le _⟩

end Sys2Proof.Machine
end

section
namespace Sys2Proof.Machine
open Sys2Proof

/-! ## The guard's trips (R134 to R146) -/

theorem State.tripMark_inMap {p : Int × Int} {cause : MarkCause} {sensor : MarkSensor} {s : State}
    {k : SensedMark} (h : s.tripMark p cause sensor = some k) : k.cell.InMap := by
  unfold State.tripMark at h
  split at h
  · cases h
  · obtain ⟨c, hc, rfl⟩ := Option.map_eq_some_iff.1 h
    exact cellOfPoint_inMap hc

/-- A trip reaches the Floor Map by its mark alone. -/
theorem State.trip_leadsTo (o : SegOutcome) {m : Option SensedMark} (hm : ∀ k, m = some k → k.cell.InMap)
    {s q : State} (hq : q.fm = s.fm) : s.fm.LeadsTo false (q.trip o m).fm := by
  unfold State.trip
  split
  · exact .of_eq hq
  · exact State.markIf_leadsTo hm (q.tripStop_fm.trans hq)

theorem State.cliffSample_leadsTo (k : CliffSensor) (level : Byte) (s : State) :
    s.fm.LeadsTo false (s.cliffSample k level).fm := by
  unfold State.cliffSample
  split
  · exact .refl _ _
  · dsimp only
    split
    · exact State.trip_leadsTo _ (fun _ => State.tripMark_inMap) rfl
    · exact .refl _ _

theorem State.closeWindow_leadsTo (both : Bool) (w : BumpWindow) (s : State) :
    s.fm.LeadsTo false (s.closeWindow both w).fm :=
  State.markIf_leadsTo (fun _ => State.tripMark_inMap) rfl

theorem State.openWindow_leadsTo (left : Bool) (s : State) : s.fm.LeadsTo false (s.openWindow left).fm :=
  State.trip_leadsTo (m := none) .bumpStop nofun rfl

theorem State.bumpTrip_leadsTo (left : Bool) (s : State) : s.fm.LeadsTo false (s.bumpTrip left).fm := by
  unfold State.bumpTrip
  split
  · exact s.openWindow_leadsTo left
  · split
    · exact (s.closeWindow_leadsTo false _).trans (State.openWindow_leadsTo left _)
    · split
      · exact .refl _ _
      · exact s.closeWindow_leadsTo true _

theorem State.lineTrip_leadsTo (line : SwitchLine) (s : State) : s.fm.LeadsTo false (s.lineTrip line).fm := by
  cases line with
  | wl => exact State.trip_leadsTo _ (fun _ => State.tripMark_inMap) rfl
  | wr => exact State.trip_leadsTo _ (fun _ => State.tripMark_inMap) rfl
  | bl => exact s.bumpTrip_leadsTo true
  | br => exact s.bumpTrip_leadsTo false

@[simp] theorem State.lineWake_fm (line : SwitchLine) (s : State) : (s.lineWake line).fm = s.fm := by
  unfold State.lineWake
  split <;> simp

theorem State.lineSample_leadsTo (line : SwitchLine) (now : Bool) (s : State) :
    s.fm.LeadsTo false (s.lineSample line now).fm := by
  unfold State.lineSample
  dsimp only
  split
  · split
    · exact .of_eq (by simp)
    · exact State.lineTrip_leadsTo line (s.holdLine line now)
  · exact .of_eq (by simp)

theorem State.windowTimeout_leadsTo (s : State) : s.fm.LeadsTo false s.windowTimeout.fm := by
  unfold State.windowTimeout
  split
  · split
    · exact s.closeWindow_leadsTo false _
    · exact .refl _ _
  · exact .refl _ _

/-! ## An accepted report (R119) -/

@[simp] theorem State.takeLink_fm (s : State) : s.takeLink.fm = s.fm := rfl

@[simp] theorem State.movedWake_fm (d : Deltas) (s : State) : (s.movedWake d).fm = s.fm := by
  simp [State.movedWake]

/-- Stage 6 keeps the centre in the map (R40), so the visited mark falls on a cell of it. -/
theorem State.integrateReport_leadsTo (r : Report) (d : Deltas) (s : State) :
    s.fm.LeadsTo false (s.integrateReport r d).fm :=
  FloorMap.enter_leadsTo _ (cellOf_inMap (Nat.min_le_left _ _) (Nat.min_le_left _ _)) _

/-- Of the Pose Unit's three ways to take a report only the integration reaches the Floor Map (R33, R35, R44). -/
theorem State.takePose_leadsTo (r : Report) (s : State) : s.fm.LeadsTo false (s.takePose r).fm := by
  unfold State.takePose
  split
  · exact .refl _ _
  · dsimp only
    split
    · exact .of_eq (by simp)
    · simp only [State.lostTest_fm, State.movedWake_fm]
      exact s.integrateReport_leadsTo r _

@[simp] theorem State.faultGrant_fm (s : State) : s.faultGrant.fm = s.fm := rfl

@[simp] theorem State.missReport_fm (s : State) : s.missReport.fm = s.fm := by
  simp only [State.missReport]
  split <;> rfl

@[simp] theorem State.settleReport_fm (d : DriveState) (s : State) : (s.settleReport d).fm = s.fm := by
  unfold State.settleReport
  split
  · rfl
  · rfl
  · dsimp only
    split <;> rfl

theorem State.stallMark_inMap {s : State} {k : SensedMark} (h : s.stallMark = some k) : k.cell.InMap := by
  obtain ⟨c, hc, rfl⟩ := Option.map_eq_some_iff.1 h
  exact cellOfPoint_inMap hc

theorem State.stallReport_leadsTo (s : State) : s.fm.LeadsTo false s.stallReport.fm := by
  rw [State.stallReport, State.engine_fm]
  exact State.markIf_leadsTo (fun _ => State.stallMark_inMap) rfl

/-- Under an ACTIVE grant only a stall reaches the Floor Map (R126, R127). -/
theorem State.activeReport_leadsTo (d : DriveState) (s : State) :
    s.fm.LeadsTo false (s.activeReport d).fm := by
  cases d with
  | stalled => exact State.stallReport_leadsTo { s with mo := s.mo.setMiss 0 }
  | _ => exact .refl _ _

theorem State.takeGrant_leadsTo (r : Report) (s : State) : s.fm.LeadsTo false (s.takeGrant r).fm := by
  unfold State.takeGrant
  split
  · exact .refl _ _
  · split
    · exact State.activeReport_leadsTo r.drive { s with mo := (setGrantState .active s.mo).reachStage 2 }
    · exact .of_eq (by simp)
  · split
    · exact s.activeReport_leadsTo r.drive
    · exact .of_eq (by simp)
  · exact .of_eq (by simp)

@[simp] theorem State.closeJudgement_fm (s : State) : s.closeJudgement.fm = s.fm := by
  unfold State.closeJudgement
  split
  · split <;> rfl
  · rfl

@[simp] theorem State.selfRelease_fm (d : DriveState) (s : State) : (s.selfRelease d).fm = s.fm := by
  unfold State.selfRelease
  split <;> rfl

@[simp] theorem State.crossing_fm (s : State) : s.crossing.fm = s.fm := by
  simp only [State.crossing]
  split <;> simp

@[simp] theorem State.takeBattery_fm (level : Nat) (s : State) : (s.takeBattery level).fm = s.fm := by
  unfold State.takeBattery
  split <;> split <;> simp

/-- A report reaches the Floor Map by its pose step and by its grant step. -/
theorem State.takeReport_leadsTo (r : Report) (s : State) : s.fm.LeadsTo false (s.takeReport r).fm := by
  simp only [State.takeReport, State.takeSense_fm, State.takeBattery_fm, State.selfRelease_fm,
    State.closeJudgement_fm]
  exact (State.takePose_leadsTo r s.takeLink).trans (State.takeGrant_leadsTo r _)

theorem State.driveBytes_leadsTo (bytes : List Byte) (s : State) :
    s.fm.LeadsTo false (s.driveBytes bytes).fm := by
  unfold State.driveBytes
  dsimp only
  split
  · next r rest _ =>
    exact State.takeReport_leadsTo r
      { s with mo := { s.mo with dp := { s.mo.dp.receive bytes with rx := huntFrame rest } } }
  · exact .refl _ _

/-! ## Events that leave the Floor Map as it is -/

@[simp] theorem State.burnEnd_fm (s : State) : s.burnEnd.fm = s.fm := by
  unfold State.burnEnd
  split
  · split <;> rfl
  · rfl

@[simp] theorem State.checkResult_fm (s : State) : s.checkResult.fm = s.fm := by
  unfold State.checkResult
  split
  · split <;> rfl
  · rfl

@[simp] theorem State.recheckResult_fm (s : State) : s.recheckResult.fm = s.fm := by
  unfold State.recheckResult
  split
  · split
    · rfl
    · dsimp only
      split <;> rfl
  · rfl

@[simp] theorem State.watchExpiry_fm (s : State) : s.watchExpiry.fm = s.fm := by
  unfold State.watchExpiry
  split
  · dsimp only
    split <;> rfl
  · rfl

@[simp] theorem State.undock_fm (s : State) : s.undock.fm = s.fm := by
  simp [State.undock]

@[simp] theorem State.contactChange_fm (s : State) : s.contactChange.fm = s.fm := by
  unfold State.contactChange
  dsimp only
  repeat' split
  all_goals simp

@[simp] theorem State.timerExpiry_fm (s : State) : s.timerExpiry.fm = s.fm := by
  unfold State.timerExpiry
  dsimp only
  repeat' split
  all_goals simp

@[simp] theorem State.fetch_fm (n : Nat) (s : State) : (s.fetch n).fm = s.fm := by
  simp [State.fetch, State.frameWake]

/-! ## The requests (section 9.3) -/

theorem serveSetWindow_leadsTo (xs xe ys ye p xd yd : Byte) (s : State) :
    s.fm.LeadsTo false (serveSetWindow xs xe ys ye p xd yd s).1.fm := by
  unfold serveSetWindow
  split
  · exact .refl _ _
  · next ok =>
    split
    · exact .refl _ _
    · have hx : ¬ xe < xs := fun h => by simp [windowBad, h] at ok
      have hy : ¬ ye < ys := fun h => by simp [windowBad, hx, h] at ok
      have hw : Window.Ok { x0 := xs.toNat, x1 := xe.toNat, y0 := ys.toNat, y1 := ye.toNat } :=
        { x := Nat.le_of_not_lt hx, y := Nat.le_of_not_lt hy
          xMax := Nat.le_of_lt_succ xe.isLt, yMax := Nat.le_of_lt_succ ye.isLt }
      exact .of_stores rfl rfl fun hs => { hs with win := hw, cursor := Window.has_start hw _ }

theorem serveSetCursor_leadsTo (cx cy : Byte) (s : State) :
    s.fm.LeadsTo false (serveSetCursor cx cy s).1.fm := by
  unfold serveSetCursor
  split
  · exact .refl _ _
  · next hx =>
    split
    · exact .refl _ _
    · next hy =>
      split
      · exact .refl _ _
      · have hc : s.fm.win.Has { cx := cx.toNat, cy := cy.toNat } := by constructor <;> dsimp only <;> omega
        exact .of_stores rfl rfl fun hs => { hs with cursor := hc }

theorem serveWriteCells_leadsTo (cells : List Byte) (s : State) :
    s.fm.LeadsTo false (serveWriteCells cells s).1.fm := by
  unfold serveWriteCells
  split
  · exact .refl _ _
  · split
    · exact .refl _ _
    · split
      · exact .refl _ _
      · exact (writeBytes_leadsTo cells 0 s).trans (FloorMap.mapHeld_leadsTo _ _)

theorem readBytes_leadsTo (n : Nat) (fm : FloorMap) : fm.LeadsTo false (readBytes n fm).1 := by
  induction n generalizing fm with
  | zero => exact .refl _ _
  | succ n ih => exact fm.advance_leadsTo.trans (ih _)

theorem serveReadCells_leadsTo (count : Half) (s : State) :
    s.fm.LeadsTo false (serveReadCells count s).1.fm := by
  unfold serveReadCells
  split
  · exact .refl _ _
  · split
    · exact .refl _ _
    · exact readBytes_leadsTo _ _

/-- A fill begins at the start corner of the window, with at least one cell to present. -/
theorem serveFillWindow_leadsTo (cell : Byte) (s : State) :
    s.fm.LeadsTo false (serveFillWindow cell s).1.fm := by
  unfold serveFillWindow
  split
  · exact .refl _ _
  · split
    · exact .refl _ _
    · refine .of_stores rfl rfl fun hs => { hs with fill := fun f hf => ?_ }
      cases hf
      exact ⟨hs.win, Window.has_start hs.win _, Nat.mul_pos (Nat.succ_pos _) (Nat.succ_pos _)⟩

/-- The one request that frees a cell. -/
theorem serveReleaseHazard_leadsTo (cx cy cls : Byte) (s : State) :
    s.fm.LeadsTo true (serveReleaseHazard cx cy cls s).1.fm := by
  unfold serveReleaseHazard
  split
  · exact .refl _ _
  · dsimp only
    split
    · exact .refl _ _
    · split
      · rw [State.changeCell_fm]
        exact .putCell ⟨Nat.le_of_lt_succ cx.isLt, Nat.le_of_lt_succ cy.isLt⟩ _ nofun
      · exact .refl _ _

theorem serveReadSectors_fm (start count : Byte) (s : State) :
    (serveReadSectors start count s).1.fm = s.fm := by
  unfold serveReadSectors
  split
  · rfl
  · split <;> rfl

theorem serveReadChanges_leadsTo (count : Byte) (s : State) :
    s.fm.LeadsTo false (serveReadChanges count s).1.fm := by
  unfold serveReadChanges
  split
  · exact .refl _ _
  · refine .of_stores rfl rfl fun hs => { hs with queue := ?_ }
    rw [List.length_drop]
    exact (Nat.sub_le _ _).trans hs.queue

theorem serveFixPose_fm (x y : Word) (theta : Half) (u : Word) (s : State) :
    (serveFixPose x y theta u s).1.fm = s.fm := by
  unfold serveFixPose
  repeat' split
  all_goals simp

theorem serveSetDockPose_fm (form : Byte) (x y : Word) (theta standoff : Half) (s : State) :
    (serveSetDockPose form x y theta standoff s).1.fm = s.fm := by
  unfold serveSetDockPose serveSetDock serveClearDock
  repeat' split
  all_goals rfl

theorem serveLoadSegment_fm (slot : Byte) (f : SegmentFields) (s : State) :
    (serveLoadSegment slot f s).1.fm = s.fm := by
  unfold serveLoadSegment
  repeat' split
  all_goals rfl

theorem serveClearSegment_fm (slot : Byte) (s : State) : (serveClearSegment slot s).1.fm = s.fm := by
  unfold serveClearSegment
  repeat' split
  all_goals rfl

theorem serveLoadList_fm (l n p f : Byte) (slots : List Byte) (s : State) :
    (serveLoadList l n p f slots s).1.fm = s.fm := by
  unfold serveLoadList
  repeat' split
  all_goals rfl

theorem serveReadList_fm (l : Byte) (s : State) : (serveReadList l s).1.fm = s.fm := by
  unfold serveReadList
  split <;> rfl

theorem serveStartRoute_fm (mode : Byte) (s : State) : (serveStartRoute mode s).1.fm = s.fm := by
  unfold serveStartRoute
  repeat' split
  all_goals rfl

theorem serveStopRoute_fm (mode : Byte) (s : State) : (serveStopRoute mode s).1.fm = s.fm := by
  unfold serveStopRoute
  repeat' split
  all_goals rfl

theorem servePostPriority_fm (urgent : Byte) (s : State) : (servePostPriority urgent s).1.fm = s.fm := by
  unfold servePostPriority
  repeat' split
  all_goals rfl

theorem serveAcknowledge_fm (s : State) : (serveAcknowledge s).1.fm = s.fm := by
  unfold serveAcknowledge
  repeat' split
  all_goals rfl

theorem serveWriteTuning_fm (t : Tuning) (s : State) : (serveWriteTuning t s).1.fm = s.fm := by
  unfold serveWriteTuning
  split <;> rfl

theorem serveWriteCalibration_fm (c : Calibration) (s : State) :
    (serveWriteCalibration c s).1.fm = s.fm := by
  unfold serveWriteCalibration
  repeat' split
  all_goals rfl

theorem serveBurnCalibration_fm (s : State) : (serveBurnCalibration s).1.fm = s.fm := by
  unfold serveBurnCalibration
  repeat' split
  all_goals rfl

theorem serveArmNotices_fm (set clear : Half) (s : State) : (serveArmNotices set clear s).1.fm = s.fm := by
  unfold serveArmNotices
  split <;> rfl

theorem serveArmWake_fm (hazard undocked battery : Byte) (s : State) :
    (serveArmWake hazard undocked battery s).1.fm = s.fm := by
  unfold serveArmWake
  repeat' split
  all_goals rfl

theorem serveSetPassTimer_fm (t : Half) (i r n : Byte) (s : State) :
    (serveSetPassTimer t i r n s).1.fm = s.fm := by
  unfold serveSetPassTimer
  repeat' split
  all_goals rfl

theorem servePark_fm (alarm : Byte) (s : State) : (servePark alarm s).1.fm = s.fm := by
  unfold servePark
  repeat' split
  all_goals rfl

theorem serveSoftReset_leadsTo (s : State) : s.fm.LeadsTo false (serveSoftReset s).1.fm := by
  unfold serveSoftReset
  split
  · exact .refl _ _
  · exact s.fm.soft_leadsTo

/-- The owners of all requests (section 9.3): RELEASE HAZARD alone frees a cell. -/
theorem serve_leadsTo (i : Instr) (s : State) : s.fm.LeadsTo (mayRelease i) (serve i s).1.fm := by
  cases i with
  | setWindow xs xe ys ye p xd yd => exact serveSetWindow_leadsTo xs xe ys ye p xd yd s
  | setCursor cx cy => exact serveSetCursor_leadsTo cx cy s
  | writeCells cells => exact serveWriteCells_leadsTo cells s
  | readCells count => exact serveReadCells_leadsTo count s
  | fillWindow cell => exact serveFillWindow_leadsTo cell s
  | releaseHazard cx cy cls => exact serveReleaseHazard_leadsTo cx cy cls s
  | readSectors start count => exact .of_eq (serveReadSectors_fm start count s)
  | readChanges count => exact serveReadChanges_leadsTo count s
  | fixPose x y theta u => exact .of_eq (serveFixPose_fm x y theta u s)
  | setDockPose f x y theta d => exact .of_eq (serveSetDockPose_fm f x y theta d s)
  | loadSegment slot f => exact .of_eq (serveLoadSegment_fm slot f s)
  | clearSegment slot => exact .of_eq (serveClearSegment_fm slot s)
  | loadList l n p f slots => exact .of_eq (serveLoadList_fm l n p f slots s)
  | readList l => exact .of_eq (serveReadList_fm l s)
  | startRoute mode => exact .of_eq (serveStartRoute_fm mode s)
  | stopRoute mode => exact .of_eq (serveStopRoute_fm mode s)
  | postPriority urgent => exact .of_eq (servePostPriority_fm urgent s)
  | acknowledge => exact .of_eq (serveAcknowledge_fm s)
  | writeTuning t => exact .of_eq (serveWriteTuning_fm t s)
  | writeCalibration c => exact .of_eq (serveWriteCalibration_fm c s)
  | burnCalibration => exact .of_eq (serveBurnCalibration_fm s)
  | armNotices set clear => exact .of_eq (serveArmNotices_fm set clear s)
  | armWake hazard undocked battery => exact .of_eq (serveArmWake_fm hazard undocked battery s)
  | setPassTimer t i r n => exact .of_eq (serveSetPassTimer_fm t i r n s)
  | park alarm => exact .of_eq (servePark_fm alarm s)
  | softReset => exact serveSoftReset_leadsTo s
  | _ => exact .refl _ _

/-! ## Frames (R164 to R167) -/

/-- Steps 2 to 5 of R166 do what the owner does, or nothing. -/
theorem dealWith_leadsTo {free : Bool} (f : Frame) {owner : State → Answer}
    (h : ∀ q : State, q.fm.LeadsTo free (owner q).1.fm) (s : State) :
    s.fm.LeadsTo free (dealWith f owner s).1.fm := by
  unfold dealWith
  split
  · exact .refl _ _
  · split
    · exact .refl _ _
    · exact h s

/-- What a body is read as is no command that frees a cell. -/
def Parsed.harmless : Parsed → Bool
  | .noCode => true
  | .badLength => true
  | .request i => !mayRelease i

theorem harmless_parseEmpty {i : Instr} (h : mayRelease i = false) (body : List Byte) :
    (parseEmpty i body).harmless = true := by
  unfold parseEmpty
  split <;> simp [Parsed.harmless, h]

theorem harmless_parseOne {f : Byte → Instr} (h : ∀ a, mayRelease (f a) = false) (body : List Byte) :
    (parseOne f body).harmless = true := by
  unfold parseOne
  split <;> simp [Parsed.harmless, h]

theorem harmless_parseTwo {f : Byte → Byte → Instr} (h : ∀ a b, mayRelease (f a b) = false)
    (body : List Byte) : (parseTwo f body).harmless = true := by
  unfold parseTwo
  split <;> simp [Parsed.harmless, h]

theorem harmless_parseThree {f : Byte → Byte → Byte → Instr} (h : ∀ a b c, mayRelease (f a b c) = false)
    (body : List Byte) : (parseThree f body).harmless = true := by
  unfold parseThree
  split <;> simp [Parsed.harmless, h]

theorem harmless_parseSetWindow (body : List Byte) : (parseSetWindow body).harmless = true := by
  unfold parseSetWindow
  split <;> rfl

theorem harmless_parseReadCells (body : List Byte) : (parseReadCells body).harmless = true := by
  unfold parseReadCells
  split <;> rfl

theorem harmless_parseFixPose (body : List Byte) : (parseFixPose body).harmless = true := by
  unfold parseFixPose
  split <;> rfl

theorem harmless_parseSetDockPose (body : List Byte) : (parseSetDockPose body).harmless = true := by
  unfold parseSetDockPose
  split <;> rfl

theorem harmless_parseLoadSegment (body : List Byte) : (parseLoadSegment body).harmless = true := by
  unfold parseLoadSegment
  split <;> rfl

theorem harmless_parseLoadList (body : List Byte) : (parseLoadList body).harmless = true := by
  unfold parseLoadList
  split <;> rfl

theorem harmless_parseWriteTuning (body : List Byte) : (parseWriteTuning body).harmless = true := by
  unfold parseWriteTuning
  split <;> rfl

theorem harmless_parseWriteCalibration (body : List Byte) :
    (parseWriteCalibration body).harmless = true := by
  unfold parseWriteCalibration
  split <;> rfl

theorem harmless_parseArmNotices (body : List Byte) : (parseArmNotices body).harmless = true := by
  unfold parseArmNotices
  split <;> rfl

theorem harmless_parseSetPassTimer (body : List Byte) : (parseSetPassTimer body).harmless = true := by
  unfold parseSetPassTimer
  split <;> rfl

/-- Only RELEASE HAZARD's own code is read as a command that frees a cell (section 12.1). -/
theorem harmless_parseRequest {code : Byte} (hc : code ≠ releaseCode) (body : List Byte) :
    (parseRequest code body).harmless = true := by
  unfold parseRequest
  split
  · exact harmless_parseSetWindow _
  · exact harmless_parseTwo (fun _ _ => rfl) _
  · rfl
  · exact harmless_parseReadCells _
  · exact harmless_parseOne (fun _ => rfl) _
  · next h => exact absurd (BitVec.eq_of_toNat_eq h) hc
  · exact harmless_parseTwo (fun _ _ => rfl) _
  · exact harmless_parseOne (fun _ => rfl) _
  · exact harmless_parseFixPose _
  · exact harmless_parseEmpty rfl _
  · exact harmless_parseSetDockPose _
  · exact harmless_parseLoadSegment _
  · exact harmless_parseOne (fun _ => rfl) _
  · exact harmless_parseLoadList _
  · exact harmless_parseOne (fun _ => rfl) _
  · exact harmless_parseOne (fun _ => rfl) _
  · exact harmless_parseOne (fun _ => rfl) _
  · exact harmless_parseOne (fun _ => rfl) _
  · exact harmless_parseEmpty rfl _
  · exact harmless_parseWriteTuning _
  · exact harmless_parseEmpty rfl _
  · exact harmless_parseWriteCalibration _
  · exact harmless_parseEmpty rfl _
  · exact harmless_parseEmpty rfl _
  · exact harmless_parseEmpty rfl _
  · exact harmless_parseArmNotices _
  · exact harmless_parseThree (fun _ _ _ => rfl) _
  · exact harmless_parseSetPassTimer _
  · exact harmless_parseEmpty rfl _
  · exact harmless_parseOne (fun _ => rfl) _
  · exact harmless_parseEmpty rfl _
  · rfl

theorem mayRelease_of_parseRequest {code : Byte} {body : List Byte} {i : Instr}
    (h : parseRequest code body = .request i) (hc : code ≠ releaseCode) : mayRelease i = false := by
  simpa [h, Parsed.harmless] using harmless_parseRequest hc body

/-- A frame frees a cell only with RELEASE HAZARD's code. -/
theorem serveFrame_leadsTo (f : Frame) (s : State) :
    s.fm.LeadsTo (f.code = releaseCode) (serveFrame f s).1.fm := by
  unfold serveFrame
  split
  · split <;> exact .refl _ _
  · exact dealWith_leadsTo f (fun _ => .refl _ _) s
  · next i hi =>
    refine (dealWith_leadsTo f (serve_leadsTo i) s).weaken fun hr => decide_eq_true ?_
    by_contra hc
    simp [mayRelease_of_parseRequest hi hc] at hr

theorem State.arrive_leadsTo (f : Frame) (s : State) : s.fm.LeadsTo (f.code = releaseCode) (s.arrive f).fm := by
  unfold State.arrive
  split
  · exact .refl _ _
  · exact (FloorMap.LeadsTo.of_eq s.takeFrame_fm).trans (serveFrame_leadsTo f s.takeFrame)

end Sys2Proof.Machine
end

section
namespace Sys2Proof.Machine
open Sys2Proof

/-! ## Every command and every step -/

/-- A request's own command is its frame served by its owner. -/
theorem exec_of_request {i : Instr} {f : Frame} (h : requestFrame i = some f) (s : State) :
    exec i s = s.request i (serve i) := by
  cases i <;> cases h <;> rfl

/-- A request leads where its owner leads; one whose frame must wait leaves the Floor Map (R165). -/
theorem State.request_leadsTo {free : Bool} {i : Instr} {owner : State → Answer}
    (ho : ∀ q : State, q.fm.LeadsTo free (owner q).1.fm) {s t : State} (h : s.request i owner = .next t) :
    s.fm.LeadsTo free t.fm := by
  unfold State.request at h
  split at h
  · cases h
    exact .refl _ _
  · next f _ =>
    dsimp only at h
    split at h
    · cases h
      exact .refl _ _
    · cases h
      have taken := (s.misoZeros (3 + f.body.length)).takeFrame_fm
      exact (FloorMap.LeadsTo.of_eq taken).trans (dealWith_leadsTo f ho _)

/-- What a command leaves is known when its next state is. -/
theorem FloorMap.LeadsTo.of_next {free : Bool} {s q t : State} (h : s.fm.LeadsTo free q.fm)
    (e : (.next q : Result) = .next t) : s.fm.LeadsTo free t.fm := by
  cases e
  exact h

/-- The bytes of a transaction give a frame of their own first byte as its code (R164). -/
theorem judgeTransaction_complete {bytes : List Byte} {f : Frame}
    (h : judgeTransaction bytes = .complete f) : bytes.head? = some f.code := by
  cases bytes with
  | nil => cases h
  | cons code rest =>
    simp only [judgeTransaction] at h
    split at h
    · cases h
    · split at h
      · simp only [judgeRequest] at h
        split at h <;> cases h
        rfl
      · cases h

theorem execTransactionEnd_leadsTo {bytes : List Byte} {s t : State}
    (h : execTransactionEnd bytes s = .next t) :
    s.fm.LeadsTo (mayRelease (.transactionEnd bytes)) t.fm := by
  unfold execTransactionEnd at h
  split at h
  · exact .of_next (.refl _ _) h
  · exact .of_next (.of_eq (s.fetch_fm _)) h
  · exact .of_next (q := s.misoZeros bytes.length) (.refl _ _) h
  · next f hf =>
    have code : mayRelease (.transactionEnd bytes) = decide (f.code = releaseCode) := by
      refine decide_eq_decide.2 ?_
      rw [judgeTransaction_complete hf, Option.some_inj]
    rw [code]
    exact .of_next (State.arrive_leadsTo f (s.misoZeros bytes.length)) h

theorem execInvalidFrame_leadsTo {code : Byte} {length : Half} {body : List Byte} {s t : State}
    (h : execInvalidFrame code length body s = .next t) :
    s.fm.LeadsTo (mayRelease (.invalidFrame code length body)) t.fm := by
  have taken := (s.misoZeros (3 + body.length)).takeFrame_fm
  simp only [execInvalidFrame] at h
  split at h
  · cases h
    exact .refl _ _
  · cases h
    exact (FloorMap.LeadsTo.of_eq taken).trans
      (serveFrame_leadsTo { code := code, length := length, body := keptBody length body } _)

theorem execMapSweepDone_leadsTo {s t : State} (h : execMapSweepDone s = .next t) :
    s.fm.LeadsTo false t.fm := by
  unfold execMapSweepDone at h
  split at h
  · exact .of_next (q := { s with fm := { s.fm with sweep := none } })
      (.of_stores rfl rfl fun hs => { hs with sweep := nofun }) h
  · exact .of_next (.refl _ _) h

theorem execFillDone_leadsTo {s t : State} (h : execFillDone s = .next t) : s.fm.LeadsTo false t.fm := by
  unfold execFillDone at h
  split at h
  · exact .of_next s.fillEnd_fillStep_leadsTo h
  · exact .of_next (.refl _ _) h

/-- The commands that are no requests. -/
theorem exec_leadsTo_of_event {i : Instr} (hf : requestFrame i = none) {s t : State} (h : exec i s = .next t) :
    s.fm.LeadsTo (mayRelease i) t.fm := by
  cases i with
  | powerOnReset => exact .of_next s.powerOn_leadsTo h
  | mapSweepProgress count =>
    exact .of_next (q := { s with fm := s.fm.sweepSteps count }) (s.fm.sweepSteps_leadsTo count) h
  | mapSweepDone => exact execMapSweepDone_leadsTo h
  | timeBaseTick => exact .of_next (.of_eq s.tick_fm) h
  | transactionEnd bytes => exact execTransactionEnd_leadsTo h
  | fetch clocked => exact .of_next (.of_eq (s.fetch_fm clocked)) h
  | invalidFrame code length body => exact execInvalidFrame_leadsTo h
  | fillProgress count => exact .of_next (State.fillSteps_leadsTo _ (Nat.min_le_right count _)) h
  | fillDone => exact execFillDone_leadsTo h
  | burnDone => exact .of_next (.of_eq s.burnEnd_fm) h
  | checkBegin => exact .of_next (q := { s with mo := beginWaiting s.env s.mo }) (.refl _ _) h
  | checkSample => exact .of_next (q := { s with mo := sampleHeld s.fm s.mo }) (.refl _ _) h
  | checkResult beacon => exact .of_next (.of_eq (State.checkResult_fm (s.setBeacon beacon))) h
  | recheckResult => exact .of_next (.of_eq s.recheckResult_fm) h
  | heldGrantRelease => exact .of_next (.of_eq (s.engine_fm fun _ m => releaseHeld m)) h
  | txFrameDone => exact .of_next (q := { s with mo := nextFrame s.mo }) (.refl _ _) h
  | rxFrameDiscard bytes =>
    exact .of_next (q := { s with mo := { s.mo with dp := s.mo.dp.receive bytes } }) (.refl _ _) h
  | rxGapTimeout => exact .of_next (q := { s with mo := { s.mo with dp := s.mo.dp.gap } }) (.refl _ _) h
  | driveReport bytes beacon => exact .of_next (State.driveBytes_leadsTo bytes (s.setBeacon beacon)) h
  | dwellEnd => exact .of_next (.of_eq (s.engine_fm fun _ m => endDwell m)) h
  | driveWatchExpiry => exact .of_next (.of_eq s.watchExpiry_fm) h
  | cliffSample sensor level => exact .of_next (s.cliffSample_leadsTo sensor level) h
  | lineSample line asserted => exact .of_next (s.lineSample_leadsTo line asserted) h
  | bumpWindowTimeout => exact .of_next s.windowTimeout_leadsTo h
  | dckSample asserted =>
    exact .of_next (q := { s with mo := { s.mo with du := s.mo.du.sampled s.tun.contactDebounce asserted } })
      (.refl _ _) h
  | contactChange => exact .of_next (.of_eq s.contactChange_fm) h
  | passTimerReload =>
    exact .of_next (q := { s with mo := { s.mo with eu :=
      { s.mo.eu with timer := s.mo.eu.timer.takeReload } } }) (.refl _ _) h
  | passTimerExpiry => exact .of_next (.of_eq s.timerExpiry_fm) h
  | _ => cases hf

/-- Every command keeps the Floor Map's invariants, and only those of R7 free a cell. -/
theorem exec_leadsTo {i : Instr} {s t : State} (h : exec i s = .next t) :
    s.fm.LeadsTo (mayRelease i) t.fm := by
  cases hf : requestFrame i with
  | none => exact exec_leadsTo_of_event hf h
  | some f =>
    rw [exec_of_request hf] at h
    exact State.request_leadsTo (serve_leadsTo i) h

/-- The idle step reaches the Floor Map by the frame it takes out of the receive buffer, and only RELEASE HAZARD's
frees a cell. -/
theorem State.idle_leadsTo {free : Bool} {s : State}
    (h : ∀ f, s.pp.buffer = some f → f.code = releaseCode → free = true) : s.fm.LeadsTo free s.idle.fm := by
  unfold State.idle
  split
  · unfold State.placeHeld
    split
    · exact .refl _ _
    · next r _ =>
      dsimp only
      split
      · exact .refl _ _
      · next f hf =>
        have taken := State.arrive_leadsTo f
          { s with pp := { s.pp with slot := some r, serving := none, buffer := none } }
        exact taken.weaken fun hc => h f hf (of_decide_eq_true hc)
  · exact .refl _ _

/-- Every step keeps the Floor Map's invariants. -/
theorem step_leadsTo {s t : State} (h : step s = .next t) : s.fm.LeadsTo true t.fm := by
  unfold step at h
  split at h
  · exact .of_next (State.idle_leadsTo fun _ _ _ => rfl) h
  · next i rest _ =>
    exact (exec_leadsTo (s := { s with pending := rest }) h).weaken fun _ => rfl

/-- Settles O21: what every step leads to keeps both invariants. -/
theorem floorMapAndSectorTableStayTrue : Obligations.FloorMapAndSectorTableStayTrue := by
  intro s t hs h
  exact ⟨(step_leadsTo h).sound hs, (step_leadsTo h).tally hs⟩

/-- Settles O19: a command that may not release, and an idle step with no RELEASE HAZARD frame to take, free no
cell. -/
theorem sensedCliffStandsUntilReleased : Obligations.SensedCliffStandsUntilReleased := by
  intro c s t hs hc
  refine ⟨fun i hi h => ?_, fun hp hb h => ?_⟩
  · exact (exec_leadsTo h).cliff hi hs c hc
  · have idle : s.fm.LeadsTo false s.idle.fm := State.idle_leadsTo fun f hf hcode => absurd hcode (hb f hf)
    have ran : step s = .next s.idle := by simp only [step, hp]
    exact (FloorMap.LeadsTo.of_next idle (ran.symm.trans h)).cliff rfl hs c hc

end Sys2Proof.Machine
end

section
namespace Sys2Proof.Machine
open Sys2Proof

/-! ## Map requests on a ready part (R13, R15, R16, R20, R28)

Each owner's answer is said once, refusals and all; a ready part then places it. -/

/-- The state in which a ready part's owner serves a request of n bytes: the slot emptied, zeros shifted out. -/
def State.taken (n : Nat) (s : State) : State :=
  { s with pp := { s.pp with slot := none, miso := List.replicate n 0 } }

theorem State.taken_not_filling {n : Nat} (s : State) (h : s.fm.fill = none) :
    ¬(s.taken n).fm.fill.isSome = true := by
  simp [State.taken, h]

/-- On a ready part a request whose owner leaves all but the Floor Map leaves that, and the response in the slot. -/
theorem exec_answers {i : Instr} {f : Frame} {n : Nat} {s : State} {fm : FloorMap} {r : Response} (h : s.Ready)
    (hf : requestFrame i = some f) (hb : f.badEnvelope = false) (hn : 3 + f.body.length = n)
    (ho : serve i (s.taken n) = ({ s.taken n with fm := fm }, r)) :
    exec i s = .next (State.answered n r { s with fm := fm }) := by
  subst hn
  rw [exec_of_request hf, State.request_of_ready i f (serve i) s h hf hb]
  exact congrArg (fun a => Host.Outcome.next (State.place a)) ho

/-- On a ready part a request whose owner changes nothing changes nothing but the slot and MISO. -/
theorem exec_answers_same {i : Instr} {f : Frame} {n : Nat} {s : State} {r : Response} (h : s.Ready)
    (hf : requestFrame i = some f) (hb : f.badEnvelope = false) (hn : 3 + f.body.length = n)
    (ho : serve i (s.taken n) = (s.taken n, r)) : exec i s = .next (State.answered n r s) :=
  exec_answers (fm := s.fm) h hf hb hn ho

section owners
variable (s : State)

/-! ### SET WINDOW (R15) -/

theorem serveSetWindow_of_bad {xs xe ys ye p xd yd : Byte} {n : Nat}
    (h : windowBad xs xe ys ye p xd yd = some n) :
    serveSetWindow xs xe ys ye p xd yd s = (s, .invalid n 0) := by
  simp [serveSetWindow, h]

theorem serveSetWindow_of_filling {xs xe ys ye p xd yd : Byte} (h : windowBad xs xe ys ye p xd yd = none)
    (hf : s.fm.fill.isSome = true) : serveSetWindow xs xe ys ye p xd yd s = (s, .busy) := by
  simp [serveSetWindow, h, State.filling, hf]

theorem serveSetWindow_of_ok {xs xe ys ye p xd yd : Byte} (h : windowBad xs xe ys ye p xd yd = none)
    (hf : s.fm.fill = none) :
    serveSetWindow xs xe ys ye p xd yd s =
      ({ s with fm := { s.fm with
          win := { x0 := xs.toNat, x1 := xe.toNat, y0 := ys.toNat, y1 := ye.toNat }
          mode := { primary := if p = 0 then .x else .y, xDir := if xd = 0 then .inc else .dec,
                    yDir := if yd = 0 then .inc else .dec }
          cursor := { cx := if xd = 0 then xs.toNat else xe.toNat,
                      cy := if yd = 0 then ys.toNat else ye.toNat } } }, .done []) := by
  have first (b : Byte) (lo hi : Nat) : (Dir.ofByte b).first lo hi = if b = 0 then lo else hi := by
    unfold Dir.ofByte
    split <;> rfl
  simp only [serveSetWindow, h, State.filling, hf, Option.isSome_none, Bool.false_eq_true, if_false, entryMode,
    Window.start, first]
  rfl

/-! ### SET CURSOR (R16) -/

theorem serveSetCursor_of_badX {cx cy : Byte} (h : cx.toNat < s.fm.win.x0 ∨ s.fm.win.x1 < cx.toNat) :
    serveSetCursor cx cy s = (s, .invalid 2 0) := by
  rw [serveSetCursor, if_pos h]

theorem serveSetCursor_of_badY {cx cy : Byte} (hlo : s.fm.win.x0 ≤ cx.toNat) (hhi : cx.toNat ≤ s.fm.win.x1)
    (h : cy.toNat < s.fm.win.y0 ∨ s.fm.win.y1 < cy.toNat) :
    serveSetCursor cx cy s = (s, .invalid 3 0) := by
  rw [serveSetCursor, if_neg (by omega), if_pos h]

theorem serveSetCursor_of_has {cx cy : Byte} (h : s.fm.win.Has { cx := cx.toNat, cy := cy.toNat }) :
    serveSetCursor cx cy s =
      if s.fm.fill.isSome = true then (s, .busy)
      else ({ s with fm := { s.fm with cursor := { cx := cx.toNat, cy := cy.toNat } } }, .done []) := by
  obtain ⟨hx0, hx1, hy0, hy1⟩ := h
  dsimp only at *
  rw [serveSetCursor, if_neg (by omega), if_neg (by omega)]
  rfl

/-! ### READ CELLS (R20) -/

/-- A count of at least 1 that meets no other refusal meets none. -/
theorem count_not_refused {w : Nat} {count : BitVec w} {bad : Prop} (h1 : 1 ≤ count.toNat) (h : ¬bad) :
    ¬(count = 0 ∨ bad) := by
  rintro (rfl | hb)
  · simp at h1
  · exact h hb

theorem serveReadCells_of_bad {count : Half} (h : count.toNat = 0 ∨ 1024 < count.toNat) :
    serveReadCells count s = (s, .invalid 2 0) := by
  rw [serveReadCells, if_pos (by rwa [BitVec.toNat_eq])]

/-- What READ CELLS reads is the walk's cells as they stand, and it moves the cursor alone (R17, R20). -/
theorem readBytes_eq_walk (n : Nat) (fm : FloorMap) :
    readBytes n fm = ({ fm with cursor := Nat.iterate (fm.win.advance fm.mode) n fm.cursor },
      (fm.win.walk fm.mode n fm.cursor).map fun c => (fm.cellAt c).toByte) := by
  induction n generalizing fm with
  | zero => rfl
  | succ n ih =>
    rw [readBytes, ih]
    rfl

theorem serveReadCells_of_ok {count : Half} (h1 : 1 ≤ count.toNat) (h2 : count.toNat ≤ 1024) :
    serveReadCells count s =
      if s.fm.fill.isSome = true then (s, .busy)
      else ({ s with fm := { s.fm with
          cursor := Nat.iterate (s.fm.win.advance s.fm.mode) count.toNat s.fm.cursor } },
        .done ((s.fm.win.walk s.fm.mode count.toNat s.fm.cursor).map fun c => (s.fm.cellAt c).toByte)) := by
  have hc : ¬(count = 0 ∨ 1024 < count.toNat) := count_not_refused h1 (by omega)
  rw [serveReadCells, if_neg hc, readBytes_eq_walk]
  rfl

/-! ### READ SECTORS and READ CHANGES (R13, R28) -/

theorem serveReadSectors_of_bad {start count : Byte}
    (h : count.toNat = 0 ∨ 64 < count.toNat ∨ 256 < start.toNat + count.toNat) :
    serveReadSectors start count s = (s, .invalid 3 0) := by
  rw [serveReadSectors, if_pos (by rwa [BitVec.toNat_eq])]

theorem serveReadSectors_of_ok {start count : Byte} (h1 : 1 ≤ count.toNat) (h2 : count.toNat ≤ 64)
    (h3 : start.toNat + count.toNat ≤ 256) :
    serveReadSectors start count s =
      if s.fm.fill.isSome = true then (s, .busy)
      else (s, .done ((List.range count.toNat).flatMap fun k => (s.fm.sectorAt (start.toNat + k)).bytes)) := by
  have hc : ¬(count = 0 ∨ 64 < count.toNat ∨ 256 < start.toNat + count.toNat) := count_not_refused h1 (by omega)
  rw [serveReadSectors, if_neg hc]
  rfl

theorem serveReadChanges_of_bad {count : Byte} (h : count.toNat = 0 ∨ 64 < count.toNat) :
    serveReadChanges count s = (s, .invalid 2 0) := by
  rw [serveReadChanges, if_pos (by rwa [BitVec.toNat_eq])]

/-- The oldest entries go, as many as asked for or as many as there are; ChangeLost stands while any is left. -/
theorem serveReadChanges_of_ok {count : Byte} (h1 : 1 ≤ count.toNat) (h2 : count.toNat ≤ 64) :
    serveReadChanges count s =
      ({ s with fm := { s.fm with
          changes := s.fm.changes.drop count.toNat
          changeLost := s.fm.changeLost && decide (count.toNat < s.fm.changes.length) } },
       .done (byte (min count.toNat s.fm.changes.length) ::
         (s.fm.changes.take count.toNat).flatMap ChangeEntry.bytes)) := by
  have hc : ¬(count = 0 ∨ 64 < count.toNat) := count_not_refused h1 (by omega)
  have left : s.fm.changes.drop count.toNat ≠ [] ↔ count.toNat < s.fm.changes.length := by
    rw [ne_eq, List.drop_eq_nil_iff, Nat.not_le]
  simp only [serveReadChanges, if_neg hc, left, List.length_take]

end owners

/-- The first bad field of a SET WINDOW, case by case in the order of R15. -/
theorem windowBad_cases (xs xe ys ye p xd yd : Byte) :
    (xe < xs → windowBad xs xe ys ye p xd yd = some 3) ∧
    (xs ≤ xe → ye < ys → windowBad xs xe ys ye p xd yd = some 5) ∧
    (xs ≤ xe → ys ≤ ye → 1 < p → windowBad xs xe ys ye p xd yd = some 6) ∧
    (xs ≤ xe → ys ≤ ye → p ≤ 1 → 1 < xd → windowBad xs xe ys ye p xd yd = some 7) ∧
    (xs ≤ xe → ys ≤ ye → p ≤ 1 → xd ≤ 1 → 1 < yd → windowBad xs xe ys ye p xd yd = some 8) ∧
    (xs ≤ xe → ys ≤ ye → p ≤ 1 → xd ≤ 1 → yd ≤ 1 → windowBad xs xe ys ye p xd yd = none) := by
  have pass {a b : Byte} {m n : Option Nat} (h : a ≤ b) : (if b < a then m else n) = n :=
    if_neg (BitVec.not_lt.2 h)
  unfold windowBad
  refine ⟨fun h => if_pos h, fun h1 h => ?_, fun h1 h2 h => ?_, fun h1 h2 h3 h => ?_,
    fun h1 h2 h3 h4 h => ?_, fun h1 h2 h3 h4 h5 => ?_⟩
  · rw [pass h1, if_pos h]
  · rw [pass h1, pass h2, if_pos h]
  · rw [pass h1, pass h2, pass h3, if_pos h]
  · rw [pass h1, pass h2, pass h3, pass h4, if_pos h]
  · rw [pass h1, pass h2, pass h3, pass h4, pass h5]

/-- Settles O10: each owner's answer, placed by a ready part. -/
theorem windowCursorAndReadCells : Obligations.WindowCursorAndReadCells := by
  intro s hs
  refine ⟨fun xs xe ys ye p xd yd => ?_, fun cx cy => ?_, fun count => ?_⟩
  · have bad {n : Nat} (h : windowBad xs xe ys ye p xd yd = some n) :
        exec (.setWindow xs xe ys ye p xd yd) s = .next (s.answered 10 (.invalid n 0)) :=
      exec_answers_same hs rfl rfl rfl (serveSetWindow_of_bad _ h)
    obtain ⟨bad3, bad5, bad6, bad7, bad8, ok⟩ := windowBad_cases xs xe ys ye p xd yd
    refine ⟨fun h => bad (bad3 h), fun h1 h2 => bad (bad5 h1 h2), fun h1 h2 h3 => bad (bad6 h1 h2 h3),
      fun h1 h2 h3 h4 => bad (bad7 h1 h2 h3 h4), fun h1 h2 h3 h4 h5 => bad (bad8 h1 h2 h3 h4 h5),
      fun h1 h2 h3 h4 h5 => ⟨fun hf => ?_, fun hf => ?_⟩⟩
    · exact exec_answers_same hs rfl rfl rfl (serveSetWindow_of_filling _ (ok h1 h2 h3 h4 h5) hf)
    · exact exec_answers hs rfl rfl rfl (serveSetWindow_of_ok _ (ok h1 h2 h3 h4 h5) hf)
  · refine ⟨fun h => ?_, fun h1 h2 h => ?_, fun h => ⟨fun hf => ?_, fun hf => ?_⟩⟩
    · exact exec_answers_same hs rfl rfl rfl (serveSetCursor_of_badX _ h)
    · exact exec_answers_same hs rfl rfl rfl (serveSetCursor_of_badY _ h1 h2 h)
    · exact exec_answers_same hs rfl rfl rfl ((serveSetCursor_of_has (s.taken 5) h).trans (if_pos hf))
    · exact exec_answers hs rfl rfl rfl ((serveSetCursor_of_has (s.taken 5) h).trans (if_neg (s.taken_not_filling hf)))
  · refine ⟨fun h => ?_, fun h1 h2 => ⟨fun hf => ?_, fun hf => ?_⟩⟩
    · exact exec_answers_same hs rfl rfl rfl (serveReadCells_of_bad _ h)
    · exact exec_answers_same hs rfl rfl rfl ((serveReadCells_of_ok _ h1 h2).trans (if_pos hf))
    · exact exec_answers hs rfl rfl rfl ((serveReadCells_of_ok _ h1 h2).trans (if_neg (s.taken_not_filling hf)))

/-- Settles O16: each owner's answer, placed by a ready part. -/
theorem sectorsAndChangesAreRead : Obligations.SectorsAndChangesAreRead := by
  intro s hs
  refine ⟨fun start count => ⟨fun h => ?_, fun h1 h2 h3 => ⟨fun hf => ?_, fun hf => ?_⟩⟩,
    fun count => ⟨fun h => ?_, fun h1 h2 => ?_⟩⟩
  · exact exec_answers_same hs rfl rfl rfl (serveReadSectors_of_bad _ h)
  · exact exec_answers_same hs rfl rfl rfl ((serveReadSectors_of_ok _ h1 h2 h3).trans (if_pos hf))
  · exact exec_answers_same hs rfl rfl rfl
      ((serveReadSectors_of_ok _ h1 h2 h3).trans (if_neg (s.taken_not_filling hf)))
  · exact exec_answers_same hs rfl rfl rfl (serveReadChanges_of_bad _ h)
  · exact exec_answers hs rfl rfl rfl (serveReadChanges_of_ok _ h1 h2)

end Sys2Proof.Machine
end

section
namespace Sys2Proof.Machine
open Sys2Proof

/-! ## LOAD LIST (R71, R76, R77) -/

/-- On a ready part a request whose owner leaves state t, but for the request it has taken, leaves t and the
response in the slot. -/
theorem exec_leaves {i : Instr} {f : Frame} {n : Nat} {s t : State} {r : Response} (h : s.Ready)
    (hf : requestFrame i = some f) (hb : f.badEnvelope = false) (hn : 3 + f.body.length = n)
    (ho : serve i (s.taken n) = (t.taken n, r)) : exec i s = .next (t.answered n r) := by
  subst hn
  rw [exec_of_request hf, State.request_of_ready i f (serve i) s h hf hb]
  exact congrArg (fun a => Host.Outcome.next (State.place a)) ho

/-- The frame of a LOAD LIST with at most 1020 slot numbers has a good envelope (R164). -/
theorem loadListFrame_envelope (list length passes flags : Byte) {slots : List Byte} (h : slots.length ≤ 1020) :
    (Frame.mk' 0x32 ([list, length, passes, flags] ++ slots)).badEnvelope = false :=
  Frame.mk'_envelope _ _ (by simp; omega)

theorem loadListFrame_length (list length passes flags : Byte) (slots : List Byte) :
    3 + (Frame.mk' 0x32 ([list, length, passes, flags] ++ slots)).body.length = 7 + slots.length := by
  simp [Frame.mk']
  omega

/-- When a run list is engaged (R71). -/
theorem RouteEngine.engaged_iff (re : RouteEngine) (id : ListId) :
    re.engaged id = true ↔
      (re.state = .running ∨ re.state = .draining) ∧ re.active = some id ∨
      re.state = .halted ∧ re.haltedOn = some id ∨
      id = .main ∧ re.suspended.isSome = true ∨ id = .priority ∧ re.switchPending = true := by
  cases id <;> simp [RouteEngine.engaged, or_assoc]

/-! ### The list and the slots it names -/

theorem ListId.ofByte_of_gt {list : Byte} (h : 1 < list.toNat) : ListId.ofByte list = none := by
  unfold ListId.ofByte
  split
  · omega
  · omega
  · rfl

/-- A slot number that names no record: beyond the pool, or of an empty slot (R76). -/
def RouteEngine.namesNone (re : RouteEngine) (b : Byte) : Bool :=
  decide (127 < b.toNat ∨ (re.slotAt b.toNat).isNone)

theorem RouteEngine.namesNone_iff (re : RouteEngine) (b : Byte) :
    re.namesNone b = true ↔ 127 < b.toNat ∨ re.slotAt b.toNat = none := by
  simp [RouteEngine.namesNone]

theorem RouteEngine.not_namesNone_iff (re : RouteEngine) (b : Byte) :
    ¬re.namesNone b = true ↔ b.toNat ≤ 127 ∧ (re.slotAt b.toNat).isSome = true := by
  rw [re.namesNone_iff, not_or, Nat.not_lt, Option.isSome_iff_ne_none]

theorem firstBadSlot_eq_findIdx? (re : RouteEngine) (k : Nat) (slots : List Byte) :
    firstBadSlot re k slots = (slots.findIdx? re.namesNone).map (· + k) := by
  induction slots generalizing k with
  | nil => rfl
  | cons b bs ih =>
    have none_iff : (127 < b.toNat ∨ (re.slotAt b.toNat).isNone = true) ↔ re.namesNone b = true :=
      decide_eq_true_iff.symm
    simp only [firstBadSlot, none_iff, List.findIdx?_cons, ih]
    split
    · simp
    · simp [Function.comp_def, Nat.add_assoc, Nat.add_comm 1 k]

/-- The first bad slot number is one that names no record, behind numbers that name one each. -/
theorem firstBadSlot_eq_some {re : RouteEngine} {slots : List Byte} {n : Nat} {b : Byte} (hn : slots[n]? = some b)
    (hb : 127 < b.toNat ∨ re.slotAt b.toNat = none)
    (before : ∀ j c, j < n → slots[j]? = some c → c.toNat ≤ 127 ∧ (re.slotAt c.toNat).isSome = true) :
    firstBadSlot re 0 slots = some n := by
  obtain ⟨hlt, rfl⟩ := List.getElem?_eq_some_iff.1 hn
  have found : slots.findIdx? re.namesNone = some n :=
    List.findIdx?_eq_some_iff_getElem.2 ⟨hlt, (re.namesNone_iff _).2 hb, fun j hj =>
      (re.not_namesNone_iff _).2 (before j _ hj (List.getElem?_eq_getElem (hj.trans hlt)))⟩
  rw [firstBadSlot_eq_findIdx?, found]
  rfl

/-- There is no bad slot number in a list whose numbers each name a record. -/
theorem firstBadSlot_eq_none {re : RouteEngine} {slots : List Byte}
    (h : ∀ b ∈ slots, b.toNat ≤ 127 ∧ (re.slotAt b.toNat).isSome = true) : firstBadSlot re 0 slots = none := by
  have found : slots.findIdx? re.namesNone = none :=
    List.findIdx?_eq_none_iff.2 fun b hb => Bool.eq_false_iff.2 ((re.not_namesNone_iff b).2 (h b hb))
  rw [firstBadSlot_eq_findIdx?, found]
  rfl

/-! ### The owner's answer (R76, R77) -/

section owner
variable {list length passes flags : Byte} {slots : List Byte} {id : ListId} (s : State)

theorem serveLoadList_of_badList (h : 1 < list.toNat) :
    serveLoadList list length passes flags slots s = (s, .invalid 2 0) := by
  rw [serveLoadList, ListId.ofByte_of_gt h]

theorem serveLoadList_of_badLength (hid : ListId.ofByte list = some id)
    (h : id.cap < length.toNat ∨ slots.length ≠ length.toNat) :
    serveLoadList list length passes flags slots s = (s, .invalid 3 0) := by
  simp only [serveLoadList, hid]
  split
  · rfl
  · next hcap => rw [if_pos (h.resolve_left hcap)]

theorem serveLoadList_of_badSlot {n : Nat} (hid : ListId.ofByte list = some id) (hcap : length.toNat ≤ id.cap)
    (hlen : slots.length = length.toNat) (h : firstBadSlot s.mo.re 0 slots = some n) :
    serveLoadList list length passes flags slots s = (s, .invalid 6 n) := by
  simp only [serveLoadList, hid, if_neg (Nat.not_lt.2 hcap), if_neg (not_not_intro hlen), h]

theorem serveLoadList_of_ok (hid : ListId.ofByte list = some id) (hcap : length.toNat ≤ id.cap)
    (hlen : slots.length = length.toNat) (h : firstBadSlot s.mo.re 0 slots = none) :
    serveLoadList list length passes flags slots s =
      if s.mo.re.engaged id = true then (s, .rejected .inUse)
      else (s.withEngine (s.mo.re.setList id (loadedList id passes flags slots)), .done []) := by
  simp only [serveLoadList, hid, if_neg (Nat.not_lt.2 hcap), if_neg (not_not_intro hlen), h]
  rfl

end owner

/-- Settles O28: the owner's answer, refusals in the order of R76, placed by a ready part. -/
theorem listsAreLoaded : Obligations.ListsAreLoaded := by
  intro list length passes flags slots s hs hslots
  have frame := loadListFrame_envelope list length passes flags hslots
  have bytes := loadListFrame_length list length passes flags slots
  have refuses {r : Response} (ho : ∀ q : State, q.mo.re = s.mo.re →
      serveLoadList list length passes flags slots q = (q, r)) :
      exec (.loadList list length passes flags slots) s = .next (s.answered (7 + slots.length) r) :=
    exec_leaves hs rfl frame bytes (ho _ rfl)
  refine ⟨s.mo.re.engaged_iff, fun h => refuses fun q _ => serveLoadList_of_badList q h,
    fun id cap hlist hcap => ?_⟩
  have hid : ListId.ofByte list = some id := by subst hlist; cases id <;> rfl
  obtain rfl : cap = id.cap := by cases id <;> exact hcap
  refine ⟨fun h => refuses fun q _ => serveLoadList_of_badLength q hid h, fun hc hl =>
    ⟨fun n b hn hb before => refuses fun q hq => ?_, fun named => ?_⟩⟩
  · exact serveLoadList_of_badSlot q hid hc hl (hq ▸ firstBadSlot_eq_some hn hb before)
  have served (q : State) (hq : q.mo.re = s.mo.re) := serveLoadList_of_ok (passes := passes) (flags := flags)
    q hid hc hl (hq ▸ firstBadSlot_eq_none named)
  refine ⟨fun he => refuses fun q hq => (served q hq).trans (if_pos (hq ▸ he)), fun he l hl => ?_⟩
  subst hl
  refine exec_leaves hs rfl frame bytes (((served (s.taken _) rfl).trans (if_neg ?_)).trans ?_)
  · exact Bool.eq_false_iff.1 he
  · cases id <;> rfl

end Sys2Proof.Machine
end

section
namespace Sys2Proof.Machine
open Sys2Proof

/-! ## FETCH (R168) -/

/-- A PARKED part is woken by an enabled cause (R183). -/
theorem State.wakeIf_of_parked {s : State} (h : s.mo.eu.device = .parked) (c : WakeCause) :
    s.wakeIf true c = s.wake c := by
  simp [State.wakeIf, State.parked, h]

theorem State.fetch_of_run {s : State} (h : s.mo.eu.device = .run) (n : Nat) :
    s.fetch n = { s with pp := s.pp.fetch n } := by
  unfold State.fetch State.frameWake
  rw [s.wakeIf_of_run true .frame h]

theorem State.fetch_of_parked {s : State} (h : s.mo.eu.device = .parked) (n : Nat) :
    s.fetch n = (s.wake .frame).fetch n := by
  rw [State.fetch_of_run (s.wake_leaves .frame).1, State.fetch, State.frameWake, State.wakeIf_of_parked h]

theorem PlannerPort.fetch_of_slot {pp : PlannerPort} {r : Response} (h : pp.slot = some r) (n : Nat) :
    pp.fetch n = { pp with miso := (r.bytes ++ List.replicate n 0).take n
                           slot := if r.bytes.length ≤ n then none else some r } := by
  simp only [PlannerPort.fetch, PlannerPort.outBytes, h]

/-- An empty slot shifts out EMPTY with length 0 and stays empty. -/
theorem PlannerPort.fetch_of_empty {pp : PlannerPort} (h : pp.slot = none) (n : Nat) :
    pp.fetch n = { pp with miso := (emptyBytes ++ List.replicate n 0).take n } := by
  simp only [PlannerPort.fetch, PlannerPort.outBytes, h, ite_self]

/-- EMPTY and the zeros after it, from the numbers 6, 0, 0 and 0 each taken as a byte. -/
theorem bytes_of_emptyNumbers (n : Nat) :
    (([6, 0, 0] ++ List.replicate n 0 : List Nat) >>= fun a => pure (a : Byte)) =
      emptyBytes ++ List.replicate n 0 := by
  rw [bind_pure_comp, List.map_eq_map, List.map_append, List.map_replicate]
  rfl

theorem exec_fetch (n : Nat) (s : State) : exec (.fetch n) s = .next (s.fetch n) := rfl

theorem exec_transactionEnd_fetch (rest : List Byte) (s : State) :
    exec (.transactionEnd (0 :: rest)) s = .next (s.fetch rest.length) := rfl

/-- Settles O5: a part in RUN shifts out its slot, and a PARKED one wakes into RUN first. -/
theorem fetchShiftsOutTheSlot : Obligations.FetchShiftsOutTheSlot := by
  intro n s
  refine ⟨fun run => ⟨fun r slot => ?_, fun slot => ?_⟩, fun parked => ⟨?_, (s.wake_leaves .frame).1⟩,
    fun rest len => ?_⟩
  · rw [exec_fetch, State.fetch_of_run run, PlannerPort.fetch_of_slot slot]
  · rw [exec_fetch, State.fetch_of_run run, PlannerPort.fetch_of_empty slot, ← bytes_of_emptyNumbers]
  · rw [exec_fetch, exec_fetch, State.fetch_of_parked parked]
  · rw [exec_transactionEnd_fetch, exec_fetch, len]

end Sys2Proof.Machine
end

section
namespace Sys2Proof.Machine
open Sys2Proof

/-! ## The tuning block (R170, R171)

The facts about fields and ranges hold for every list of widths and of ranges; the block's own are then closed facts
about its two tables. -/

/-! ### Fields as bytes, least significant first -/

theorem leBytes_length (k n : Nat) : (leBytes k n).length = k := by
  induction k generalizing n with
  | zero => rfl
  | succ k ih => rw [leBytes, List.length_cons, ih]

/-- A number that fits k bytes is read back from them. -/
theorem leValue_leBytes {k n : Nat} (h : n < 256 ^ k) : leValue (leBytes k n) = n := by
  induction k generalizing n with
  | zero =>
    obtain rfl : n = 0 := Nat.lt_one_iff.1 h
    rfl
  | succ k ih =>
    have rest : n / 256 < 256 ^ k := Nat.div_lt_of_lt_mul (by rwa [Nat.pow_succ'] at h)
    rw [leBytes, leValue, ih rest, byte, BitVec.toNat_ofNat]
    exact Nat.mod_add_div n 256

/-- Fields that fit their widths are read back from their bytes. -/
theorem readFields_fieldBytes {ws vs : List Nat} (h : fits ws vs = true) :
    readFields ws (fieldBytes ws vs) = some vs := by
  induction ws generalizing vs with
  | nil =>
    cases vs with
    | nil => rfl
    | cons v vs => cases h
  | cons w ws ih =>
    cases vs with
    | nil => cases h
    | cons v vs =>
      obtain ⟨hv, hvs⟩ : v < 256 ^ w ∧ fits ws vs = true := by simpa [fits] using h
      have bytes : fieldBytes (w :: ws) (v :: vs) = leBytes w v ++ fieldBytes ws vs := rfl
      have long : ¬(leBytes w v ++ fieldBytes ws vs).length < w := by simp [leBytes_length]
      rw [bytes, readFields, if_neg long, List.drop_left' (leBytes_length w v),
        List.take_left' (leBytes_length w v), ih hvs, leValue_leBytes hv]
      rfl

/-! ### Fields and their ranges -/

/-- Fields within ranges that fit the widths fit the widths themselves. -/
theorem fits_of_firstOutside_eq_none {ws : List Nat} {rs : List (Nat × Nat)} {vs : List Nat} {m : Nat}
    (hr : List.Forall₂ (fun w r => r.2 < 256 ^ w) ws rs) (hlen : vs.length = rs.length)
    (h : firstOutside m rs vs = none) : fits ws vs = true := by
  induction hr generalizing vs m with
  | nil =>
    rw [List.length_eq_zero_iff.1 hlen]
    rfl
  | @cons w r ws rs hw _ ih =>
    obtain ⟨lo, hi⟩ := r
    cases vs with
    | nil => cases hlen
    | cons v vs =>
      rw [firstOutside] at h
      split at h
      · cases h
      · next inside =>
        have hv : v < 256 ^ w := (Nat.not_lt.1 (not_or.1 inside).2).trans_lt hw
        rw [fits, ih (Nat.succ.inj hlen) h, decide_eq_true hv]
        rfl

/-- The field at place n is named, counted from m, when it is outside its range and those before it are in theirs. -/
theorem firstOutside_eq_some {rs : List (Nat × Nat)} {vs : List Nat} {n : Nat} (m : Nat)
    (hr : n < rs.length) (hv : n < vs.length)
    (before : ∀ k v lo hi, k < n → vs[k]? = some v → rs[k]? = some (lo, hi) → lo ≤ v ∧ v ≤ hi)
    (bad : ∀ v lo hi, vs[n]? = some v → rs[n]? = some (lo, hi) → v < lo ∨ hi < v) :
    firstOutside m rs vs = some (n + m) := by
  induction n generalizing m rs vs with
  | zero =>
    obtain ⟨⟨lo, hi⟩, rs, rfl⟩ := List.exists_cons_of_length_pos hr
    obtain ⟨v, vs, rfl⟩ := List.exists_cons_of_length_pos hv
    rw [firstOutside, if_pos (bad v lo hi rfl rfl), Nat.zero_add]
  | succ n ih =>
    obtain ⟨⟨lo, hi⟩, rs, rfl⟩ := List.exists_cons_of_length_pos (Nat.zero_lt_of_lt hr)
    obtain ⟨v, vs, rfl⟩ := List.exists_cons_of_length_pos (Nat.zero_lt_of_lt hv)
    obtain ⟨hlo, hhi⟩ := before 0 v lo hi n.succ_pos rfl rfl
    rw [firstOutside, if_neg (not_or.2 ⟨Nat.not_lt.2 hlo, Nat.not_lt.2 hhi⟩),
      ih (m + 1) (Nat.lt_of_succ_lt_succ hr) (Nat.lt_of_succ_lt_succ hv)
        (fun k v lo hi hk => before (k + 1) v lo hi (Nat.succ_lt_succ hk)) bad, Nat.succ_add_eq_add_succ]

/-! ### The block and its owners -/

theorem tuningBytes_length (t : Tuning) : (tuningBytes t).length = 50 := rfl

/-- Each range of section 9.4 fits its bytes of section 12.4. -/
theorem tuningRanges_fit : List.Forall₂ (fun w r => r.2 < 256 ^ w) tuningWidths tuningRanges := by
  simp [tuningWidths, tuningRanges]

/-- A block in its ranges is the one its bytes are read as. -/
theorem parseWriteTuning_tuningBytes {t : Tuning} (h : tuningOk t) :
    parseWriteTuning (tuningBytes t) = .request (.writeTuning t) := by
  have fields : readFields tuningWidths (tuningBytes t) = some (tuningList t) :=
    readFields_fieldBytes (fits_of_firstOutside_eq_none tuningRanges_fit rfl h)
  rw [parseWriteTuning, fields]
  rfl

theorem writeTuningFrame_envelope (t : Tuning) : (Frame.mk' 0x40 (tuningBytes t)).badEnvelope = false :=
  Frame.mk'_envelope _ _ (by rw [tuningBytes_length]; decide)

theorem serveWriteTuning_of_ok {t : Tuning} (h : tuningOk t) (s : State) :
    serveWriteTuning t s = ({ s with tun := t }, .done []) := by
  rw [serveWriteTuning, show firstOutside 2 tuningRanges (tuningList t) = none from h]

theorem serveWriteTuning_of_bad {t : Tuning} {n : Nat} (h : firstOutside 2 tuningRanges (tuningList t) = some n)
    (s : State) : serveWriteTuning t s = (s, .invalid n 0) := by
  rw [serveWriteTuning, h]

/-- Settles O9: each owner's answer placed by a ready part, and the block read back field by field. -/
theorem tuningIsWrittenAndReadBack : Obligations.TuningIsWrittenAndReadBack := by
  intro s hs
  refine ⟨fun t ok => ?_, fun t n hn before bad => ?_, ?_, fun ok => ⟨tuningBytes_length _, ?_⟩⟩
  · exact exec_leaves hs rfl (writeTuningFrame_envelope t) rfl (serveWriteTuning_of_ok ok _)
  · have named : firstOutside 2 tuningRanges (tuningList t) = some (n + 2) :=
      firstOutside_eq_some 2 hn hn before bad
    exact exec_answers_same hs rfl (writeTuningFrame_envelope t) rfl (serveWriteTuning_of_bad named _)
  · exact exec_answers_same hs rfl rfl rfl rfl
  · exact parseWriteTuning_tuningBytes ok

end Sys2Proof.Machine
end

section
namespace Sys2Proof.Machine
open Sys2Proof

/-! ## Event requests on a ready part (R175 to R178) -/

/-! ### READ EVENTS (R176) -/

/-- With every flag clear no cause asserts, so ATTN is low. -/
@[simp] theorem EventUnit.readOut_attn (eu : EventUnit) : eu.readOut.attn = false := by
  simp [EventUnit.attn, EventUnit.asserting, EventUnit.readOut]

/-- The sub-cause byte has Slip in bit 0 and the jump in bit 1 (section 12.1). -/
theorem bitsByte_pair (a b : Bool) : bitsByte [a, b] = (if a then 1 else 0) + (if b then 2 else 0) := by
  cases a <;> cases b <;> rfl

theorem serveReadEvents_eq (s : State) : serveReadEvents s =
    ({ s with mo := { s.mo with eu := s.mo.eu.readOut } },
     .done (halfBytes s.mo.eu.flags ++
       [byte ((if s.mo.eu.slipSeen then 1 else 0) + (if s.mo.eu.jumpSeen then 2 else 0)),
        byte (wokeCode s.mo.eu.woke)] ++ halfBytes s.mo.eu.readOut.enables)) := by
  rw [serveReadEvents, bitsByte_pair]

/-! ### ARM NOTICES (R177) -/

/-- The enables with one set of causes set and another cleared. -/
def armed (enables set clear : Half) : Half := (enables ||| set) &&& ~~~clear

theorem armed_getLsbD (enables set clear : Half) (k : Nat) :
    (armed enables set clear).getLsbD k =
      ((enables.getLsbD k || set.getLsbD k) && !clear.getLsbD k) := by
  rcases Nat.lt_or_ge k 16 with inside | outside
  · simp [armed, inside]
  · simp [armed, BitVec.getLsbD_of_ge _ _ outside]

/-- The lowest cause of a set is the one in it with none in it below. -/
theorem lowestCause_eq {w : Half} {n : Nat} (hn : w.getLsbD n = true)
    (below : ∀ k, k < n → w.getLsbD k = false) : lowestCause w = n := by
  have found : (List.range 16).find? (fun k => w.getLsbD k) = some n :=
    List.find?_range_eq_some.2 ⟨hn, List.mem_range.2 (BitVec.lt_of_getLsbD hn), fun k hk => by simp [below k hk]⟩
  rw [lowestCause, found, Option.getD_some]

theorem serveArmNotices_of_disjoint {set clear : Half} (h : set &&& clear = 0) (s : State) :
    serveArmNotices set clear s =
      ({ s with mo := { s.mo with eu := { s.mo.eu with enables := armed s.mo.eu.enables set clear } } },
       .done (halfBytes (armed s.mo.eu.enables set clear))) :=
  if_neg (not_not_intro h)

theorem serveArmNotices_of_both {set clear : Half} {n : Nat} (hn : (set &&& clear).getLsbD n = true)
    (below : ∀ k, k < n → (set &&& clear).getLsbD k = false) (s : State) :
    serveArmNotices set clear s = (s, .invalid 3 n) := by
  have shared : set &&& clear ≠ 0 := fun h => by simp [h] at hn
  rw [serveArmNotices, if_pos shared, lowestCause_eq hn below]

/-! ### ARM WAKE (R178) -/

section wake
variable {h u b : Byte} (s : State)

theorem serveArmWake_of_badHazard (hh : 1 < h) : serveArmWake h u b s = (s, .invalid 2 0) :=
  if_pos hh

theorem serveArmWake_of_badUndocked (hh : h ≤ 1) (hu : 1 < u) : serveArmWake h u b s = (s, .invalid 3 0) := by
  rw [serveArmWake, if_neg (BitVec.not_lt.2 hh), if_pos hu]

theorem serveArmWake_of_badBattery (hh : h ≤ 1) (hu : u ≤ 1) (hb : 1 < b) :
    serveArmWake h u b s = (s, .invalid 4 0) := by
  rw [serveArmWake, if_neg (BitVec.not_lt.2 hh), if_neg (BitVec.not_lt.2 hu), if_pos hb]

end wake

theorem flagByte_not_gt (b : Bool) : ¬1 < flagByte b := by
  cases b <;> decide

theorem flagByte_eq_one (b : Bool) : decide (flagByte b = 1) = b := by
  cases b <;> decide

/-- Each wake enable takes the value carried for it. -/
theorem serveArmWake_flagByte (h u b : Bool) (s : State) :
    serveArmWake (flagByte h) (flagByte u) (flagByte b) s =
      ({ s with mo := { s.mo with eu := { s.mo.eu with wakeHazard := h, wakeUndocked := u, wakeBattery := b } } },
       .done [flagByte h, flagByte u, flagByte b]) := by
  rw [serveArmWake, if_neg (flagByte_not_gt h), if_neg (flagByte_not_gt u), if_neg (flagByte_not_gt b),
    flagByte_eq_one, flagByte_eq_one, flagByte_eq_one]

/-- Settles O56: each owner's answer, placed by a ready part. -/
theorem eventsAreReadAndArmed : Obligations.EventsAreReadAndArmed := by
  intro s hs
  refine ⟨⟨_, ?_, s.mo.eu.readOut_attn, rfl⟩, fun set clear => ⟨fun disjoint => ?_, fun n hn below => ?_⟩,
    fun h u b => ⟨fun hh => ?_, fun hh hu => ?_, fun hh hu hb => ?_⟩, fun h u b => ?_⟩
  · exact exec_leaves hs rfl rfl rfl (serveReadEvents_eq _)
  · exact ⟨_, exec_leaves (t := { s with mo := { s.mo with eu :=
        { s.mo.eu with enables := armed s.mo.eu.enables set clear } } }) hs rfl rfl rfl
      (serveArmNotices_of_disjoint disjoint _), armed_getLsbD _ set clear, rfl⟩
  · exact exec_answers_same hs rfl rfl rfl (serveArmNotices_of_both hn below _)
  · exact exec_answers_same hs rfl rfl rfl (serveArmWake_of_badHazard _ hh)
  · exact exec_answers_same hs rfl rfl rfl (serveArmWake_of_badUndocked _ hh hu)
  · exact exec_answers_same hs rfl rfl rfl (serveArmWake_of_badBattery _ hh hu hb)
  · exact exec_leaves hs rfl rfl rfl (serveArmWake_flagByte h u b _)

end Sys2Proof.Machine
end

section
/-! SUPPORT. What the Route Engine's operations can do to the lists, the segment in progress, the grant and the pose,
each said once; from it the invariants of the run, of its grants (section 5.1, 6.4) and of the pose (section 2.1)
over every step. -/

namespace Sys2Proof.Machine
open Sys2Proof

/-! ## What an operation on the segment in progress leaves

Three relations of the motion blocks before and after. `Carries` is what every operation on the segment in progress
keeps. `Quiet` is the part of one that decides nothing yet; it composes. `Goes` is an operation that decides what the
segment waits for next. -/

/-- No grant is SENT or ACTIVE. -/
def Motion.Closed (m : Motion) : Prop := m.dp.grant.state.openTo = false

/-- The pose record as a dock snap leaves it (R48). -/
def PoseUnit.snapped (env : Env) (d : DockPose) (pu : PoseUnit) : PoseUnit :=
  { pu with x := d.x, y := d.y, theta := d.theta, u := env.tun.dockUncertainty, centre := cellOf d.x d.y, slip := 0 }

/-- The pool, the lists, the run, the Dock Pose and whether there is a segment stand; the pose stands or is snapped;
only with a segment in progress is there a new move to make. -/
structure Motion.Carries (env : Env) (m q : Motion) : Prop where
  pool     : q.re.pool = m.re.pool
  main     : q.re.main = m.re.main
  priority : q.re.priority = m.re.priority
  state    : q.re.state = m.re.state
  active   : q.re.active = m.re.active
  sub      : q.re.sub = m.re.sub
  seg      : q.re.seg.isSome = m.re.seg.isSome
  dockPose : q.du.pose = m.du.pose
  pose     : q.pu = m.pu ∨ ∃ d, m.du.pose = some d ∧ q.pu = m.pu.snapped env d
  moves    : q.re.todo = m.re.todo ∨ m.re.seg.isSome = true

/-- The engine's next move stands as well, and no grant is opened. -/
structure Motion.Quiet (env : Env) (m q : Motion) : Prop extends Motion.Carries env m q where
  todo   : q.re.todo = m.re.todo
  closed : m.Closed → q.Closed

/-- What the segment in progress waits for, with the grant and the engine's next move beside it: nothing with no grant
open; or its check, its grant held back or its grant sent, and then the engine's next move `t` stands. -/
def Motion.Waiting (t : Todo) (q : Motion) (sr : SegRun) : Prop :=
  (sr.wait = .nothing ∧ q.Closed) ∨
  (sr.wait = .check ∧ q.Closed ∧ sr.phase.standing = false ∧ q.re.todo = t) ∨
  (sr.wait = .held ∧ q.Closed ∧ sr.phase.standing = false ∧ sr.phase ≠ .vet ∧ q.re.todo = t) ∨
  (sr.wait = .grant ∧ q.dp.grant.state.openTo = true ∧ sr.phase.standing = false ∧ sr.phase ≠ .vet ∧ q.re.todo = t)

/-- An operation on a segment in progress with no grant open decides what it waits for. -/
structure Motion.Goes (env : Env) (m q : Motion) : Prop extends Motion.Carries env m q where
  waiting : m.Closed → ∃ sr, q.re.seg = some sr ∧ q.Waiting m.re.todo sr

namespace Motion
variable {env : Env} {m p q : Motion}

theorem Carries.trans (h : Carries env m p) (k : Carries env p q) : Carries env m q where
  pool := k.pool.trans h.pool
  main := k.main.trans h.main
  priority := k.priority.trans h.priority
  state := k.state.trans h.state
  active := k.active.trans h.active
  sub := k.sub.trans h.sub
  seg := k.seg.trans h.seg
  dockPose := k.dockPose.trans h.dockPose
  pose := by
    obtain hp | ⟨d, hd, hp⟩ := h.pose <;> obtain hq | ⟨e, he, hq⟩ := k.pose
    · exact .inl (hq.trans hp)
    · exact .inr ⟨e, h.dockPose ▸ he, hp ▸ hq⟩
    · exact .inr ⟨d, hd, hq.trans hp⟩
    · rw [h.dockPose, hd] at he
      cases he
      exact .inr ⟨d, hd, by rw [hq, hp]; rfl⟩
  moves := by
    obtain hp | hp := h.moves
    · exact k.moves.imp (·.trans hp) fun hs => h.seg ▸ hs
    · exact .inr hp

theorem Quiet.refl : Quiet env m m :=
  ⟨⟨rfl, rfl, rfl, rfl, rfl, rfl, rfl, rfl, .inl rfl, .inl rfl⟩, rfl, id⟩

theorem Quiet.trans (h : Quiet env m p) (k : Quiet env p q) : Quiet env m q :=
  ⟨h.toCarries.trans k.toCarries, k.todo.trans h.todo, fun c => k.closed (h.closed c)⟩

/-- A part that decides nothing, and then an operation that decides. -/
theorem Quiet.goes (h : Quiet env m p) (k : Goes env p q) : Goes env m q :=
  ⟨h.toCarries.trans k.toCarries, fun c => h.todo ▸ k.waiting (h.closed c)⟩

theorem Quiet.isSome (h : Quiet env m p) (hs : m.re.seg.isSome = true) : p.re.seg.isSome = true := h.seg.trans hs

/-- What touches none of the Route Engine, the Pose Unit, the Dock Pose and the openness of the grant is quiet. -/
theorem Quiet.of_blocks (hre : q.re = m.re) (hpu : q.pu = m.pu) (hdu : q.du.pose = m.du.pose)
    (hdp : m.Closed → q.Closed) : Quiet env m q := by
  refine ⟨⟨?_, ?_, ?_, ?_, ?_, ?_, ?_, hdu, .inl hpu, .inl ?_⟩, ?_, hdp⟩ <;> rw [hre]

/-- A change of the segment in progress and of items of the engine that are no part of the run. -/
theorem quiet_updSeg (f : SegRun → SegRun) : Quiet env m (m.updSeg f) :=
  ⟨⟨rfl, rfl, rfl, rfl, rfl, rfl, by simp [Motion.updSeg], rfl, .inl rfl, .inl rfl⟩, rfl, id⟩

theorem updSeg_seg {f : SegRun → SegRun} {sr : SegRun} (h : m.re.seg = some sr) :
    (m.updSeg f).re.seg = some (f sr) := by
  simp [Motion.updSeg, h]

theorem quiet_reachStage (n : Nat) : Quiet env m (m.reachStage n) :=
  ⟨⟨rfl, rfl, rfl, rfl, rfl, rfl, rfl, rfl, .inl rfl, .inl rfl⟩, rfl, id⟩

theorem quiet_progress (pr : Progress) : Quiet env m { m with re := { m.re with progress := pr } } :=
  ⟨⟨rfl, rfl, rfl, rfl, rfl, rfl, rfl, rfl, .inl rfl, .inl rfl⟩, rfl, id⟩

theorem quiet_du (du : DockUnit) (h : du.pose = m.du.pose) : Quiet env m { m with du := du } :=
  .of_blocks rfl rfl h id

theorem quiet_setDockPhase (d : DockPhase) : Quiet env m (setDockPhase d m) := quiet_du _ rfl

theorem quiet_releaseGuard : Quiet env m (releaseGuard m) :=
  .of_blocks (by simp) (by simp) (by simp) fun h => by simpa [Closed] using h

theorem quiet_withdrawCheck : Quiet env m (withdrawCheck m) := .of_blocks rfl rfl rfl id

theorem quiet_askStop (r : StopReason) : Quiet env m (askStop r m) :=
  .of_blocks (by simp) (by simp) (by simp) fun _ => askStop_closes r m

theorem quiet_askCheck (req : CheckReq) : Quiet env m (askCheck env req m) :=
  .of_blocks (by simp) (by simp) (by simp) fun h => by simpa [Closed] using h

theorem makeFrame_grant (f : DriveFrame) (m : Motion) : (makeFrame f m).dp.grant = m.dp.grant := by
  rw [makeFrame_frame]

theorem quiet_makeFrame (f : DriveFrame) : Quiet env m (makeFrame f m) :=
  .of_blocks (by simp) (by simp) (by simp) fun h => by rwa [Closed, makeFrame_grant]

theorem quiet_dropTrims : Quiet env m (dropTrims m) := .of_blocks rfl rfl rfl id

theorem quiet_endGrant : Quiet env m (endGrant m) := .of_blocks rfl rfl rfl fun _ => rfl

theorem endGrant_closed : (endGrant m).Closed := rfl

theorem quiet_dockSnap : Quiet env m (dockSnap env m) := by
  unfold dockSnap
  split
  · exact .refl
  · next d hd => exact ⟨⟨rfl, rfl, rfl, rfl, rfl, rfl, rfl, rfl, .inr ⟨d, hd, rfl⟩, .inl rfl⟩, rfl, id⟩

/-! ### Tries and outcomes (R98 to R101) -/

/-- The segment in progress waits for nothing. -/
theorem Goes.of_nothing (h : Carries env m q) (hs : ∀ sr, q.re.seg = some sr → sr.wait = .nothing)
    (hm : m.re.seg.isSome = true) (hc : m.Closed → q.Closed) : Goes env m q :=
  ⟨h, fun c => by
    obtain ⟨sr, e⟩ := Option.isSome_iff_exists.1 (h.seg.trans hm)
    exact ⟨sr, e, .inl ⟨hs sr e, hc c⟩⟩⟩

theorem setTodo_wait {t : Todo} {sr : SegRun} (h : (m.setTodo t).re.seg = some sr) : sr.wait = .nothing := by
  obtain ⟨_, _, rfl⟩ := Option.map_eq_some_iff.1 h
  rfl

theorem goes_setTodo (t : Todo) (h : m.re.seg.isSome = true) : Goes env m (m.setTodo t) :=
  .of_nothing ⟨rfl, rfl, rfl, rfl, rfl, rfl, by simp [Motion.setTodo], rfl, .inl rfl, .inr h⟩
    (fun _ => setTodo_wait) h id

theorem goes_beginRetry (sr : SegRun) (h : m.re.seg.isSome = true) : Goes env m (beginRetry sr m) := by
  unfold beginRetry
  dsimp only
  split <;>
    exact .of_nothing ⟨rfl, rfl, rfl, rfl, rfl, rfl, h.symm, rfl, .inl rfl, .inr h⟩ (fun r e => by cases e; rfl) h id

theorem goes_takeEffect (o : SegOutcome) (cell : Option CellIx) (h : m.re.seg.isSome = true) :
    Goes env m (takeEffect o cell m) := by
  have hq : (releaseGuard m).re.seg.isSome = true := by simpa using h
  unfold takeEffect
  split
  · next e => simp [e] at h
  · dsimp only
    split
    · split
      · exact quiet_releaseGuard.goes (goes_setTodo _ hq)
      · exact quiet_releaseGuard.goes (goes_beginRetry _ hq)
    · exact quiet_releaseGuard.goes (goes_setTodo _ hq)

theorem takeEffect_dp (o : SegOutcome) (cell : Option CellIx) : (takeEffect o cell m).dp = m.dp := by
  unfold takeEffect beginRetry
  split
  · rfl
  · dsimp only
    repeat' split
    all_goals simp

theorem goes_endTry (o : SegOutcome) (cell : Option CellIx) (h : m.re.seg.isSome = true) :
    Goes env m (endTry o cell m) := by
  unfold endTry
  split
  · exact (quiet_reachStage 4).goes (goes_setTodo _ h)
  · exact goes_takeEffect o cell h
  · exact goes_setTodo _ h
  · exact goes_setTodo _ h

theorem goes_enterSettle (o : SegOutcome) (cell : Option CellIx) (h : m.re.seg.isSome = true) :
    Goes env m (enterSettle o cell m) :=
  .of_nothing (quiet_updSeg _).toCarries
    (fun r e => by obtain ⟨_, _, rfl⟩ := Option.map_eq_some_iff.1 e; rfl) h id

/-! ### Checks and grants (R89) -/

theorem askInPhase_seg (ph : Phase) (req : CheckReq) :
    (askInPhase env ph req m).re.seg = m.re.seg.map fun sr => { sr with phase := ph, wait := .check } := by
  simp [askInPhase, Motion.updSeg]

theorem goes_askInPhase {ph : Phase} (req : CheckReq) (hp : ph.standing = false) (h : m.re.seg.isSome = true) :
    Goes env m (askInPhase env ph req m) := by
  have quiet : Quiet env m (askInPhase env ph req m) := (quiet_updSeg _).trans (quiet_askCheck req)
  obtain ⟨sr, hsr⟩ := Option.isSome_iff_exists.1 h
  exact ⟨quiet.toCarries, fun c =>
    ⟨_, by rw [askInPhase_seg, hsr]; rfl, .inr (.inl ⟨rfl, quiet.closed c, hp, quiet.todo⟩)⟩⟩

theorem goes_askLine {ph : Phase} (sr : SegRun) (hp : ph.standing = false) (h : m.re.seg.isSome = true) :
    Goes env m (askLine env ph sr m) := goes_askInPhase _ hp h

theorem goes_askRotate {ph : Phase} (sr : SegRun) (hp : ph.standing = false) (h : m.re.seg.isSome = true) :
    Goes env m (askRotate env ph sr m) := goes_askInPhase _ hp h

theorem goes_askReverse (sr : SegRun) (h : m.re.seg.isSome = true) : Goes env m (askReverse env sr m) :=
  goes_askInPhase _ rfl h

/-- A grant may be issued in a phase. -/
def Grants (m : Motion) : Prop := ∀ sr, m.re.seg = some sr → sr.phase.standing = false ∧ sr.phase ≠ .vet

theorem Grants.updSeg {f : SegRun → SegRun} (hf : ∀ sr, (f sr).phase = sr.phase) (h : m.Grants) :
    (m.updSeg f).Grants := by
  intro sr e
  obtain ⟨r, hr, rfl⟩ := Option.map_eq_some_iff.1 e
  rw [hf r]
  exact h r hr

theorem sendGrant_re (g : ReadyGrant) (m : Motion) : (sendGrant g m).re = { m.re with amountDone := 0 } :=
  (sendGrant_grant g m).2

theorem carries_sendGrant (g : ReadyGrant) : Carries env m (sendGrant g m) := by
  refine ⟨?_, ?_, ?_, ?_, ?_, ?_, ?_, by simp, .inl (by simp), .inl ?_⟩ <;> rw [sendGrant_re]

theorem goes_issueGrant (g : ReadyGrant) (hg : m.Grants) (h : m.re.seg.isSome = true) :
    Goes env m (issueGrant g m) := by
  obtain ⟨sr, hsr⟩ := Option.isSome_iff_exists.1 h
  obtain ⟨stands, vet⟩ := hg sr hsr
  unfold issueGrant
  split
  · exact goes_setTodo _ h
  · split
    · have sent : (sendGrant g m).re.seg = some sr := by rw [sendGrant_re]; exact hsr
      refine ⟨(carries_sendGrant g).trans (quiet_updSeg _).toCarries, fun _ => ⟨_, updSeg_seg sent, ?_⟩⟩
      refine .inr (.inr (.inr ⟨rfl, ?_, stands, vet, ?_⟩))
      · rw [Motion.updSeg_dp, (sendGrant_grant g m).1]
        rfl
      · simp [Motion.updSeg, sendGrant_re]
    · exact ⟨(quiet_updSeg _).toCarries, fun c =>
        ⟨_, updSeg_seg hsr, .inr (.inr (.inl ⟨rfl, c, stands, vet, rfl⟩))⟩⟩

/-- A change of the Dock Unit that leaves the Dock Pose, and then an operation that decides. -/
theorem Goes.after_du {du : DockUnit} (k : Goes env { m with du := du } q) (h : du.pose = m.du.pose := by rfl) :
    Goes env m q := (quiet_du du h).goes k

/-! ### The pieces of each kind of segment (R91 to R97, R102, R157 to R162) -/

section pieces
variable (sr : SegRun) (h : m.re.seg.isSome = true)
include h

theorem goes_finishDocked : Goes env m (finishDocked env m) := by
  have snap : (dockSnap env m).re.seg.isSome = true := quiet_dockSnap.isSome h
  unfold finishDocked
  dsimp only
  split
  · exact quiet_dockSnap.goes (goes_setTodo _ snap)
  · refine (quiet_dockSnap.trans (.trans (quiet_du _ rfl) ?_)).goes (goes_setTodo _ snap)
    exact .of_blocks rfl rfl rfl id

theorem goes_enterDocked : Goes env m (enterDocked env m) := by
  have quiet : Quiet env m (setDockPhase .docked (askStop .cancel (withdrawCheck (m.reachStage 4)))) :=
    (quiet_reachStage 4).trans (quiet_withdrawCheck.trans ((quiet_askStop _).trans (quiet_setDockPhase _)))
  have upd {f} := quiet.trans (quiet_updSeg (env := env) f)
  unfold enterDocked
  dsimp only
  split
  · exact upd.goes (goes_finishDocked (upd.isSome h))
  · refine .of_nothing upd.toCarries (fun r e => ?_) h upd.closed
    obtain ⟨_, _, rfl⟩ := Option.map_eq_some_iff.1 e
    rfl

theorem goes_beginClose : Goes env m (beginClose env sr m) :=
  .after_du (goes_askInPhase _ rfl h)

theorem goes_beginMate : Goes env m (beginMate env sr m) :=
  (quiet_setDockPhase _).goes (goes_askInPhase _ rfl h)

theorem goes_judgeSeek : Goes env m (judgeSeek env sr m) := by
  unfold judgeSeek
  dsimp only
  split
  · exact (quiet_setDockPhase _).goes (goes_beginClose sr h)
  · split
    · exact (quiet_setDockPhase _).goes (goes_askRotate sr rfl h)
    · exact (quiet_setDockPhase _).goes (goes_endTry _ _ h)

theorem goes_seekResult (res : CheckResult) (hg : m.Grants) : Goes env m (seekResult env res m) := by
  unfold seekResult
  split
  · exact goes_endTry _ _ h
  · exact .after_du (goes_issueGrant _ hg h)

theorem goes_issueCreep (full : Nat) (res : CheckResult) (hg : m.Grants) :
    Goes env m (issueCreep env full res m) := by
  unfold issueCreep
  dsimp only
  split
  · exact goes_endTry _ _ h
  · exact (quiet_updSeg _).goes (goes_issueGrant _ (hg.updSeg fun _ => rfl) ((quiet_updSeg (env := env) _).isSome h))

theorem goes_closeDone : Goes env m (closeDone env sr m) := by
  unfold closeDone
  dsimp only
  split
  · exact .after_du (goes_beginMate sr h)
  · split
    · exact .after_du (goes_beginClose sr h)
    · split
      · exact .after_du (goes_beginClose sr h)
      · split
        · exact .after_du (goes_judgeSeek sr h)
        · exact .after_du (goes_endTry _ _ h)

theorem goes_mateDone : Goes env m (mateDone env sr m) := by
  unfold mateDone
  split
  · exact goes_enterDocked h
  · split <;> exact goes_endTry _ _ h

theorem goes_beginDock : Goes env m (beginDock env sr m) := by
  unfold beginDock
  dsimp only
  split
  · exact .after_du (goes_enterDocked h)
  · exact .after_du ((quiet_setDockPhase _).goes (goes_askLine sr rfl h))

theorem goes_beginRotate {ph : Phase} (wanted : Nat) (hp : ph.standing = false) :
    Goes env m (beginRotate env ph wanted sr m) :=
  (quiet_updSeg _).goes (goes_askRotate sr hp ((quiet_updSeg (env := env) _).isSome h))

theorem goes_turnReached : Goes env m (turnReached env sr m) := by
  unfold turnReached
  split
  · exact goes_judgeSeek sr h
  · exact goes_endTry _ _ h

theorem goes_beginTurn {ph : Phase} (wanted : Nat) (hp : ph.standing = false) :
    Goes env m (beginTurn env ph wanted sr m) := by
  unfold beginTurn
  split
  · exact goes_turnReached sr h
  · exact goes_beginRotate sr h wanted hp

theorem goes_travelReached : Goes env m (travelReached env sr m) := by
  unfold travelReached
  split
  · exact goes_beginTurn sr h _ rfl
  · exact goes_judgeSeek sr h
  · exact goes_beginTurn sr h _ rfl
  · exact goes_endTry _ _ h

theorem goes_issueTravel (a : Int) (full : Bool) (res : CheckResult) :
    Goes env m (issueTravel a full res m) := by
  refine (quiet_updSeg _).goes (goes_issueGrant _ (fun r e => ?_) ((quiet_updSeg (env := env) _).isSome h))
  obtain ⟨_, _, rfl⟩ := Option.map_eq_some_iff.1 e
  exact ⟨rfl, nofun⟩

theorem goes_judgeTravel (res : CheckResult) : Goes env m (judgeTravel env sr res m) := by
  unfold judgeTravel
  dsimp only
  split
  · split
    · exact goes_endTry _ _ h
    · exact goes_issueTravel h _ _ _
  · split
    · exact goes_travelReached sr h
    · split
      · exact goes_endTry _ _ h
      · split
        · split
          · exact goes_endTry _ _ h
          · exact goes_issueTravel h _ _ _
        · exact goes_issueTravel h _ _ _

theorem goes_travelLoop (vet : Option CheckResult) : Goes env m (travelLoop env vet sr m) := by
  unfold travelLoop
  split
  · exact goes_travelReached sr h
  · split
    · exact goes_beginRotate sr h _ rfl
    · split
      · exact goes_judgeTravel sr h _
      · exact goes_askLine sr rfl h

theorem goes_vetResult (res : CheckResult) : Goes env m (vetResult env sr res m) := by
  unfold vetResult
  split
  · exact goes_endTry _ _ h
  · exact goes_travelLoop sr h _

theorem goes_rotateResult (res : CheckResult) (hg : m.Grants) : Goes env m (rotateResult sr res m) := by
  unfold rotateResult
  split
  · exact goes_endTry _ _ h
  · exact goes_issueGrant _ hg h

theorem goes_rotateDone (hp : sr.phase.standing = false) : Goes env m (rotateDone env sr m) := by
  unfold rotateDone
  dsimp only
  split
  · split
    · exact goes_travelLoop sr h _
    · exact goes_turnReached sr h
  · split
    · exact goes_endTry _ _ h
    · exact (quiet_updSeg _).goes (goes_askRotate sr hp ((quiet_updSeg (env := env) _).isSome h))

theorem goes_reverseResult (res : CheckResult) (hg : m.Grants) : Goes env m (reverseResult env sr res m) := by
  unfold reverseResult
  dsimp only
  split
  · exact goes_endTry _ _ h
  · exact (quiet_updSeg _).goes (goes_issueGrant _ (hg.updSeg fun _ => rfl) ((quiet_updSeg (env := env) _).isSome h))

theorem goes_reverseDone : Goes env m (reverseDone env sr m) := by
  unfold reverseDone
  dsimp only
  split
  · exact goes_endTry _ _ h
  · split
    · exact goes_endTry _ _ h
    · exact (quiet_updSeg _).goes (goes_askReverse _ ((quiet_updSeg (env := env) _).isSome h))

/-- The backoff ends: with no outcome the segment stands as it is. -/
theorem goes_endBackoff (hw : ∀ r, m.re.seg = some r → r.wait = .nothing) : Goes env m (endBackoff sr m) := by
  unfold endBackoff
  split
  · exact goes_takeEffect _ _ h
  · exact .of_nothing Quiet.refl.toCarries hw h id

theorem goes_beginBackoff : Goes env m (beginBackoff env sr m) :=
  (quiet_setDockPhase _).goes (goes_askInPhase _ rfl h)

theorem goes_backoffResult (res : CheckResult) (hg : m.Grants)
    (hw : ∀ r, m.re.seg = some r → r.wait = .nothing) : Goes env m (backoffResult env sr res m) := by
  unfold backoffResult
  split
  · exact goes_endBackoff sr h hw
  · exact goes_issueGrant _ hg h

theorem goes_endSettle (hw : ∀ r, m.re.seg = some r → r.wait = .nothing) : Goes env m (endSettle env sr m) := by
  unfold endSettle
  split
  · exact .of_nothing Quiet.refl.toCarries hw h id
  · split
    · exact goes_setTodo _ h
    · split
      · exact goes_endBackoff sr h hw
      · split
        · exact goes_beginBackoff sr h
        · exact goes_takeEffect _ _ h

end pieces

end Motion
end Sys2Proof.Machine
end

section
namespace Sys2Proof.Machine
open Sys2Proof

/-! ## What the events of the other blocks do to the segment in progress (R57, R90, R98, R103, R104, R143) -/

namespace Motion
variable {env : Env} {m p q : Motion}

/-- The segment in progress waits for something. -/
def WaitsFor (w : Wait) (m : Motion) : Prop := ∃ sr, m.re.seg = some sr ∧ sr.wait = w

theorem WaitsFor.isSome {w : Wait} (h : m.WaitsFor w) : m.re.seg.isSome = true := by
  obtain ⟨sr, hsr, -⟩ := h
  simp [hsr]

/-- The segment in progress whose wait is over. -/
theorem updSeg_wait_over {r : SegRun} (h : (m.updSeg fun r => { r with wait := .nothing }).re.seg = some r) :
    r.wait = .nothing := by
  obtain ⟨_, _, rfl⟩ := Option.map_eq_some_iff.1 h
  rfl

theorem grants_of_phase {sr : SegRun} (hsr : m.re.seg = some sr) (h1 : sr.phase.standing = false)
    (h2 : sr.phase ≠ .vet) : m.Grants := fun r e => by
  rw [hsr] at e
  cases e
  exact ⟨h1, h2⟩

/-- A check's result moves on a segment that waits for it, and no other part (R57). -/
theorem checkHanded_cases (env : Env) (res : CheckResult) (m : Motion) :
    checkHanded env res m = m ∨ (m.WaitsFor .check ∧ Goes env m (checkHanded env res m)) := by
  unfold checkHanded
  split
  · exact .inl rfl
  · next sr hsr =>
    split
    · exact .inl rfl
    · next hw =>
      refine .inr ⟨⟨sr, hsr, not_not.1 hw⟩, ?_⟩
      dsimp only
      have upd : ((m.reachStage 1).updSeg fun r => { r with wait := .nothing }).re.seg =
          some { sr with wait := .nothing } := updSeg_seg hsr
      generalize hq : (m.reachStage 1).updSeg (fun r => { r with wait := .nothing }) = q at upd ⊢
      have quiet : Quiet env m q := hq ▸ (quiet_reachStage 1).trans (quiet_updSeg _)
      generalize hp : ({ q with re := { q.re with progress := { q.re.progress with
        unknownSeen := q.re.progress.unknownSeen || res.unknownSeen } } } : Motion) = p
      have seen : Quiet env q p := hp ▸ quiet_progress _
      refine (quiet.trans seen).goes ?_
      have rests : ∀ r, p.re.seg = some r → r.wait = .nothing := fun r e => by
        rw [← hp] at e
        cases upd.symm.trans e
        rfl
      have run : p.re.seg = some { sr with wait := .nothing } := by rw [← hp]; exact upd
      have isSeg : p.re.seg.isSome = true := by rw [run]; rfl
      split
      · exact goes_vetResult sr isSeg res
      · next ph => exact goes_rotateResult sr isSeg res (grants_of_phase run (by rw [ph]; rfl) (by rw [ph]; nofun))
      · exact goes_judgeTravel sr isSeg res
      · next ph => exact goes_rotateResult sr isSeg res (grants_of_phase run (by rw [ph]; rfl) (by rw [ph]; nofun))
      · next ph => exact goes_rotateResult sr isSeg res (grants_of_phase run (by rw [ph]; rfl) (by rw [ph]; nofun))
      · next ph => exact goes_reverseResult sr isSeg res (grants_of_phase run (by rw [ph]; rfl) (by rw [ph]; nofun))
      · next ph => exact goes_seekResult isSeg res (grants_of_phase run (by rw [ph]; rfl) (by rw [ph]; nofun))
      · next ph => exact goes_issueCreep isSeg _ res (grants_of_phase run (by rw [ph]; rfl) (by rw [ph]; nofun))
      · next ph => exact goes_issueCreep isSeg _ res (grants_of_phase run (by rw [ph]; rfl) (by rw [ph]; nofun))
      · next ph =>
        exact goes_backoffResult sr isSeg res (grants_of_phase run (by rw [ph]; rfl) (by rw [ph]; nofun)) rests
      · exact .of_nothing Quiet.refl.toCarries rests isSeg id
      · exact .of_nothing Quiet.refl.toCarries rests isSeg id
      · exact .of_nothing Quiet.refl.toCarries rests isSeg id

/-- A Done moves on a segment that waits for its grant, and no other part (R90). -/
theorem pieceDone_cases (env : Env) (m : Motion) :
    (¬m.WaitsFor .grant ∧ pieceDone env m = m) ∨ (m.WaitsFor .grant ∧ Goes env m (pieceDone env m)) := by
  unfold pieceDone
  split
  · next hs => exact .inl ⟨fun ⟨_, e, _⟩ => by simp [hs] at e, rfl⟩
  · next sr hsr =>
    split
    · next hw => exact .inl ⟨fun ⟨_, e, w⟩ => by cases hsr.symm.trans e; exact hw w, rfl⟩
    · next hw =>
      refine .inr ⟨⟨sr, hsr, not_not.1 hw⟩, ?_⟩
      dsimp only
      have rests {r} := updSeg_wait_over (m := m) (r := r)
      have run : (m.updSeg fun r => { r with wait := .nothing }).re.seg.isSome = true := by
        rw [updSeg_seg hsr]
        rfl
      have quiet : Quiet env m (m.updSeg fun r => { r with wait := .nothing }) := quiet_updSeg _
      split
      · next ph => exact quiet.goes (goes_rotateDone sr run (by rw [ph]; rfl))
      · next ph => exact quiet.goes (goes_rotateDone sr run (by rw [ph]; rfl))
      · next ph => exact quiet.goes (goes_rotateDone sr run (by rw [ph]; rfl))
      · exact (quiet.trans (quiet_updSeg _)).goes (goes_travelLoop _ ((quiet_updSeg (env := env) _).isSome run) _)
      · exact quiet.goes (goes_reverseDone sr run)
      · exact quiet.goes (goes_judgeSeek sr run)
      · exact quiet.goes (goes_closeDone sr run)
      · exact quiet.goes (goes_mateDone sr run)
      · exact quiet.goes (goes_endBackoff sr run fun _ => rests)
      · exact .of_nothing quiet.toCarries (fun _ => rests) (by simp [hsr]) quiet.closed
      · exact .of_nothing quiet.toCarries (fun _ => rests) (by simp [hsr]) quiet.closed
      · exact .of_nothing quiet.toCarries (fun _ => rests) (by simp [hsr]) quiet.closed
      · exact .of_nothing quiet.toCarries (fun _ => rests) (by simp [hsr]) quiet.closed

/-- A Stop puts a segment that waits for its grant into SETTLE, and no other part (R90). -/
theorem pieceStopped_cases (o : SegOutcome) (cell : Option CellIx) (m : Motion) :
    (¬m.WaitsFor .grant ∧ pieceStopped o cell m = m) ∨ (m.WaitsFor .grant ∧ Goes env m (pieceStopped o cell m)) := by
  unfold pieceStopped
  split
  · next hs => exact .inl ⟨fun ⟨_, e, _⟩ => by simp [hs] at e, rfl⟩
  · next sr hsr =>
    split
    · next hw => exact .inl ⟨fun ⟨_, e, w⟩ => by cases hsr.symm.trans e; exact hw w, rfl⟩
    · next hw =>
      refine .inr ⟨⟨sr, hsr, not_not.1 hw⟩, ?_⟩
      split
      · exact .of_nothing (quiet_updSeg _).toCarries
          (fun r e => by obtain ⟨_, _, rfl⟩ := Option.map_eq_some_iff.1 e; rfl) (by simp [hsr]) id
      · exact goes_enterSettle o cell (by simp [hsr])

theorem pieceStopped_dp (o : SegOutcome) (cell : Option CellIx) (m : Motion) :
    (pieceStopped o cell m).dp = m.dp := by
  unfold pieceStopped
  split
  · rfl
  · split
    · rfl
    · split <;> rfl

/-- The record's reaching NONE moves on a segment in SETTLE or DOCKED, and no other part (R90, R162). -/
theorem grantSettled_cases (env : Env) (m : Motion) :
    grantSettled env m = m ∨
    ∃ sr, m.re.seg = some sr ∧ sr.phase.standing = true ∧
      (grantSettled env m = endSettle env sr m ∨ grantSettled env m = finishDocked env m) := by
  unfold grantSettled
  split
  · exact .inl rfl
  · next sr hsr =>
    split
    · next ph => exact .inr ⟨sr, hsr, by rw [ph]; rfl, .inl rfl⟩
    · next ph => exact .inr ⟨sr, hsr, by rw [ph]; rfl, .inr rfl⟩
    · exact .inl rfl

theorem carries_grantSettled : Carries env m (grantSettled env m) := by
  obtain h | ⟨sr, hsr, -, h | h⟩ := grantSettled_cases env m
  · rw [h]
    exact Quiet.refl.toCarries
  · rw [h, endSettle]
    have isSeg : m.re.seg.isSome = true := by simp [hsr]
    split
    · exact Quiet.refl.toCarries
    · split
      · exact (goes_setTodo _ isSeg).toCarries
      · split
        · unfold endBackoff
          split
          · exact (goes_takeEffect _ _ isSeg).toCarries
          · exact Quiet.refl.toCarries
        · split
          · exact (goes_beginBackoff sr isSeg).toCarries
          · exact (goes_takeEffect _ _ isSeg).toCarries
  · rw [h]
    exact (goes_finishDocked (by simp [hsr])).toCarries

theorem goes_faultTry (o : SegOutcome) (h : m.re.seg.isSome = true) : Goes env m (faultTry o m) := by
  unfold faultTry
  split
  · next e => simp [e] at h
  · dsimp only
    split
    · exact quiet_withdrawCheck.goes (goes_setTodo _ h)
    · exact quiet_withdrawCheck.goes (goes_enterSettle _ _ h)

theorem faultTry_dp (o : SegOutcome) (m : Motion) : (faultTry o m).dp = m.dp := by
  unfold faultTry
  split
  · rfl
  · dsimp only
    split <;> rfl

/-- A Lost indication leaves a part with no segment, or one whose fault is pending, as it is (R103). -/
theorem lostIndication_cases (m : Motion) :
    lostIndication m = m ∨ (m.re.seg.isSome = true ∧ lostIndication m = faultTry .lost (askStop .lost m)) := by
  unfold lostIndication
  split
  · exact .inl rfl
  · next sr hsr =>
    split
    · exact .inl rfl
    · exact .inr ⟨by simp [hsr], rfl⟩

/-- A segment that waits for nothing, or moves on. -/
theorem releaseHeld_cases (m : Motion) :
    releaseHeld m = m ∨
    ∃ sr g, m.re.seg = some sr ∧ sr.wait = .held ∧ m.dp.grant.state = .none ∧ releaseHeld m = issueGrant g m := by
  unfold releaseHeld
  split
  · next sr hsr =>
    split
    · next g hw hg =>
      split
      · next hs => exact .inr ⟨sr, g, hsr, hw, hs, rfl⟩
      · exact .inl rfl
    · exact .inl rfl
  · exact .inl rfl

/-- The guard-trip mark is set (R88). -/
def tripNoted (m : Motion) : Motion :=
  { m with re := { m.re with progress := { m.re.progress with guardTrip := true } } }

theorem quiet_tripNoted : Quiet env m m.tripNoted := quiet_progress _

/-- A trip leaves a part with no segment in progress as it is; otherwise the guard-trip mark is set, and the
segment's phase says what follows (R143). -/
theorem tripReported_cases (o : SegOutcome) (m : Motion) :
    (m.re.seg = none ∧ tripReported o m = m) ∨
    ∃ sr, m.re.seg = some sr ∧
      (sr.phase.standing = true ∧ tripReported o m = m.tripNoted ∨
       sr.phase = .settle ∧ tripReported o m =
         m.tripNoted.updSeg (fun r => { r with outcome := some o, cell := none, inBackoff := false }) ∨
       sr.phase = .backoff ∧ tripReported o m = faultTry .guardInBackoff (askStop .hazard m.tripNoted) ∨
       sr.wait = .grant ∧ tripReported o m = enterSettle o none (askStop .hazard m.tripNoted) ∨
       sr.wait ≠ .grant ∧ tripReported o m = releaseGuard m.tripNoted) := by
  unfold tripReported
  split
  · next hs => exact .inl ⟨hs, rfl⟩
  · next sr hsr =>
    refine .inr ⟨sr, hsr, ?_⟩
    dsimp only
    split
    · next ph => exact .inl ⟨by rw [ph]; rfl, rfl⟩
    · next ph =>
      split
      · exact .inl ⟨by rw [ph]; rfl, rfl⟩
      · exact .inr (.inl ⟨ph, rfl⟩)
    · next ph => exact .inr (.inr (.inl ⟨ph, rfl⟩))
    · split
      · next hw => exact .inr (.inr (.inr (.inl ⟨hw, rfl⟩)))
      · next hw => exact .inr (.inr (.inr (.inr ⟨hw, rfl⟩)))

/-! ## Lists, passes and halts: operations that leave no segment in progress (R105 to R111) -/

/-- What an operation on the lists keeps: the pool, the grant, the pose, and, given `P`, both lists in form. -/
structure Lists (P : Prop) (m q : Motion) : Prop where
  pool  : q.re.pool = m.re.pool
  dp    : q.dp = m.dp
  pu    : q.pu = m.pu
  du    : q.du.pose = m.du.pose
  lists : P → ∀ id, m.re.ListOk id → q.re.ListOk id

/-- No segment is in progress after it, and, given `R`, a move to make only on a running engine. -/
structure Ends (P R : Prop) (m q : Motion) : Prop extends Lists P m q where
  seg   : q.re.seg = none
  moves : R → q.re.todo ≠ .none → q.re.state = .running ∨ q.re.state = .draining

variable {P R : Prop}

theorem Lists.refl : Lists P m m := ⟨rfl, rfl, rfl, rfl, fun _ _ => id⟩

theorem Lists.trans (h : Lists P m p) (k : Lists P p q) : Lists P m q :=
  ⟨k.pool.trans h.pool, k.dp.trans h.dp, k.pu.trans h.pu, k.du.trans h.du,
    fun hp id l => k.lists hp id (h.lists hp id l)⟩

theorem Lists.ends (h : Lists P m p) (k : Ends P R p q) : Ends P R m q := ⟨h.trans k.toLists, k.seg, k.moves⟩

/-- The lists in form depend on the pool and the lists alone. -/
theorem ListOk.congr {re re' : RouteEngine} {id : ListId} (h : re.ListOk id) (hp : re'.pool = re.pool)
    (hl : re'.list id = re.list id) : re'.ListOk id := by
  obtain ⟨pos, len, named⟩ := h
  exact ⟨hl ▸ pos, hl ▸ len, fun e he => by rw [RouteEngine.slotAt, hp]; exact named e (hl ▸ he)⟩

/-- A change that leaves the pool, the lists, the grant and the pose. -/
theorem Lists.of_same (hp : q.re.pool = m.re.pool) (hm : q.re.main = m.re.main)
    (hl : q.re.priority = m.re.priority) (dp : q.dp = m.dp) (pu : q.pu = m.pu) (du : q.du.pose = m.du.pose) :
    Lists P m q :=
  ⟨hp, dp, pu, du, fun _ id h => ListOk.congr h hp (by cases id; exacts [hm, hl])⟩

theorem ends_becomeIdle : Ends P R m (becomeIdle m) := ⟨.of_same rfl rfl rfl rfl rfl rfl, rfl, fun _ h => absurd rfl h⟩

theorem ends_haltEngine (o : SegOutcome) : Ends P R m (haltEngine o m) :=
  ⟨.of_same rfl rfl rfl rfl rfl rfl, rfl, fun _ h => absurd rfl h⟩

theorem ends_runList (id : ListId) : Ends P R m (runList id m) :=
  ⟨.of_same rfl rfl rfl rfl rfl rfl, rfl, fun _ _ => .inl rfl⟩

theorem lists_raise (c : Cause) : Lists P m (m.raise c) := .of_same rfl rfl rfl rfl rfl rfl

/-- A list with a shorter or equal position, the same number of entries, each naming a slot named before. -/
theorem ListOk.of_list {re re' : RouteEngine} {id : ListId} (h : re.ListOk id) (hp : re'.pool = re.pool)
    (pos : (re'.list id).position ≤ (re.list id).entries.length)
    (len : (re'.list id).entries.length = (re.list id).entries.length)
    (named : ∀ e ∈ (re'.list id).entries, ∃ e' ∈ (re.list id).entries, e'.slot = e.slot) : re'.ListOk id := by
  refine ⟨len ▸ pos, len ▸ h.length, fun e he => ?_⟩
  obtain ⟨e', he', hs⟩ := named e he
  rw [RouteEngine.slotAt, hp, ← hs]
  exact h.named e' he'

/-- A change of one list's position and of items that are no part of its form. -/
theorem Lists.of_position {l : RunList} {id : ListId} (hp : q.re.pool = m.re.pool)
    (hl : q.re.list id = l) (ho : ∀ k, k ≠ id → q.re.list k = m.re.list k)
    (entries : l.entries = (m.re.list id).entries) (pos : P → l.position ≤ l.entries.length ∨ l.position = (m.re.list id).position)
    (dp : q.dp = m.dp) (pu : q.pu = m.pu) (du : q.du.pose = m.du.pose) : Lists P m q := by
  refine ⟨hp, dp, pu, du, fun hP k h => ?_⟩
  by_cases hk : k = id
  · subst hk
    refine ListOk.of_list h hp ?_ (by rw [hl, entries]) fun e he => ⟨e, by rwa [hl, entries] at he, rfl⟩
    rw [hl]
    obtain hpos | hpos := pos hP
    · rwa [entries] at hpos
    · rw [hpos]
      exact h.position
  · exact ListOk.congr h hp (ho k hk)

theorem lists_countPass : Lists P m (countPass m) := by
  unfold countPass
  dsimp only
  split
  · exact .of_position (id := .main) rfl rfl (by rintro (_ | _) h <;> trivial) rfl (fun _ => .inl (Nat.zero_le _))
      rfl rfl rfl
  · exact .of_position (id := .main) rfl rfl (by rintro (_ | _) h <;> trivial) rfl (fun _ => .inr rfl) rfl rfl rfl

theorem ends_startTimer (st : TimerState) (hs : m.re.seg = none) (ht : m.re.todo = .none) :
    Ends P R m (startTimer st m) := by
  unfold startTimer
  split
  · exact ⟨.refl, hs, fun _ h => absurd ht h⟩
  · exact ⟨.of_same rfl rfl rfl rfl rfl rfl, hs, fun _ h => absurd ht h⟩

/-- The wait between two passes (R106). -/
theorem lists_passWait :
    Lists P m { m with re := { m.re with sub := .passWait, seg := none, todo := .none } } :=
  .of_same rfl rfl rfl rfl rfl rfl

theorem ends_mainEnd : Ends P R m (mainEnd m) := by
  unfold mainEnd
  dsimp only
  split
  · split
    · exact (lists_countPass.trans (lists_raise _)).ends ends_becomeIdle
    · exact lists_countPass.ends ends_becomeIdle
  · split
    · exact lists_countPass.ends ends_becomeIdle
    · split
      · exact lists_countPass.ends (ends_runList _)
      · exact (lists_countPass.trans lists_passWait).ends (ends_startTimer _ rfl rfl)

theorem ends_resumeMain (sub : SubState) : Ends P R m (resumeMain sub m) := by
  unfold resumeMain
  dsimp only
  split
  · exact ⟨.of_same rfl rfl rfl rfl rfl rfl, rfl, fun _ _ => .inl rfl⟩
  · split
    · exact ⟨.of_same rfl rfl rfl rfl rfl rfl, rfl, fun _ _ => .inl rfl⟩
    · exact ⟨.of_same rfl rfl rfl rfl rfl rfl, rfl, fun _ _ => .inl rfl⟩

theorem ends_priorityEnd (docked : Bool) : Ends P R m (priorityEnd docked m) := by
  unfold priorityEnd
  dsimp only
  split
  · exact (lists_raise _).ends ends_becomeIdle
  · split
    · exact (lists_raise _).ends (ends_resumeMain _)
    · exact (lists_raise _).ends ends_becomeIdle

theorem ends_listEnd (id : ListId) (docked : Bool) : Ends P R m (listEnd id docked m) := by
  cases id with
  | main => exact ends_mainEnd
  | priority => exact ends_priorityEnd docked

theorem ends_switchList (kept : Bool) (sub : SubState) : Ends P R m (switchList kept sub m) :=
  ⟨.of_same rfl rfl rfl rfl rfl rfl, rfl, fun _ _ => .inl rfl⟩

theorem lists_finishPass : Lists P m (finishPass m) := by
  unfold finishPass
  dsimp only
  split
  · exact lists_countPass.trans (lists_raise _)
  · exact lists_countPass

theorem ends_endRun (id : ListId) : Ends P R m (endRun id m) := by
  unfold endRun
  dsimp only
  split <;> split
  · exact lists_finishPass.ends ends_becomeIdle
  · exact ends_becomeIdle
  · exact (lists_raise _).ends ends_becomeIdle
  · exact ends_becomeIdle

/-- The engine goes on from a recording on an engine that runs (R105). -/
theorem ends_goOn (id : ListId) (o : SegOutcome) (docked halt : Bool) (hs : m.re.seg = none)
    (hr : R → m.re.state = .running ∨ m.re.state = .draining) : Ends P R m (goOn id o docked halt m) := by
  unfold goOn
  dsimp only
  split
  · exact ends_haltEngine _
  · split
    · exact ends_haltEngine _
    · split
      · exact ends_becomeIdle
      · split
        · split
          · split
            · exact lists_countPass.ends (ends_switchList _ _)
            · exact ends_switchList _ _
          · exact ends_endRun id
        · split
          · exact ends_switchList _ _
          · split
            · exact ends_endRun id
            · split
              · exact ends_listEnd id docked
              · exact ⟨.of_same rfl rfl rfl rfl rfl rfl, by simp [Motion.setTodo, hs], fun h _ => hr h⟩

/-! ### The descriptors (R78 to R81) -/

/-- A change of descriptors leaves what the form of a list is about. -/
theorem updDesc_form (l : RunList) (i : Nat) (f : Descriptor → Descriptor) :
    (l.updDesc i f).entries.length = l.entries.length ∧ (l.updDesc i f).position = l.position ∧
    ∀ e ∈ (l.updDesc i f).entries, ∃ e' ∈ l.entries, e'.slot = e.slot := by
  refine ⟨List.length_modify .., rfl, fun e he => ?_⟩
  obtain ⟨k, hk, rfl⟩ := List.getElem_of_mem he
  simp only [RunList.updDesc, List.length_modify] at hk
  refine ⟨l.entries[k], List.getElem_mem hk, ?_⟩
  simp only [RunList.updDesc, List.getElem_modify]
  split <;> rfl

@[simp] theorem list_setList_same (re : RouteEngine) (id : ListId) (l : RunList) :
    (re.setList id l).list id = l := by cases id <;> rfl

theorem list_setList_other (re : RouteEngine) {id k : ListId} (l : RunList) (h : k ≠ id) :
    (re.setList id l).list k = re.list k := by cases id <;> cases k <;> trivial

@[simp] theorem setList_pool (re : RouteEngine) (id : ListId) (l : RunList) :
    (re.setList id l).pool = re.pool := by cases id <;> rfl
@[simp] theorem setList_state (re : RouteEngine) (id : ListId) (l : RunList) :
    (re.setList id l).state = re.state := by cases id <;> rfl
@[simp] theorem setList_seg (re : RouteEngine) (id : ListId) (l : RunList) :
    (re.setList id l).seg = re.seg := by cases id <;> rfl
@[simp] theorem setList_todo (re : RouteEngine) (id : ListId) (l : RunList) :
    (re.setList id l).todo = re.todo := by cases id <;> rfl
@[simp] theorem setList_active (re : RouteEngine) (id : ListId) (l : RunList) :
    (re.setList id l).active = re.active := by cases id <;> rfl
@[simp] theorem setList_sub (re : RouteEngine) (id : ListId) (l : RunList) :
    (re.setList id l).sub = re.sub := by cases id <;> rfl

end Motion
end Sys2Proof.Machine
end

section
namespace Sys2Proof.Machine
open Sys2Proof

/-! ## The engine's own moves (R79, R80, R87, R99, R105) -/

namespace Motion
variable {env : Env} {m p q : Motion} {P R : Prop}

/-- A segment in progress stands before the end of the list that runs. -/
def InPlace (m : Motion) : Prop :=
  m.re.seg.isSome = true → ∀ id, m.re.active = some id → (m.re.list id).position < (m.re.list id).entries.length

/-- The engine runs a list (R84). -/
def Runs (m : Motion) : Prop := m.re.state = .running ∨ m.re.state = .draining

/-- What RECORD leaves up to SegmentDone (R80): the descriptor alone of the list changes, and no segment is in
progress. -/
theorem writeRecord_leaves (o : SegOutcome) (cell : Option CellIx) {sr : SegRun} {id : ListId}
    (hs : m.re.seg = some sr) (ha : m.re.active = some id) :
    Lists P m (writeRecord o cell m) ∧ (writeRecord o cell m).re.seg = none ∧
    (writeRecord o cell m).re.state = m.re.state ∧
    ((writeRecord o cell m).re.list id).position = (m.re.list id).position ∧
    ((writeRecord o cell m).re.list id).entries.length = (m.re.list id).entries.length := by
  obtain ⟨len, pos, named⟩ := updDesc_form (m.re.list id) (m.re.list id).position (recordedDesc o cell sr m)
  generalize hl : (m.re.list id).updDesc (m.re.list id).position (recordedDesc o cell sr m) = l at len pos named
  have lists (re : RouteEngine) (hp : re.pool = m.re.pool) (hid : re.list id = l)
      (ho : ∀ k, k ≠ id → re.list k = m.re.list k) : ∀ k, m.re.ListOk k → re.ListOk k := fun k h => by
    by_cases hk : k = id
    · subst hk
      exact ListOk.of_list h hp (by rw [hid, pos]; exact h.position) (by rw [hid, len]) (by rw [hid]; exact named)
    · exact ListOk.congr h hp (ho k hk)
  unfold writeRecord
  simp only [hs, ha, hl]
  split <;>
  · refine ⟨⟨setList_pool .., rfl, rfl, rfl, fun _ => lists _ (setList_pool ..) ?_ fun k hk => ?_⟩, rfl,
      setList_state .., ?_, ?_⟩
    · cases id <;> rfl
    · cases id <;> cases k <;> trivial
    · rw [← pos]
      cases id <;> rfl
    · rw [← len]
      cases id <;> rfl

theorem advance_leaves (id : ListId) (o : SegOutcome)
    (hp : P → (m.re.list id).position < (m.re.list id).entries.length) :
    Lists P m (advance id o m) ∧ (advance id o m).re.seg = m.re.seg ∧
    (advance id o m).re.state = m.re.state := by
  unfold advance
  dsimp only
  split
  · refine ⟨.of_position (id := id) (setList_pool ..) (list_setList_same ..)
      (fun k hk => list_setList_other _ _ hk) rfl (fun h => .inl (hp h)) rfl rfl rfl, setList_seg .., setList_state ..⟩
  · exact ⟨.refl, rfl, rfl⟩

/-- RECORD with no list that runs does nothing, and otherwise ends the segment (R105). -/
theorem recordSegment_cases (o : SegOutcome) (cell : Option CellIx) (m : Motion) :
    recordSegment o cell m = m ∨ Ends m.InPlace m.Runs m (recordSegment o cell m) := by
  unfold recordSegment
  split
  · next sr id hs ha =>
    obtain ⟨wrote, seg, state, pos, len⟩ := writeRecord_leaves (P := m.InPlace) o cell hs ha
    obtain ⟨went, seg', state'⟩ := advance_leaves (P := m.InPlace) (m := writeRecord o cell m) id o
      fun h => by rw [pos, len]; exact h (by rw [hs]; rfl) id ha
    exact .inr ((wrote.trans went).ends (ends_goOn id o _ _ (seg'.trans seg) fun h => by rw [state', state]; exact h))
  · exact .inl rfl

/-- FETCH opens a descriptor and puts the segment in progress, waiting for nothing (R79, R87). -/
theorem fetchSegment_leaves (env : Env) {id : ListId} {entry : Entry} (m : Motion) :
    Lists P m (fetchSegment env id entry m) ∧
    (fetchSegment env id entry m).re.state = m.re.state ∧
    (fetchSegment env id entry m).re.active = m.re.active ∧
    (fetchSegment env id entry m).re.sub = .segment ∧
    ((fetchSegment env id entry m).re.list id).position = (m.re.list id).position ∧
    ((fetchSegment env id entry m).re.list id).entries.length = (m.re.list id).entries.length ∧
    ∃ sr, (fetchSegment env id entry m).re.seg = some sr ∧ sr.wait = .nothing := by
  obtain ⟨len, pos, named⟩ := updDesc_form (m.re.list id) (m.re.list id).position fun _ => openedDesc m.eu.time
  generalize hl : (m.re.list id).updDesc (m.re.list id).position (fun _ => openedDesc m.eu.time) = l
    at len pos named
  have lists (re : RouteEngine) (hp : re.pool = m.re.pool) (hid : re.list id = l)
      (ho : ∀ k, k ≠ id → re.list k = m.re.list k) : ∀ k, m.re.ListOk k → re.ListOk k := fun k h => by
    by_cases hk : k = id
    · subst hk
      exact ListOk.of_list h hp (by rw [hid, pos]; exact h.position) (by rw [hid, len]) (by rw [hid]; exact named)
    · exact ListOk.congr h hp (ho k hk)
  unfold fetchSegment
  simp only [hl, releaseGuard_re]
  refine ⟨⟨?_, by simp, by simp, by simp, fun _ => ?_⟩, setList_state .., setList_active .., ?_, ?_, ?_, _, rfl, rfl⟩
  · rw [releaseGuard_re]
    exact setList_pool ..
  · rw [releaseGuard_re]
    exact lists _ (setList_pool ..) (by cases id <;> rfl) fun k hk => by cases id <;> cases k <;> trivial
  · trivial
  · rw [← pos]
    cases id <;> rfl
  · rw [← len]
    cases id <;> rfl

theorem goes_startTry (h : m.re.seg.isSome = true) : Goes env m (startTry env m) := by
  unfold startTry
  split
  · next e => simp [e] at h
  · next sr0 hsr =>
    dsimp only
    generalize hq : ({ m with re := { m.re with seg := some _, progress := _ } } : Motion) = q
    have quiet : Quiet env m q := by
      subst hq
      exact ⟨⟨rfl, rfl, rfl, rfl, rfl, rfl, by rw [hsr]; rfl, rfl, .inl rfl, .inl rfl⟩, rfl, id⟩
    have hs := quiet.isSome h
    split
    · exact quiet.goes (goes_askLine _ rfl hs)
    · exact quiet.goes (goes_beginTurn _ hs _ rfl)
    · exact quiet.goes (goes_askReverse _ hs)
    · exact quiet.goes (goes_beginDock _ hs)

/-- The engine's beginning a segment (R87). -/
theorem beginSegment_cases (env : Env) (m : Motion) :
    beginSegment env m = m ∨ Ends m.InPlace m.Runs m (beginSegment env m) ∨
    ∃ id entry, m.re.active = some id ∧ (m.re.list id).position < (m.re.list id).entries.length ∧
      beginSegment env m = fetchSegment env id entry m := by
  unfold beginSegment
  split
  · exact .inl rfl
  · next id ha =>
    split
    · exact .inr (.inl (ends_switchList _ _))
    · split
      · exact .inr (.inl (ends_listEnd id _))
      · next entry he =>
        split
        · exact .inr (.inl (ends_haltEngine _))
        · exact .inr (.inr ⟨id, entry, ha, (List.getElem?_eq_some_iff.1 he).1, rfl⟩)

/-- What one move of the engine can do, from the motion blocks with the move taken off. -/
theorem engineMove_cases (env : Env) (h : m.re.todo ≠ .none) :
    let p := m.setTodo .none
    engineMove env m = p ∨ (p.re.seg.isSome = true ∧ Goes env p (engineMove env m)) ∨
    Ends p.InPlace p.Runs p (engineMove env m) ∨
    ∃ id entry, p.re.active = some id ∧ (p.re.list id).position < (p.re.list id).entries.length ∧
      engineMove env m = fetchSegment env id entry p := by
  intro p
  unfold engineMove
  split
  · next e => exact absurd e h
  · obtain e | e | e := beginSegment_cases env p
    · exact .inl e
    · exact .inr (.inr (.inl e))
    · exact .inr (.inr (.inr e))
  · cases hs : p.re.seg with
    | none => exact .inl (by simp only [startTry, hs, p])
    | some sr =>
      have isSeg : p.re.seg.isSome = true := by rw [hs]; rfl
      exact .inr (.inl ⟨rfl, goes_startTry isSeg⟩)
  · next o cell _ =>
    obtain e | e := recordSegment_cases o cell p
    · exact .inl e
    · exact .inr (.inr (.inl e))

end Motion

/-! ## The three invariants, and what keeps them -/

open Motion

/-- The lists in form and the run over them pass through what leaves them (R75, R84). -/
theorem RouteEngine.Sound.of_carries {env : Env} {m q : Motion} (h : m.re.Sound) (c : Carries env m q) :
    q.re.Sound where
  pool := c.pool ▸ h.pool
  main := ListOk.congr h.main c.pool c.main
  priority := ListOk.congr h.priority c.pool c.priority
  segment hs := by
    obtain ⟨run, id, ha, pos⟩ := h.segment (c.seg ▸ hs)
    have list : q.re.list id = m.re.list id := by cases id; exacts [c.main, c.priority]
    exact ⟨c.state ▸ run, id, c.active ▸ ha, list ▸ pos⟩
  moves ht := by
    rw [c.state]
    obtain e | hs := c.moves
    · exact h.moves (e ▸ ht)
    · exact (h.segment hs).1

/-- An operation that leaves no segment in progress keeps the lists and the run in form. -/
theorem RouteEngine.Sound.of_ends {P R : Prop} {m q : Motion} (h : m.re.Sound) (e : Ends P R m q) (hP : P)
    (hR : R) : q.re.Sound where
  pool := e.pool ▸ h.pool
  main := e.lists hP .main h.main
  priority := e.lists hP .priority h.priority
  segment hs := by simp [e.seg] at hs
  moves := e.moves hR

theorem RouteEngine.Sound.inPlace {m : Motion} (h : m.re.Sound) : m.InPlace := fun hs id ha => by
  obtain ⟨-, k, hk, pos⟩ := h.segment hs
  cases ha.symm.trans hk
  exact pos

/-- The move taken off. -/
theorem RouteEngine.Sound.setTodo_none {m : Motion} (h : m.re.Sound) : (m.setTodo .none).re.Sound :=
  ⟨h.pool, ListOk.congr h.main rfl rfl, ListOk.congr h.priority rfl rfl,
    fun hs => h.segment (by simpa [Motion.setTodo] using hs), fun h => absurd rfl h⟩

theorem RouteEngine.Sound.of_fetch {env : Env} {m : Motion} {id : ListId} {entry : Entry} (h : m.re.Sound)
    (hr : m.re.state = .running ∨ m.re.state = .draining) (ha : m.re.active = some id)
    (hp : (m.re.list id).position < (m.re.list id).entries.length) : (fetchSegment env id entry m).re.Sound := by
  obtain ⟨keep, state, active, -, pos, len, -⟩ := fetchSegment_leaves (P := True) env (id := id) (entry := entry) m
  exact ⟨keep.pool ▸ h.pool, keep.lists trivial _ h.main, keep.lists trivial _ h.priority,
    fun _ => ⟨state ▸ hr, id, active.trans ha, by rwa [pos, len]⟩, fun _ => state ▸ hr⟩

theorem engineMove_sound {env : Env} {m : Motion} (h : m.re.Sound) : (engineMove env m).re.Sound := by
  by_cases ht : m.re.todo = .none
  · rwa [engineMove, ht]
  · have hp := h.setTodo_none
    obtain e | ⟨-, e⟩ | e | ⟨id, entry, ha, pos, e⟩ := engineMove_cases env ht
    · rwa [e]
    · exact hp.of_carries e.toCarries
    · exact hp.of_ends e hp.inPlace (h.moves ht)
    · rw [e]
      exact hp.of_fetch (h.moves ht) ha pos

/-! ### The pose (section 2.1) -/

/-- The pose record and the Dock Pose in their ranges. -/
def Motion.PoseIn (m : Motion) : Prop := m.pu.InRange ∧ ∀ d, m.du.pose = some d → d.Ok

theorem PoseUnit.InRange.snapped {pu : PoseUnit} {env : Env} {d : DockPose} (h : d.Ok)
    (hu : env.tun.dockUncertainty ≤ Config.uMax) : (pu.snapped env d).InRange :=
  ⟨h.x, h.y, h.theta, hu, rfl, Nat.zero_le _⟩

theorem Motion.PoseIn.of_carries {env : Env} {m q : Motion} (hu : env.tun.dockUncertainty ≤ Config.uMax)
    (h : m.PoseIn) (c : Carries env m q) : q.PoseIn := by
  refine ⟨?_, fun d hd => h.2 d (c.dockPose ▸ hd)⟩
  obtain e | ⟨d, hd, e⟩ := c.pose
  · exact e ▸ h.1
  · rw [e]
    exact .snapped (h.2 d hd) hu

theorem Motion.PoseIn.of_lists {P : Prop} {m q : Motion} (h : m.PoseIn) (l : Lists P m q) : q.PoseIn :=
  ⟨l.pu ▸ h.1, fun d hd => h.2 d (l.du ▸ hd)⟩

theorem engineMove_poseIn {env : Env} {m : Motion} (hu : env.tun.dockUncertainty ≤ Config.uMax) (h : m.PoseIn) :
    (engineMove env m).PoseIn := by
  by_cases ht : m.re.todo = .none
  · rwa [engineMove, ht]
  · have hp : (m.setTodo .none).PoseIn := h
    obtain e | ⟨-, e⟩ | e | ⟨id, entry, -, -, e⟩ := engineMove_cases env ht
    · rwa [e]
    · exact hp.of_carries hu e.toCarries
    · exact hp.of_lists e.toLists
    · rw [e]
      exact hp.of_lists (P := True) (fetchSegment_leaves env _).1

/-! ### The grant and its owner (section 6.4) -/

namespace Motion
variable {env : Env} {m q : Motion}

/-- The invariant but for its clause that a segment with a move to make waits for nothing: what an event leaves before
the engine's own moves. -/
structure Fit (m : Motion) : Prop where
  owner : m.dp.grant.state.openTo = true → m.Runs ∧ ∃ sr, m.re.seg = some sr ∧ sr.wait = .grant
  moves : m.dp.grant.state.openTo = true → m.re.todo = .none
  pass  : m.re.sub = .passWait → m.re.seg = none
  run   : m.re.seg.isSome = true → m.Runs
  act   : m.re.todo ≠ .none → m.Runs
  still : ∀ sr, m.re.seg = some sr → sr.phase.standing = true → sr.wait = .nothing
  waits : ∀ sr, m.re.seg = some sr → sr.wait = .grant → m.dp.grant.state.openTo = true
  vet   : ∀ sr, m.re.seg = some sr → sr.wait = .grant ∨ sr.wait = .held → sr.phase ≠ .vet

theorem GrantOwned.fit (h : m.GrantOwned) : m.Fit :=
  ⟨h.owner, h.moves, h.pass, h.run, h.act, h.still, h.waits, h.vet⟩

theorem Fit.owned (h : m.Fit) (rest : m.re.todo ≠ .none → ∀ sr, m.re.seg = some sr → sr.wait = .nothing) :
    m.GrantOwned :=
  ⟨h.owner, h.moves, h.pass, h.run, h.act, rest, h.still, h.waits, h.vet⟩

theorem openTo_of_not_closed (h : ¬m.Closed) : m.dp.grant.state.openTo = true := Bool.not_eq_false _ ▸ h

theorem Closed.not_open (h : m.Closed) : ¬m.dp.grant.state.openTo = true := by
  rw [show m.dp.grant.state.openTo = false from h]
  exact Bool.false_ne_true

/-- With no segment in progress no grant is open. -/
theorem Fit.closed_of_none (h : m.Fit) (hs : m.re.seg = none) : m.Closed := by
  by_contra hc
  obtain ⟨-, sr, hsr, -⟩ := h.owner (openTo_of_not_closed hc)
  simp [hs] at hsr

/-- A segment that waits for anything but its grant has none open. -/
theorem Fit.closed_of_wait (h : m.Fit) {sr : SegRun} (hs : m.re.seg = some sr) (hw : sr.wait ≠ .grant) :
    m.Closed := by
  by_contra hc
  obtain ⟨-, r, hr, hg⟩ := h.owner (openTo_of_not_closed hc)
  cases hs.symm.trans hr
  exact hw hg

theorem GrantOwned.todo_of_wait (h : m.GrantOwned) {sr : SegRun} (hs : m.re.seg = some sr) (hw : sr.wait ≠ .nothing) :
    m.re.todo = .none := by
  by_contra ht
  exact hw (h.rest ht sr hs)

theorem Fit.not_passWait (h : m.Fit) (hs : m.re.seg.isSome = true) : m.re.sub ≠ .passWait := fun e => by
  simp [h.pass e] at hs

/-- No segment in progress, no grant open, and a move to make on a running engine alone. -/
theorem owned_of_none (hs : m.re.seg = none) (hc : m.Closed) (ha : m.re.todo ≠ .none → m.Runs) : m.GrantOwned where
  owner h := absurd h hc.not_open
  moves h := absurd h hc.not_open
  pass _ := hs
  run h := by simp [hs] at h
  act := ha
  rest _ sr e := by simp [hs] at e
  still sr e := by simp [hs] at e
  waits sr e := by simp [hs] at e
  vet sr e := by simp [hs] at e

/-- A segment of a running engine that waits as `Waiting` says; where a move was left to make, it waits for nothing. -/
theorem fit_of_waiting {t : Todo} {sr : SegRun} (hs : m.re.seg = some sr) (hw : m.Waiting t sr)
    (ht : t = .none ∨ m.Closed) (hr : m.Runs) (hp : m.re.sub ≠ .passWait) : m.Fit := by
  have only {r : SegRun} (e : m.re.seg = some r) : r = sr := Option.some_inj.1 (e.symm.trans hs)
  have pass : m.re.sub = .passWait → m.re.seg = none := fun e => absurd e hp
  obtain ⟨w, c⟩ | ⟨w, c, st, -⟩ | ⟨w, c, st, v, -⟩ | ⟨w, o, st, v, td⟩ := hw
  · exact ⟨fun h => absurd h c.not_open, fun h => absurd h c.not_open, pass, fun _ => hr, fun _ => hr,
      fun r e _ => by rw [only e, w], fun r e h => by simp [only e, w] at h,
      fun r e h => by simp [only e, w] at h⟩
  · exact ⟨fun h => absurd h c.not_open, fun h => absurd h c.not_open, pass, fun _ => hr, fun _ => hr,
      fun r e h => by simp [only e, st] at h, fun r e h => by simp [only e, w] at h,
      fun r e h => by simp [only e, w] at h⟩
  · exact ⟨fun h => absurd h c.not_open, fun h => absurd h c.not_open, pass, fun _ => hr, fun _ => hr,
      fun r e h => by simp [only e, st] at h, fun r e h => by simp [only e, w] at h,
      fun r e _ => by rw [only e]; exact v⟩
  · obtain rfl := ht.resolve_right fun c => c.not_open o
    exact ⟨fun _ => ⟨hr, sr, hs, w⟩, fun _ => td, pass, fun _ => hr, fun _ => hr,
      fun r e h => by simp [only e, st] at h, fun _ _ _ => o, fun r e _ => by rw [only e]; exact v⟩

/-- What decides what a segment waits for keeps its grant owned. -/
theorem Goes.fit (g : Goes env m q) (hr : m.Runs) (hp : m.re.sub ≠ .passWait) (hc : m.Closed)
    (ht : m.re.todo = .none ∨ q.Closed) : q.Fit := by
  obtain ⟨sr, hsr, hw⟩ := g.waiting hc
  refine fit_of_waiting hsr hw ht ?_ (g.sub ▸ hp)
  rw [Runs, g.state]
  exact hr

/-- With no move left to make before it, the whole invariant follows. -/
theorem Goes.owned (g : Goes env m q) (h : m.Fit) (hs : m.re.seg.isSome = true) (hc : m.Closed)
    (ht : m.re.todo = .none) : q.GrantOwned := by
  refine (g.fit (h.run hs) (h.not_passWait hs) hc (.inl ht)).owned fun hne sr e => ?_
  obtain ⟨r, hr, hw⟩ := g.waiting hc
  cases hr.symm.trans e
  obtain ⟨w, -⟩ | ⟨-, -, -, td⟩ | ⟨-, -, -, -, td⟩ | ⟨-, -, -, -, td⟩ := hw
  · exact w
  all_goals exact absurd (td.trans ht) hne

theorem Ends.owned {P R : Prop} (e : Ends P R m q) (hc : m.Closed) (hR : R) : q.GrantOwned :=
  owned_of_none e.seg (by rw [Closed, e.dp]; exact hc) (e.moves hR)

/-- The move taken off, a segment in progress waits for nothing. -/
theorem Fit.setTodo_none (h : m.Fit) (hc : m.Closed) : (m.setTodo .none).GrantOwned where
  owner h := absurd h (Closed.not_open hc)
  moves _ := rfl
  pass e := by simpa [Motion.setTodo] using h.pass e
  run e := h.run (by simpa [Motion.setTodo] using e)
  act e := absurd rfl e
  rest _ sr e := setTodo_wait e
  still sr e _ := setTodo_wait e
  waits sr e hw := by simp [setTodo_wait e] at hw
  vet sr e hw := by simp [setTodo_wait e] at hw

/-- A move of the engine leaves the invariant whole. -/
theorem Fit.engineMove (h : m.Fit) (ht : m.re.todo ≠ .none) : (engineMove env m).GrantOwned := by
  have hc : m.Closed := by
    by_contra hc
    exact ht (h.moves (openTo_of_not_closed hc))
  have hp := h.setTodo_none hc
  have closed : (m.setTodo .none).Closed := hc
  obtain e | ⟨hs, e⟩ | e | ⟨id, entry, ha, -, e⟩ := engineMove_cases env ht
  · rwa [e]
  · exact e.owned hp.fit hs closed rfl
  · exact e.owned closed (h.act ht)
  · obtain ⟨keep, state, -, sub, -, -, sr, hsr, w⟩ :=
      fetchSegment_leaves (P := True) env (id := id) (entry := entry) (m.setTodo .none)
    have fetched : (fetchSegment env id entry (m.setTodo .none)).Closed := by
      rw [Closed, keep.dp]
      exact closed
    rw [e]
    refine (fit_of_waiting (t := .none) hsr (.inl ⟨w, fetched⟩) (.inl rfl) ?_ (by rw [sub]; nofun)).owned
      fun _ r hr => ?_
    · rw [Runs, state]
      exact h.act ht
    · cases hsr.symm.trans hr
      exact w

theorem GrantOwned.engineMove (h : m.GrantOwned) : (engineMove env m).GrantOwned := by
  by_cases ht : m.re.todo = .none
  · rwa [Machine.engineMove, ht]
  · exact h.fit.engineMove ht

/-- The engine's own moves after an event leave the invariant whole. -/
theorem Fit.runEngine (h : m.Fit) (n : Nat) : (runEngine env (n + 1) m).GrantOwned := by
  unfold Machine.runEngine
  split
  · next ht => exact h.owned fun hne => absurd ht hne
  · next ht => exact runEngine_keeps env GrantOwned (fun _ => GrantOwned.engineMove) n _ (h.engineMove ht)

/-- The grant's owner is the same where the segment, the run and the move to make are, and no grant is opened. -/
theorem GrantOwned.of_same (h : m.GrantOwned) (hs : q.re.seg = m.re.seg) (hr : q.re.state = m.re.state)
    (hsub : q.re.sub = m.re.sub) (ht : q.re.todo = m.re.todo)
    (ho : q.dp.grant.state.openTo = m.dp.grant.state.openTo) : q.GrantOwned := by
  obtain ⟨owner, moves, pass, run, act, rest, still, waits, vet⟩ := h
  constructor <;> simpa only [hs, hr, hsub, ht, ho]

end Motion
end Sys2Proof.Machine
end

section
namespace Sys2Proof.Machine
open Sys2Proof Motion

/-! ## Events, postings and stops: what each leaves before the engine's own moves -/

/-- An operation on the motion blocks that keeps the pose in range and the run in form, and leaves a grant owned but for
a segment with a move to make, which the engine's own moves then see to. -/
structure Motion.Reacts (env : Env) (m q : Motion) : Prop where
  pose  : env.tun.dockUncertainty ≤ Config.uMax → m.PoseIn → q.PoseIn
  route : m.re.Sound → q.re.Sound
  grant : m.GrantOwned → q.Fit

namespace Motion
variable {env : Env} {m p q : Motion}

/-- The same run and pose, with the grant as it was or closed: what stands when an event that stops a grant, or ends
it, comes to the segment in progress. -/
structure Eased (m p : Motion) : Prop where
  re   : p.re = m.re
  pu   : p.pu = m.pu
  du   : p.du.pose = m.du.pose
  shut : m.Closed → p.Closed

theorem Eased.refl : Eased m m := ⟨rfl, rfl, rfl, id⟩

theorem Eased.trans (h : Eased m p) (k : Eased p q) : Eased m q :=
  ⟨k.re.trans h.re, k.pu.trans h.pu, k.du.trans h.du, k.shut ∘ h.shut⟩

theorem Eased.quiet (e : Eased m p) : Quiet env m p := .of_blocks e.re e.pu e.du e.shut

theorem eased_askStop (r : StopReason) : Eased m (askStop r m) :=
  ⟨by simp, by simp, by simp, fun _ => askStop_closes r m⟩

theorem eased_endGrant : Eased m (endGrant m) := ⟨rfl, rfl, rfl, fun _ => rfl⟩

/-- Where no segment waits for its grant, none is open, and the invariant stands. -/
theorem Eased.owned (e : Eased m p) (h : m.GrantOwned) (hw : ¬m.WaitsFor .grant) : p.GrantOwned := by
  have hc : m.Closed := by
    by_contra hc
    exact hw (h.owner (openTo_of_not_closed hc)).2
  have hp : p.Closed := e.shut hc
  exact h.of_same (by rw [e.re]) (by rw [e.re]) (by rw [e.re]) (by rw [e.re]) (Eq.trans hp (Eq.symm hc))

theorem GrantOwned.runs_of_seg (h : m.GrantOwned) {sr : SegRun} (hs : m.re.seg = some sr) : m.Runs :=
  h.run (by simp [hs])

theorem GrantOwned.sub_of_seg (h : m.GrantOwned) {sr : SegRun} (hs : m.re.seg = some sr) : m.re.sub ≠ .passWait :=
  h.fit.not_passWait (by simp [hs])

theorem not_waitsFor {sr : SegRun} {w : Wait} (hs : m.re.seg = some sr) (hw : sr.wait ≠ w) : ¬m.WaitsFor w :=
  fun ⟨r, hr, e⟩ => by
    cases hs.symm.trans hr
    exact hw e

/-- An operation that decides what the segment in progress of `m` waits for, from `p` with no grant open. -/
theorem Goes.fit_eased (g : Goes env p q) (e : Eased m p) (h : m.GrantOwned) {sr : SegRun}
    (hs : m.re.seg = some sr) (hc : p.Closed) (ht : m.re.todo = .none ∨ q.Closed) : q.Fit := by
  refine g.fit ?_ ?_ hc ?_
  · rw [Runs, e.re]
    exact h.runs_of_seg hs
  · rw [e.re]
    exact h.sub_of_seg hs
  · rwa [e.re]

theorem endSettle_closed (sr : SegRun) (h : m.Closed) : (endSettle env sr m).Closed := by
  have effect (o : SegOutcome) : (takeEffect o sr.cell m).Closed := by rw [Closed, takeEffect_dp]; exact h
  unfold endSettle
  split
  · exact h
  · split
    · exact h
    · split
      · unfold endBackoff
        split
        · exact effect _
        · exact h
      · split
        · simpa [beginBackoff, askInPhase, Closed] using h
        · exact effect _

theorem finishDocked_dp : (finishDocked env m).dp = m.dp := by
  unfold finishDocked dockSnap
  dsimp only
  split <;> split <;> rfl

theorem finishDocked_closed (h : m.Closed) : (finishDocked env m).Closed := by
  rw [Closed, finishDocked_dp]
  exact h

/-- A Dock segment as it enters DOCKED, before the record is looked at (R162). -/
def contacts (m : Motion) : Motion :=
  (setDockPhase .docked (askStop .cancel (withdrawCheck (m.reachStage 4)))).updSeg fun sr =>
    { sr with phase := .docked, wait := .nothing, outcome := none, cell := none, ready := none }

theorem quiet_contacts : Quiet env m m.contacts :=
  (quiet_reachStage 4).trans <| quiet_withdrawCheck.trans <| (quiet_askStop _).trans <|
    (quiet_setDockPhase _).trans (quiet_updSeg _)

theorem contacts_closed : m.contacts.Closed := askStop_closes .cancel (withdrawCheck (m.reachStage 4))

theorem contacts_wait {r : SegRun} (h : m.contacts.re.seg = some r) : r.wait = .nothing := by
  obtain ⟨_, _, rfl⟩ := Option.map_eq_some_iff.1 h
  rfl

/-- DOCKED is entered from any grant: the open one is stopped, so the segment waits for none (R162). -/
theorem GrantOwned.enterDocked (h : m.GrantOwned) {sr : SegRun} (hs : m.re.seg = some sr) :
    (enterDocked env m).Fit := by
  have isSeg : m.contacts.re.seg.isSome = true := (quiet_contacts (env := env)).isSome (by rw [hs]; rfl)
  have hr : m.contacts.Runs := by
    rw [Runs, (quiet_contacts (env := env)).state]
    exact h.runs_of_seg hs
  have hp : m.contacts.re.sub ≠ .passWait := by
    rw [(quiet_contacts (env := env)).sub]
    exact h.sub_of_seg hs
  change (if m.contacts.dp.grant.state = .none then finishDocked env m.contacts else m.contacts).Fit
  split
  · exact (goes_finishDocked isSeg).fit hr hp contacts_closed (.inr (finishDocked_closed contacts_closed))
  · obtain ⟨r, hr'⟩ := Option.isSome_iff_exists.1 isSeg
    exact fit_of_waiting (t := .none) hr' (.inl ⟨contacts_wait hr', contacts_closed⟩) (.inl rfl) hr hp

theorem carries_issueGrant (g : ReadyGrant) (h : m.re.seg.isSome = true) : Carries env m (issueGrant g m) := by
  unfold issueGrant
  split
  · exact (goes_setTodo _ h).toCarries
  · split
    · exact (carries_sendGrant g).trans (quiet_updSeg _).toCarries
    · exact (quiet_updSeg _).toCarries

namespace Reacts

theorem refl : Reacts env m m := ⟨fun _ h => h, fun h => h, GrantOwned.fit⟩

theorem of_carries (c : Carries env m q) (g : m.GrantOwned → q.Fit) : Reacts env m q :=
  ⟨fun hu h => h.of_carries hu c, fun h => h.of_carries c, g⟩

/-- An operation that leaves no segment in progress, on an engine with no grant open. -/
theorem of_ends (e : Ends True True m q) (hc : m.GrantOwned → m.Closed) : Reacts env m q :=
  ⟨fun _ h => h.of_lists e.toLists, fun h => h.of_ends e trivial trivial,
    fun h => (e.owned (hc h) trivial).fit⟩

theorem of_eased (e : Eased m p) (h : m.GrantOwned → ¬m.WaitsFor .grant) : Reacts env m p :=
  of_carries e.quiet.toCarries fun k => (e.owned k (h k)).fit

theorem checkHanded (res : CheckResult) : Reacts env m (checkHanded env res m) := by
  obtain e | ⟨⟨sr, hs, hw⟩, g⟩ := checkHanded_cases env res m
  · rw [e]
    exact refl
  · refine of_carries g.toCarries fun h => ?_
    have hc := h.fit.closed_of_wait hs (by rw [hw]; nofun)
    exact g.fit_eased .refl h hs hc (.inl (h.todo_of_wait hs (by rw [hw]; nofun)))

theorem pieceDone (e : Eased m p) (hc : p.Closed) : Reacts env m (pieceDone env p) := by
  obtain ⟨hw, k⟩ | ⟨⟨sr, hs, hw⟩, g⟩ := pieceDone_cases env p
  · rw [k]
    exact of_eased e fun _ => by rwa [WaitsFor, e.re] at hw
  · rw [e.re] at hs
    exact of_carries (e.quiet.goes g).toCarries fun h =>
      g.fit_eased e h hs hc (.inl (h.todo_of_wait hs (by rw [hw]; nofun)))

theorem pieceStopped (o : SegOutcome) (cell : Option CellIx) (e : Eased m p) (hc : p.Closed) :
    Reacts env m (pieceStopped o cell p) := by
  obtain ⟨hw, k⟩ | ⟨⟨sr, hs, hw⟩, g⟩ := pieceStopped_cases (env := env) o cell p
  · rw [k]
    exact of_eased e fun _ => by rwa [WaitsFor, e.re] at hw
  · rw [e.re] at hs
    exact of_carries (e.quiet.goes g).toCarries fun h =>
      g.fit_eased e h hs hc (.inl (h.todo_of_wait hs (by rw [hw]; nofun)))

theorem faultTry (o : SegOutcome) (e : Eased m p) (hc : p.Closed) (hs : m.re.seg.isSome = true) :
    Reacts env m (faultTry o p) := by
  obtain ⟨sr, hsr⟩ := Option.isSome_iff_exists.1 hs
  have g := goes_faultTry (env := env) o (e.quiet.isSome (env := env) hs)
  exact of_carries (e.quiet.goes g).toCarries fun h =>
    g.fit_eased e h hsr hc (.inr (by rw [Closed, faultTry_dp]; exact hc))

theorem lostIndication : Reacts env m (lostIndication m) := by
  obtain e | ⟨hs, e⟩ := lostIndication_cases m
  · rw [e]
    exact refl
  · rw [e]
    exact faultTry _ (eased_askStop _) (askStop_closes _ _) hs

theorem driveFailure (o : SegOutcome) (e : Eased m p) (hc : p.Closed) : Reacts env m (driveFailure o p) := by
  unfold Machine.driveFailure
  split
  · next hs =>
    rw [e.re] at hs
    split
    · exact of_eased e fun _ ⟨_, k, _⟩ => by simp [hs] at k
    · have halt := ends_haltEngine (P := True) (R := True) (m := p) o
      exact ⟨fun hu h => (h.of_carries (env := env) hu e.quiet.toCarries).of_lists halt.toLists,
        fun h => (h.of_carries (env := env) e.quiet.toCarries).of_ends halt trivial trivial,
        fun _ => (halt.owned hc trivial).fit⟩
  · next hs => exact faultTry o e hc (by rw [← e.re, hs]; rfl)

/-- The mark of a trip set and its grant stopped, before the try is told. -/
theorem noted_stop (e : Eased m p) {sr : SegRun} (hs : m.re.seg = some sr) :
    Quiet env m (askStop .hazard p.tripNoted) ∧ (askStop .hazard p.tripNoted).Closed ∧
    (askStop .hazard p.tripNoted).re.seg.isSome = true ∧
    (m.GrantOwned → (askStop .hazard p.tripNoted).Runs ∧ (askStop .hazard p.tripNoted).re.sub ≠ .passWait) := by
  have quiet : Quiet env m (askStop .hazard p.tripNoted) :=
    e.quiet.trans (quiet_tripNoted.trans (quiet_askStop (env := env) (m := p.tripNoted) .hazard))
  refine ⟨quiet, askStop_closes _ _, quiet.isSome (by rw [hs]; rfl), fun h => ⟨?_, ?_⟩⟩
  · rw [Runs, quiet.state]
    exact h.runs_of_seg hs
  · rw [quiet.sub]
    exact h.sub_of_seg hs

theorem tripReported (o : SegOutcome) (e : Eased m p) : Reacts env m (tripReported o p) := by
  obtain ⟨hs, k⟩ | ⟨sr, hs, ⟨ph, k⟩ | ⟨ph, k⟩ | ⟨ph, k⟩ | ⟨hw, k⟩ | ⟨hw, k⟩⟩ := tripReported_cases o p
  all_goals rw [k]; rw [e.re] at hs
  · exact of_eased e fun _ ⟨_, j, _⟩ => by simp [hs] at j
  · refine of_carries (e.quiet.trans quiet_tripNoted).toCarries fun h => ?_
    have owned := e.owned h (not_waitsFor hs (by rw [h.still sr hs ph]; nofun))
    exact (owned.of_same (q := p.tripNoted) rfl rfl rfl rfl rfl).fit
  · refine of_carries (e.quiet.trans (quiet_tripNoted.trans (quiet_updSeg _))).toCarries fun h => ?_
    have w := h.still sr hs (by rw [ph]; rfl)
    have owned := e.owned h (not_waitsFor hs (by rw [w]; nofun))
    have seg : p.tripNoted.re.seg = some sr := by rw [← hs, ← e.re]; rfl
    have hc : p.Closed := owned.fit.closed_of_wait (sr := sr) seg (by rw [w]; nofun)
    exact fit_of_waiting (t := .none) (updSeg_seg seg) (.inl ⟨w, hc⟩) (.inl rfl) (owned.runs_of_seg seg)
      (owned.sub_of_seg seg)
  · obtain ⟨quiet, hc, isSeg, run⟩ := noted_stop (env := env) e hs
    have g := goes_faultTry (env := env) .guardInBackoff isSeg
    exact of_carries (quiet.goes g).toCarries fun h =>
      g.fit (run h).1 (run h).2 hc (.inr (by rw [Closed, faultTry_dp]; exact hc))
  · obtain ⟨quiet, hc, isSeg, run⟩ := noted_stop (env := env) e hs
    have g := goes_enterSettle (env := env) o none isSeg
    exact of_carries (quiet.goes g).toCarries fun h => g.fit (run h).1 (run h).2 hc (.inr hc)
  · refine of_carries (e.quiet.trans (quiet_tripNoted.trans quiet_releaseGuard)).toCarries fun h => ?_
    have owned := e.owned h (not_waitsFor hs hw)
    exact (owned.of_same (by simp; rfl) (by simp; rfl) (by simp; rfl) (by simp; rfl) (by simp; rfl)).fit

theorem grantSettled (h : m.GrantOwned → ¬m.WaitsFor .grant) :
    Reacts env m (grantSettled env (endGrant m)) := by
  refine of_carries ((eased_endGrant (m := m)).quiet.toCarries.trans carries_grantSettled) fun owned => ?_
  have ended := eased_endGrant.owned owned (h owned)
  have hc : (endGrant m).Closed := endGrant_closed
  obtain e | ⟨sr, hs, ph, e | e⟩ := grantSettled_cases env (endGrant m)
  · rw [e]
    exact ended.fit
  · rw [e]
    have w := ended.still sr hs ph
    have g := goes_endSettle (env := env) (m := endGrant m) sr (by rw [hs]; rfl)
      fun r hr => by cases hs.symm.trans hr; exact w
    exact g.fit_eased .refl ended hs hc (.inr (endSettle_closed sr hc))
  · rw [e]
    have g := goes_finishDocked (env := env) (m := endGrant m) (by rw [hs]; rfl)
    exact g.fit_eased .refl ended hs hc (.inr (finishDocked_closed hc))

theorem releaseHeld : Reacts env m (releaseHeld m) := by
  obtain e | ⟨sr, g, hs, hw, -, e⟩ := releaseHeld_cases m
  · rw [e]
    exact refl
  · have isSeg : m.re.seg.isSome = true := by simp [hs]
    rw [e]
    refine ⟨fun hu h => h.of_carries (env := env) hu (carries_issueGrant g isSeg),
      fun h => h.of_carries (env := env) (carries_issueGrant g isSeg), fun h => ?_⟩
    have grants : m.Grants := fun r hr => by
      cases hs.symm.trans hr
      refine ⟨Bool.eq_false_iff.2 fun ph => ?_, h.vet sr hs (.inr hw)⟩
      simp [h.still sr hs ph] at hw
    have hc := h.fit.closed_of_wait hs (by rw [hw]; nofun)
    exact (goes_issueGrant (env := env) g grants isSeg).fit_eased .refl h hs hc
      (.inl (h.todo_of_wait hs (by rw [hw]; nofun)))

theorem endDwell : Reacts env m (endDwell m) := by
  unfold Machine.endDwell
  split
  · next sr hs =>
    split
    · next ph =>
      have g := goes_setTodo (env := env) (m := { m with re := { m.re with attempt := m.re.attempt + 1 } })
        .startTry (by simp [hs])
      have quiet : Quiet env m { m with re := { m.re with attempt := m.re.attempt + 1 } } :=
        ⟨⟨rfl, rfl, rfl, rfl, rfl, rfl, rfl, rfl, .inl rfl, .inl rfl⟩, rfl, id⟩
      refine of_carries (quiet.goes g).toCarries fun h => ?_
      have hc := h.fit.closed_of_wait hs (by rw [h.still sr hs (by rw [ph.1]; rfl)]; nofun)
      exact (quiet.goes g).fit_eased .refl h hs hc (.inr hc)
    · exact refl
  · exact refl

theorem contactOn : Reacts env m (contactOn env m) := by
  unfold Machine.contactOn
  split
  · next sr hs =>
    split
    · exact of_carries (goes_enterDocked (by rw [hs]; rfl)).toCarries fun h => h.enterDocked hs
    · exact refl
  · exact refl

end Reacts
end Motion
end Sys2Proof.Machine
end

section
namespace Sys2Proof.Machine
open Sys2Proof Motion

/-! ## Stops, postings and starts (R86, R108 to R110) -/

/-- A run list whose position returns to 0, or stays, is in form as before. -/
theorem RouteEngine.Sound.of_runs {re re' : RouteEngine} (h : re.Sound)
    (hp : re'.pool = re.pool) (hm : re'.main = re.main) (hl : re'.priority = re.priority)
    (hr : re'.state = .running ∨ re'.state = .draining) (ha : re'.active = re.active) (hs : re'.seg = re.seg) :
    re'.Sound where
  pool := hp ▸ h.pool
  main := ListOk.congr h.main hp hm
  priority := ListOk.congr h.priority hp hl
  segment k := by
    obtain ⟨-, id, a, pos⟩ := h.segment (hs ▸ k)
    have e : re'.list id = re.list id := by cases id; exacts [hm, hl]
    exact ⟨hr, id, ha.trans a, by rw [e]; exact pos⟩
  moves _ := hr

/-- The engine with a posting that waits: the Priority List from its first entry, the switch pending (R110). -/
def RouteEngine.posted (re : RouteEngine) : RouteEngine :=
  { re with switchPending := true, priority := { re.priority with position := 0 } }

theorem RouteEngine.Sound.fromFirst {re : RouteEngine} (h : re.Sound) :
    { re with priority := { re.priority with position := 0 } }.Sound where
  pool := h.pool
  main := ListOk.congr h.main rfl rfl
  priority := ⟨Nat.zero_le _, h.priority.length, h.priority.named⟩
  segment k := by
    obtain ⟨hr, id, a, pos⟩ := h.segment k
    refine ⟨hr, id, a, ?_⟩
    cases id with
    | main => exact pos
    | priority => exact Nat.zero_lt_of_lt pos
  moves := h.moves

theorem RouteEngine.Sound.posted {re : RouteEngine} (h : re.Sound) : re.posted.Sound :=
  ⟨h.pool, ListOk.congr h.fromFirst.main rfl rfl, ListOk.congr h.fromFirst.priority rfl rfl, h.fromFirst.segment,
    h.moves⟩

namespace Motion
variable {env : Env} {m p q : Motion} {P R : Prop}

/-- The invariant depends on the segment, the engine's state and moves, and the openness of the grant. -/
theorem Fit.of_same (h : m.Fit) (hs : q.re.seg = m.re.seg) (hr : q.re.state = m.re.state)
    (hsub : q.re.sub = m.re.sub) (ht : q.re.todo = m.re.todo)
    (ho : q.dp.grant.state.openTo = m.dp.grant.state.openTo) : q.Fit := by
  obtain ⟨owner, moves, pass, run, act, still, waits, vet⟩ := h
  constructor <;> simpa only [Runs, hs, hr, hsub, ht, ho]

/-- A running engine whose state becomes RUNNING or DRAINING keeps its grant owned. -/
theorem GrantOwned.of_runs (h : m.GrantOwned) (hs : q.re.seg = m.re.seg) (hr : q.Runs)
    (hsub : q.re.sub = m.re.sub) (ht : q.re.todo = m.re.todo)
    (ho : q.dp.grant.state.openTo = m.dp.grant.state.openTo) : q.GrantOwned where
  owner o := ⟨hr, by rw [hs]; exact (h.owner (ho ▸ o)).2⟩
  moves o := by rw [ht]; exact h.moves (ho ▸ o)
  pass e := by rw [hs]; exact h.pass (hsub ▸ e)
  run _ := hr
  act _ := hr
  rest e sr k := h.rest (ht ▸ e) sr (hs ▸ k)
  still sr k := h.still sr (hs ▸ k)
  waits sr k w := by rw [ho]; exact h.waits sr (hs ▸ k) w
  vet sr k := h.vet sr (hs ▸ k)

theorem GrantOwned.closed_of_idle (h : m.GrantOwned) (hr : ¬m.Runs) : m.Closed := by
  by_contra hc
  exact hr (h.owner (openTo_of_not_closed hc)).1

theorem inPassWait_iff (m : Motion) : m.re.inPassWait = true ↔ m.Runs ∧ m.re.sub = .passWait := by
  simp [RouteEngine.inPassWait, Runs]

/-- A cancel leaves the lists in form and no grant open. -/
theorem cancelSegment_leaves (m : Motion) :
    ∃ p, Eased m p ∧ p.Closed ∧ Lists P p (cancelSegment m) := by
  refine ⟨withdrawCheck (askStop .cancel m),
    (eased_askStop .cancel).trans (q := withdrawCheck (askStop .cancel m)) ⟨rfl, rfl, rfl, id⟩,
    askStop_closes .cancel m, ?_⟩
  unfold cancelSegment
  cases hs : (withdrawCheck (askStop .cancel m)).re.seg with
  | none => simp only [writeRecord, hs]; exact .refl
  | some sr =>
    cases ha : (withdrawCheck (askStop .cancel m)).re.active with
    | none => simp only [writeRecord, hs, ha]; exact .refl
    | some id => exact (writeRecord_leaves .cancelled none hs ha).1

namespace Reacts

/-- The segment is cancelled, and the run ends or switches. -/
theorem cancel (e : Ends True True (cancelSegment m) q) : Reacts env m q := by
  obtain ⟨p, eased, hc, lists⟩ := cancelSegment_leaves (P := True) m
  have k := lists.ends e
  exact ⟨fun hu h => (h.of_carries (env := env) hu eased.quiet.toCarries).of_lists k.toLists,
    fun h => (h.of_carries (env := env) eased.quiet.toCarries).of_ends k trivial trivial,
    fun _ => (k.owned hc trivial).fit⟩

theorem contactOffDocking : Reacts env m (contactOffDocking m) := by
  have e : Eased m { m with du := { m.du with docked := false } } := ⟨rfl, rfl, rfl, id⟩
  unfold Machine.contactOffDocking
  dsimp only
  split
  · next sr hs =>
    split
    · next ph =>
      have g := goes_enterSettle (env := env) (m := { m with du := { m.du with docked := false } })
        .dockMissed none (by rw [hs]; rfl)
      refine of_carries (e.quiet.goes g).toCarries fun h => ?_
      have hc : m.Closed := h.fit.closed_of_wait hs (by rw [h.still sr hs (by rw [ph]; rfl)]; nofun)
      exact g.fit_eased e h hs hc (.inr hc)
    · exact of_carries e.quiet.toCarries fun h => h.fit.of_same rfl rfl rfl rfl rfl
  · exact of_carries e.quiet.toCarries fun h => h.fit.of_same rfl rfl rfl rfl rfl

theorem stopLater (mode : DrainMode) : Reacts env m (stopLater mode m) := by
  unfold Machine.stopLater
  split
  · next hp =>
    refine of_ends ?_ fun h => h.fit.closed_of_none (h.pass ((inPassWait_iff m).1 hp).2)
    cases mode with
    | atPass => exact (lists_raise _).ends ends_becomeIdle
    | atSegment => exact ends_becomeIdle
  · unfold beginDrain
    split
    · exact refl
    · exact ⟨fun _ h => h, fun h => h.of_runs rfl rfl rfl (.inr rfl) rfl rfl,
        fun h => (h.of_runs (q := { m with re := { m.re with state := .draining, drain := mode } }) rfl (.inr rfl)
          rfl rfl rfl).fit⟩

/-- The run goes on as RUNNING, with no switch and no stop to come (R108). -/
def running (m : Motion) : Motion :=
  { m with re := { m.re with state := .running, switchPending := false, keptStop := false } }

/-- With a fault pending SETTLE ends in its record (R90). -/
theorem endSettle_of_faulted {sr : SegRun} (h : sr.faulted = true) (m : Motion) :
    ∃ o, endSettle env sr m = m.setTodo (.record o none) := by
  unfold SegRun.faulted at h
  unfold endSettle
  split at h
  · next o ho =>
    rw [ho]
    exact ⟨o, if_pos (by simpa using h)⟩
  · cases h

theorem stopNow : Reacts env m (stopNow env m) := by
  unfold Machine.stopNow
  split
  · next sr hs =>
    split
    · next hf =>
      have route (h : m.re.Sound) : (running m).re.Sound := h.of_runs rfl rfl rfl (.inl rfl) rfl rfl
      have grant (h : m.GrantOwned) : (running m).GrantOwned := h.of_runs rfl (.inl rfl) rfl rfl rfl
      change Reacts env m (if m.dp.grant.state = .none then endSettle env sr (running m) else running m)
      split
      · next hn =>
        obtain ⟨o, e⟩ := endSettle_of_faulted (env := env) hf (running m)
        have g := goes_setTodo (env := env) (m := running m) (.record o none) (by rw [running, hs]; rfl)
        have hc : (running m).Closed := by rw [Closed, running, hn]; rfl
        rw [e]
        exact ⟨fun hu h => Motion.PoseIn.of_carries (m := running m) hu h g.toCarries,
          fun h => (route h).of_carries g.toCarries,
          fun h => g.fit_eased .refl (grant h) (m := running m) hs hc (.inr hc)⟩
      · exact ⟨fun _ h => h, route, fun h => (grant h).fit⟩
    · exact cancel ends_becomeIdle
  · next hs => exact of_ends ends_becomeIdle fun h => h.fit.closed_of_none hs

theorem stopRoute (mode : Nat) : Reacts env m (stopRoute env mode m) := by
  unfold Machine.stopRoute
  split
  · exact stopLater _
  · exact stopLater _
  · exact stopNow

/-- The Priority List from its first entry (R110). -/
def fromFirst (m : Motion) : Motion :=
  { m with re := { m.re with priority := { m.re.priority with position := 0 } } }

theorem lists_fromFirst : Lists P m (fromFirst m) := by
  refine ⟨rfl, rfl, rfl, rfl, fun _ id k => ?_⟩
  cases id with
  | main => exact ListOk.congr k rfl rfl
  | priority => exact ⟨Nat.zero_le _, k.length, k.named⟩

theorem posted (h : Reacts env m q) : Reacts env m { q with re := q.re.posted } :=
  ⟨h.pose, fun k => (h.route k).posted, fun k => (h.grant k).of_same rfl rfl rfl rfl rfl⟩

theorem postList (urgent : Bool) : Reacts env m (postList urgent m) := by
  change Reacts env m
    (if m.re.state = .idle then runList .priority (fromFirst m)
     else if m.re.inPassWait then switchList (m.re.state = .draining) .passWait (fromFirst m)
     else if urgent && m.re.seg.isSome && !m.re.faultPending then
       switchList (m.re.state = .draining) .segment (cancelSegment (fromFirst m))
     else { m with re := m.re.posted })
  split
  · next hi =>
    exact of_ends (lists_fromFirst.ends (ends_runList _)) fun h => h.closed_of_idle (by simp [Runs, hi])
  · split
    · next hp =>
      exact of_ends (lists_fromFirst.ends (ends_switchList _ _)) fun h =>
        h.fit.closed_of_none (h.pass ((inPassWait_iff m).1 hp).2)
    · split
      · have k : Reacts env (fromFirst m) (switchList (m.re.state = .draining) .segment (cancelSegment (fromFirst m))) :=
          cancel (ends_switchList _ _)
        exact ⟨k.pose, fun h => k.route h.fromFirst, fun h => k.grant (h.of_same rfl rfl rfl rfl rfl)⟩
      · exact posted refl

theorem postPriority (urgent : Bool) : Reacts env m (postPriority urgent env m) := by
  unfold Machine.postPriority
  split
  · exact posted stopNow
  · exact postList urgent

/-- START ROUTE keeps the entries, and the position or 0 (R86). -/
theorem started_form (fresh sus : Bool) (l : RunList) :
    (if fresh then l.fromStart else l.resumed sus).entries = l.entries ∧
    ((if fresh then l.fromStart else l.resumed sus).position = 0 ∨
      (if fresh then l.fromStart else l.resumed sus).position = l.position) := by
  cases fresh with
  | true => exact ⟨rfl, .inl rfl⟩
  | false =>
    simp only [RunList.resumed, Bool.false_eq_true, if_false]
    split
    · exact ⟨rfl, .inl rfl⟩
    · exact ⟨rfl, .inr rfl⟩

theorem startMain (fresh : Bool) (hi : m.re.state = .idle) : Reacts env m (startMain fresh m) := by
  obtain ⟨entries, position⟩ := started_form fresh m.re.suspended.isSome m.re.main
  have lists : Lists True m { m with re := { m.re with
      main := if fresh then m.re.main.fromStart else m.re.main.resumed m.re.suspended.isSome, suspended := none } } := by
    refine Lists.of_position (id := .main) rfl rfl (fun k hk => ?_) entries (fun _ => ?_) rfl rfl rfl
    · cases k with
      | main => exact absurd rfl hk
      | priority => rfl
    · exact position.imp (fun e => (Nat.le_of_eq e).trans (Nat.zero_le _)) (fun e => e)
  exact of_ends (lists.ends (ends_runList _)) fun h => h.closed_of_idle (by simp [Runs, hi])

theorem passExpired : Reacts env m (passExpired m) := by
  unfold Machine.passExpired
  split
  · next hp =>
    have hp := (inPassWait_iff m).1 (Bool.and_eq_true_iff.1 hp).1
    exact of_ends (ends_runList _) fun h => h.fit.closed_of_none (h.pass hp.2)
  · split
    · exact ⟨fun _ h => h, fun h => ⟨h.pool, ListOk.congr h.main rfl rfl, ListOk.congr h.priority rfl rfl, h.segment, h.moves⟩,
        fun h => h.fit.of_same rfl rfl rfl rfl rfl⟩
    · exact refl

end Reacts
end Motion
end Sys2Proof.Machine
end

section
namespace Sys2Proof.Machine
open Sys2Proof Motion

/-! ## The whole part: what keeps the pose in range and the run in form

`State.Keeps` says of two states what the two invariants need, and composes. Most operations leave the pose, the
run and the openness of the grant as they are (`State.Alike`); the others are events, and the engine's own moves after
them (`Motion.Reacts`). -/

/-- The same run: the pool, the lists, the engine's state and moves, and the segment's phase and wait. -/
structure RouteEngine.SameRun (re re' : RouteEngine) : Prop where
  pool     : re'.pool = re.pool
  main     : re'.main = re.main
  priority : re'.priority = re.priority
  state    : re'.state = re.state
  active   : re'.active = re.active
  sub      : re'.sub = re.sub
  todo     : re'.todo = re.todo
  seg      : ∃ f : SegRun → SegRun, (∀ sr, (f sr).wait = sr.wait ∧ (f sr).phase = sr.phase) ∧ re'.seg = re.seg.map f

namespace RouteEngine.SameRun
variable {re re' re'' : RouteEngine}

theorem of_seg (hp : re'.pool = re.pool) (hm : re'.main = re.main) (hl : re'.priority = re.priority)
    (hs : re'.state = re.state) (ha : re'.active = re.active) (hsub : re'.sub = re.sub) (ht : re'.todo = re.todo)
    (hseg : re'.seg = re.seg) : re.SameRun re' :=
  ⟨hp, hm, hl, hs, ha, hsub, ht, id, fun _ => ⟨rfl, rfl⟩, by rw [hseg, Option.map_id_fun, id]⟩

theorem of_eq (h : re' = re) : re.SameRun re' := by
  subst h
  exact of_seg rfl rfl rfl rfl rfl rfl rfl rfl

theorem trans (h : re.SameRun re') (k : re'.SameRun re'') : re.SameRun re'' := by
  obtain ⟨f, hf, ef⟩ := h.seg
  obtain ⟨g, hg, eg⟩ := k.seg
  exact ⟨k.pool.trans h.pool, k.main.trans h.main, k.priority.trans h.priority, k.state.trans h.state,
    k.active.trans h.active, k.sub.trans h.sub, k.todo.trans h.todo, g ∘ f,
    fun sr => ⟨(hg _).1.trans (hf sr).1, (hg _).2.trans (hf sr).2⟩, by rw [eg, ef, Option.map_map]⟩

theorem isSome (h : re.SameRun re') : re'.seg.isSome = re.seg.isSome := by
  obtain ⟨f, -, e⟩ := h.seg
  rw [e, Option.isSome_map]

theorem none (h : re.SameRun re') (hs : re.seg = .none) : re'.seg = .none := by
  obtain ⟨f, -, e⟩ := h.seg
  rw [e, hs]
  rfl

/-- A segment of the later run is one of the earlier, in the same phase and wait. -/
theorem origin (h : re.SameRun re') {sr : SegRun} (hs : re'.seg = some sr) :
    ∃ r, re.seg = some r ∧ sr.wait = r.wait ∧ sr.phase = r.phase := by
  obtain ⟨f, hf, e⟩ := h.seg
  obtain ⟨r, hr, rfl⟩ := Option.map_eq_some_iff.1 (e.symm.trans hs)
  exact ⟨r, hr, hf r⟩

theorem sound (h : re.SameRun re') (k : re.Sound) : re'.Sound where
  pool := h.pool ▸ k.pool
  main := ListOk.congr k.main h.pool h.main
  priority := ListOk.congr k.priority h.pool h.priority
  segment hs := by
    obtain ⟨hr, id, ha, pos⟩ := k.segment (h.isSome ▸ hs)
    have e : re'.list id = re.list id := by cases id; exacts [h.main, h.priority]
    exact ⟨h.state ▸ hr, id, h.active.trans ha, by rw [e]; exact pos⟩
  moves ht := h.state ▸ k.moves (h.todo ▸ ht)

end RouteEngine.SameRun

/-- What the two invariants read of the motion blocks, kept. -/
structure Motion.Alike (m q : Motion) : Prop where
  pu     : m.pu.InRange → q.pu.InRange
  dock   : q.du.pose = m.du.pose
  re     : m.re.SameRun q.re
  opened : q.dp.grant.state.openTo = m.dp.grant.state.openTo

namespace Motion.Alike
variable {m p q : Motion}

theorem of_blocks (hpu : q.pu = m.pu) (hd : q.du.pose = m.du.pose) (hre : q.re = m.re)
    (ho : q.dp.grant.state.openTo = m.dp.grant.state.openTo) : m.Alike q :=
  ⟨fun h => hpu ▸ h, hd, .of_eq hre, ho⟩

theorem refl : m.Alike m := .of_blocks rfl rfl rfl rfl

/-- A change of the run that keeps it the same, and of nothing else. -/
theorem of_re {re : RouteEngine} (h : m.re.SameRun re) : m.Alike { m with re := re } := ⟨fun h => h, rfl, h, rfl⟩

theorem trans (h : m.Alike p) (k : p.Alike q) : m.Alike q :=
  ⟨k.pu ∘ h.pu, k.dock.trans h.dock, h.re.trans k.re, k.opened.trans h.opened⟩

theorem poseIn (h : m.Alike q) (k : m.PoseIn) : q.PoseIn := ⟨h.pu k.1, fun d hd => k.2 d (h.dock ▸ hd)⟩

theorem owned (h : m.Alike q) (k : m.GrantOwned) : q.GrantOwned where
  owner o := by
    obtain ⟨hr, sr, hs, hw⟩ := k.owner (h.opened ▸ o)
    obtain ⟨f, hf, e⟩ := h.re.seg
    exact ⟨h.re.state ▸ hr, f sr, by rw [e, hs]; rfl, (hf sr).1.trans hw⟩
  moves o := h.re.todo.trans (k.moves (h.opened ▸ o))
  pass e := h.re.none (k.pass (h.re.sub ▸ e))
  run hs := h.re.state ▸ k.run (h.re.isSome ▸ hs)
  act ht := h.re.state ▸ k.act (h.re.todo ▸ ht)
  rest ht sr hs := by
    obtain ⟨r, hr, w, -⟩ := h.re.origin hs
    exact w.trans (k.rest (h.re.todo ▸ ht) r hr)
  still sr hs ph := by
    obtain ⟨r, hr, w, p⟩ := h.re.origin hs
    exact w.trans (k.still r hr (p ▸ ph))
  waits sr hs hw := by
    obtain ⟨r, hr, w, -⟩ := h.re.origin hs
    exact h.opened.trans (k.waits r hr (w ▸ hw))
  vet sr hs hw := by
    obtain ⟨r, hr, w, p⟩ := h.re.origin hs
    exact p ▸ k.vet r hr (w ▸ hw)

theorem reacts {env : Env} (h : m.Alike q) : Reacts env m q :=
  ⟨fun _ => h.poseIn, h.re.sound, fun k => (h.owned k).fit⟩

theorem raise (c : Cause) (m : Motion) : m.Alike (m.raise c) := .of_blocks rfl rfl rfl rfl

theorem reachStage (n : Nat) (m : Motion) : m.Alike (m.reachStage n) :=
  .of_re (.of_seg rfl rfl rfl rfl rfl rfl rfl rfl)

theorem setLatch (l : BatteryLatch) (m : Motion) : m.Alike (m.setLatch l) :=
  .of_re (.of_seg rfl rfl rfl rfl rfl rfl rfl rfl)

theorem makeFrame (f : DriveFrame) (m : Motion) : m.Alike (makeFrame f m) := by
  rw [makeFrame_frame]
  exact .of_blocks rfl rfl rfl rfl

theorem trimNudge (turn : Int) (m : Motion) : m.Alike (trimNudge turn m) := by
  unfold Machine.trimNudge
  split
  · exact makeFrame _ _
  · exact refl

theorem trimAmount (a : Int) (m : Motion) : m.Alike (trimAmount a m) := by
  unfold Machine.trimAmount
  split
  · dsimp only
    rw [makeFrame_frame]
    exact .of_blocks rfl rfl rfl rfl
  · exact refl

theorem pieceTrimmed (cell : Option CellIx) (m : Motion) : m.Alike (pieceTrimmed cell m) :=
  .of_re ⟨rfl, rfl, rfl, rfl, rfl, rfl, rfl, _, fun sr => by split <;> exact ⟨rfl, rfl⟩, rfl⟩

theorem tick (m : Motion) : m.Alike m.tick :=
  ⟨fun h => h, rfl,
    ⟨rfl, rfl, rfl, rfl, rfl, rfl, rfl, SegRun.tick, fun sr => by unfold SegRun.tick; split <;> exact ⟨rfl, rfl⟩, rfl⟩,
    rfl⟩

theorem releaseGuard (m : Motion) : m.Alike (releaseGuard m) :=
  .of_blocks (by simp) (by simp) (by simp) (by simp)

theorem judgeClose (env : Env) (m : Motion) : m.Alike (judgeClose env m) := by
  have seen : m.Alike { m with du := { m.du with
      beamSeen := m.du.beamSeen || beamPattern m.du.beacon ≠ .dark, lastPattern := some (beamPattern m.du.beacon) } } :=
    .of_blocks rfl rfl rfl rfl
  unfold Machine.judgeClose
  dsimp only
  split
  · exact seen
  · split
    · exact seen.trans (trimNudge _ _)
    · exact seen.trans (trimNudge _ _)
    · exact seen

end Motion.Alike

/-- A change of the Clearance Unit alone. -/
theorem Motion.Alike.of_cu {m : Motion} (cu : ClearanceUnit) : m.Alike { m with cu := cu } := .of_blocks rfl rfl rfl rfl

/-- What the two invariants read of the part, kept. -/
structure State.Alike (s t : State) : Prop where
  tun : t.tun = s.tun
  mo  : s.mo.Alike t.mo

/-- An operation that keeps both invariants. -/
structure State.Keeps (s t : State) : Prop where
  pose  : s.PoseSound → t.PoseSound
  route : s.mo.re.Sound → t.mo.re.Sound
  grant : s.mo.GrantOwned → t.mo.GrantOwned

theorem State.poseSound_iff (s : State) : s.PoseSound ↔ s.mo.PoseIn ∧ tuningOk s.tun :=
  ⟨fun h => ⟨⟨h.pose, h.dock⟩, h.tuning⟩, fun h => ⟨h.1.1, h.2, h.1.2⟩⟩

namespace State
variable {s q t : State}

theorem Alike.refl : s.Alike s := ⟨rfl, .refl⟩

theorem Alike.trans (h : s.Alike q) (k : q.Alike t) : s.Alike t := ⟨k.tun.trans h.tun, h.mo.trans k.mo⟩

theorem Alike.of_eq (htun : t.tun = s.tun) (h : t.mo = s.mo) : s.Alike t := ⟨htun, h ▸ .refl⟩

theorem Alike.of_mo {m : Motion} (h : s.mo.Alike m) : s.Alike { s with mo := m } := ⟨rfl, h⟩

theorem Alike.keeps (h : s.Alike t) : s.Keeps t where
  pose k := by
    rw [poseSound_iff] at k ⊢
    exact ⟨h.mo.poseIn k.1, by rw [h.tun]; exact k.2⟩
  route := h.mo.re.sound
  grant := h.mo.owned

theorem Keeps.refl : s.Keeps s := ⟨id, id, id⟩

theorem Keeps.trans (h : s.Keeps q) (k : q.Keeps t) : s.Keeps t :=
  ⟨k.pose ∘ h.pose, k.route ∘ h.route, k.grant ∘ h.grant⟩

end State

/-- The fields of a list found in their ranges lie in them. -/
theorem inside_of_firstOutside_eq_none {rs : List (Nat × Nat)} {vs : List Nat} {m n : Nat}
    (h : firstOutside m rs vs = none) {lo hi v : Nat} (hr : rs[n]? = some (lo, hi)) (hv : vs[n]? = some v) :
    lo ≤ v ∧ v ≤ hi := by
  induction rs generalizing vs m n with
  | nil => simp at hr
  | cons r rs ih =>
    cases vs with
    | nil => simp at hv
    | cons w vs =>
      obtain ⟨a, b⟩ := r
      rw [firstOutside] at h
      split at h
      · cases h
      · next inside =>
        cases n with
        | zero =>
          cases hr
          cases hv
          omega
        | succ n => exact ih h hr hv

theorem tuningOk.dockUncertainty_le {t : Tuning} (h : tuningOk t) : t.dockUncertainty ≤ Config.uMax :=
  (inside_of_firstOutside_eq_none h (n := 31) rfl rfl).2.trans (by decide)

theorem tuningOk.slipReports_le {t : Tuning} (h : tuningOk t) : t.slipReports ≤ 15 :=
  (inside_of_firstOutside_eq_none h (n := 19) rfl rfl).2

/-- An event, and the engine's own moves after it. -/
theorem State.Keeps.engine {s q : State} {f : Env → Motion → Motion} (ht : q.tun = s.tun)
    (h : Reacts q.env s.mo (f q.env q.mo)) : s.Keeps (q.engine f) where
  pose k := by
    rw [State.poseSound_iff] at k ⊢
    have hu : q.env.tun.dockUncertainty ≤ Config.uMax := by
      change q.tun.dockUncertainty ≤ _
      rw [ht]
      exact k.2.dockUncertainty_le
    exact ⟨runEngine_keeps _ PoseIn (fun _ => engineMove_poseIn hu) _ _ (h.pose hu k.1), by
      rw [State.engine_tun, ht]; exact k.2⟩
  route k := runEngine_keeps _ (fun m => m.re.Sound) (fun _ => engineMove_sound) _ _ (h.route k)
  grant k := (h.grant k).runEngine 399

end Sys2Proof.Machine
end

section
namespace Sys2Proof.Machine
open Sys2Proof Motion

/-! ## Operations that leave the pose and the run as they are -/

@[simp] theorem startWatch_grant (env : Env) (m : Motion) : (startWatch env m).dp.grant = m.dp.grant := by
  unfold startWatch
  split <;> rfl

/-- A class change reaches the queue, ChangeLost and the Event Unit alone (R25 to R27). -/
theorem State.queueEntry_frame (k : SensedMark) (old new : CellClass) (s : State) :
    s.queueEntry k old new =
      { s with fm := { s.fm with changes := (s.queueEntry k old new).fm.changes
                                 changeLost := (s.queueEntry k old new).fm.changeLost }
               mo := { s.mo with eu := (s.queueEntry k old new).mo.eu } } := by
  unfold State.queueEntry
  split
  · dsimp only
    split <;> rfl
  · rfl

/-- A sensed mark reaches the Floor Map, the Clearance Unit and the Event Unit alone (R3, R25). -/
theorem State.sensedMark_frame (k : SensedMark) (s : State) :
    s.sensedMark k =
      { s with fm := (s.sensedMark k).fm
               mo := { s.mo with cu := (s.sensedMark k).mo.cu, eu := (s.sensedMark k).mo.eu } } := by
  unfold State.sensedMark
  dsimp only
  split
  · rw [State.handChange_frame, State.queueEntry_frame]
  · rw [State.handChange_frame]

theorem State.markIf_frame (k : Option SensedMark) (s : State) :
    s.markIf k =
      { s with fm := (s.markIf k).fm
               mo := { s.mo with cu := (s.markIf k).mo.cu, eu := (s.markIf k).mo.eu } } := by
  cases k with
  | none => rfl
  | some k => exact State.sensedMark_frame k s

namespace State
variable {s q : State}

namespace Alike

theorem wakeWith (c : WakeCause) (l : LineLevels) (s : State) : s.Alike (s.wakeWith c l) :=
  ⟨rfl, .of_blocks (by simp [State.wakeWith]) (by simp [State.wakeWith]) (by simp [State.wakeWith])
    (by simp [State.wakeWith])⟩

theorem wakeIf (b : Bool) (c : WakeCause) (s : State) : s.Alike (s.wakeIf b c) := by
  unfold State.wakeIf
  split
  · exact wakeWith _ _ _
  · exact refl

theorem lineWake (line : SwitchLine) (s : State) : s.Alike (s.lineWake line) := by
  unfold State.lineWake
  split
  · exact wakeWith _ _ _
  · exact refl

theorem takeFrame (s : State) : s.Alike s.takeFrame :=
  .trans (q := { s with pp := { s.pp with slot := none } }) (.of_eq rfl rfl) (wakeIf _ _ _)

theorem fetch (n : Nat) (s : State) : s.Alike (s.fetch n) := .trans (wakeIf true .frame s) (.of_eq rfl rfl)

theorem handChange (held : Bool) (c : CellIx) (old new : CellRec) (s : State) :
    s.Alike (s.handChange held c old new) := by
  rw [State.handChange_frame]
  exact .of_mo (.of_cu _)

theorem changeCell (held : Bool) (c : CellIx) (r : CellRec) (s : State) : s.Alike (s.changeCell held c r) := by
  rw [State.changeCell_frame]
  exact ⟨rfl, .of_cu _⟩

theorem plannerWrite (held : Bool) (c : CellIx) (r : CellRec) (s : State) : s.Alike (s.plannerWrite held c r) := by
  unfold State.plannerWrite
  split
  · exact refl
  · exact changeCell _ _ _ _

theorem markIf (k : Option SensedMark) (s : State) : s.Alike (s.markIf k) := by
  rw [State.markIf_frame]
  exact ⟨rfl, .of_blocks rfl rfl rfl rfl⟩

theorem writeBytes (bs : List Byte) (n : Nat) (s : State) : s.Alike (writeBytes bs n s).1 := by
  induction bs generalizing n s with
  | nil => exact refl
  | cons b bs ih =>
    refine .trans (q := s.writeByte b) ?_ (ih _ _)
    unfold State.writeByte
    dsimp only
    split
    · exact .trans (plannerWrite _ _ _ _) (.of_eq rfl rfl)
    · exact .of_eq rfl rfl

theorem fillStep (s : State) : s.Alike s.fillStep := by
  unfold State.fillStep
  split
  · exact refl
  · exact .trans (plannerWrite _ _ _ _) (.of_eq rfl rfl)

theorem fillSteps (n : Nat) (s : State) : s.Alike (State.fillSteps n s) := by
  induction n generalizing s with
  | zero => exact refl
  | succ n ih => exact .trans (fillStep s) (ih _)

theorem fillEnd (s : State) : s.Alike s.fillEnd := by
  unfold State.fillEnd
  split
  · exact refl
  · exact ⟨rfl, .raise _ _⟩

theorem burnEnd (s : State) : s.Alike s.burnEnd := by
  unfold State.burnEnd
  split
  · split
    · exact ⟨rfl, .raise _ _⟩
    · exact refl
  · exact refl

theorem beginWaiting (s : State) : s.Alike { s with mo := beginWaiting s.env s.mo } := by
  refine .of_mo ?_
  unfold Machine.beginWaiting
  split
  · split
    · exact .refl
    · exact .of_cu _
  · exact .refl

theorem sampleHeld (s : State) : s.Alike { s with mo := sampleHeld s.fm s.mo } := by
  refine .of_mo ?_
  unfold Machine.sampleHeld
  split
  · split
    · exact .refl
    · exact .of_cu _
  · exact .refl

theorem nextFrame (s : State) : s.Alike { s with mo := nextFrame s.mo } := by
  refine .of_mo ?_
  unfold Machine.nextFrame
  split <;> exact .of_blocks rfl rfl rfl rfl

theorem closeJudgement (s : State) : s.Alike s.closeJudgement := by
  unfold State.closeJudgement
  split
  · split
    · exact .of_mo (.judgeClose _ _)
    · exact refl
  · exact refl

theorem selfRelease (d : DriveState) (s : State) : s.Alike (s.selfRelease d) := by
  unfold State.selfRelease
  split
  · exact .of_mo (.releaseGuard _)
  · exact refl

theorem undock (s : State) : s.Alike s.undock :=
  .trans (wakeIf _ _ _) (.of_mo (.of_blocks rfl rfl rfl rfl))

theorem takeLink (s : State) : s.Alike s.takeLink := by
  have watch : s.mo.Alike (startWatch s.env { s.mo with dp := { s.mo.dp with link := .online } }) :=
    .of_blocks (by simp) (by simp) (by simp) (by simp)
  refine .of_mo ?_
  dsimp only
  split
  · exact watch.trans (.raise _ _)
  · exact watch

theorem closeWindow (both : Bool) (w : BumpWindow) (s : State) : s.Alike (s.closeWindow both w) :=
  .trans (q := { s with mo := { s.mo with hg := { s.mo.hg with window := none } } })
    (.of_mo (.of_blocks rfl rfl rfl rfl)) (markIf _ _)

end Alike

/-! ## The guard's trips (R141 to R146) -/

/-- A grant's Stop, or nothing: the same run and pose. -/
theorem tripStop_eased (s : State) : Eased s.mo s.tripStop.mo := by
  unfold tripStop
  split
  · exact Eased.trans (p := s.mo.latch) ⟨rfl, rfl, rfl, id⟩ (eased_askStop .hazard)
  · exact .refl
  · exact .refl

/-- A mark between a Stop and what follows it leaves the same run and pose. -/
theorem markIf_eased (k : Option SensedMark) {m : Motion} (h : Eased m s.mo) : Eased m (s.markIf k).mo := by
  rw [State.markIf_frame]
  exact h.trans ⟨rfl, rfl, rfl, id⟩

theorem Keeps.trip (o : SegOutcome) (k : Option SensedMark) (s : State) : s.Keeps (s.trip o k) := by
  unfold State.trip
  split
  · exact refl
  · refine .trans (.engine (q := s.tripStop.markIf k) (by simp) ?_) (Alike.of_mo (.raise _ _)).keeps
    exact Reacts.tripReported o (markIf_eased k s.tripStop_eased)

theorem Keeps.cliffSample (k : CliffSensor) (level : Byte) (s : State) : s.Keeps (s.cliffSample k level) := by
  have sensed (r : CliffRec) : s.Alike { s with mo := { s.mo with hg := s.mo.hg.setCliff k r } } :=
    .of_mo (.of_blocks rfl rfl rfl rfl)
  unfold State.cliffSample
  split
  · exact refl
  · dsimp only
    split
    · exact (sensed _).keeps.trans (trip _ _ _)
    · exact (sensed _).keeps

theorem Keeps.openWindow (left : Bool) (s : State) : s.Keeps (s.openWindow left) :=
  .trans (q := s.withGuard
      { s.mo.hg with window := some ⟨left, s.mo.pu.x, s.mo.pu.y, s.mo.pu.theta, s.mo.eu.time⟩ })
    (Alike.keeps ⟨rfl, .of_blocks rfl rfl rfl rfl⟩) (trip _ _ _)

theorem Keeps.bumpTrip (left : Bool) (s : State) : s.Keeps (s.bumpTrip left) := by
  unfold State.bumpTrip
  split
  · exact openWindow _ _
  · split
    · exact .trans (Alike.closeWindow _ _ _).keeps (openWindow _ _)
    · split
      · exact refl
      · exact (Alike.closeWindow _ _ _).keeps

theorem Keeps.lineTrip (line : SwitchLine) (s : State) : s.Keeps (s.lineTrip line) := by
  cases line with
  | wl => exact trip _ _ _
  | wr => exact trip _ _ _
  | bl => exact bumpTrip _ _
  | br => exact bumpTrip _ _

theorem Keeps.lineSample (line : SwitchLine) (now : Bool) (s : State) : s.Keeps (s.lineSample line now) := by
  have held : s.Keeps (s.holdLine line now) := Alike.keeps ⟨rfl, .of_blocks rfl rfl rfl rfl⟩
  unfold State.lineSample
  dsimp only
  split
  · split
    · exact held.trans (Alike.lineWake _ _).keeps
    · exact held.trans (lineTrip _ _)
  · exact held

theorem Keeps.windowTimeout (s : State) : s.Keeps s.windowTimeout := by
  unfold State.windowTimeout
  split
  · split
    · exact (Alike.closeWindow _ _ _).keeps
    · exact refl
  · exact refl

/-! ## An accepted report (R119) -/

theorem Keeps.lostTest (s : State) : s.Keeps s.lostTest := by
  unfold State.lostTest
  split
  · exact .engine rfl Reacts.lostIndication
  · exact refl

end State

/-- The slip counter stays below SlipReports (R43). -/
theorem slipTest_le (tun : Tuning) (cal : Calibration) (d : Deltas) (slip : Nat) (h : tun.slipReports ≤ 15) :
    (slipTest tun cal d slip).1 ≤ 15 := by
  unfold slipTest
  split
  · exact Nat.zero_le _
  · split
    · exact Nat.zero_le _
    · split
      · exact Nat.zero_le _
      · next hs => exact (Nat.le_of_lt (Nat.lt_of_not_le hs)).trans h

theorem raiseU_le (u n : Nat) : raiseU u n ≤ Config.uMax := Nat.min_le_left _ _

theorem wrapHeading_lt (n : Int) : wrapHeading n < 65536 := by
  unfold wrapHeading
  omega

/-- The stages end inside the map, with U saturated and the slip counter below SlipReports (R40, R42, R43). -/
theorem PoseUnit.InRange.moved {tun : Tuning} (h : tuningOk tun) (cal : Calibration) (f : Nat) (r : Report)
    (d : Deltas) (pu : PoseUnit) : (pu.moved r d (integrate tun cal f d pu)).InRange where
  x := Nat.min_le_left _ _
  y := Nat.min_le_left _ _
  theta := wrapHeading_lt _
  u := by
    unfold PoseUnit.moved integrate
    dsimp only
    split <;> exact raiseU_le _ _
  centre := rfl
  slip := slipTest_le _ _ _ _ h.slipReports_le

theorem RouteEngine.SameRun.credit (g : GrantRec) (t : Nat) (turn : Int) (re : RouteEngine) :
    re.SameRun (re.credit g t turn) := by
  unfold RouteEngine.credit
  split
  · exact .of_seg rfl rfl rfl rfl rfl rfl rfl rfl
  · exact .of_eq rfl

namespace State
variable {s q : State}

theorem Keeps.integrateReport (r : Report) (d : Deltas) (s : State) : s.Keeps (s.integrateReport r d) where
  pose k := by
    refine ⟨?_, k.tuning, k.dock⟩
    exact PoseUnit.InRange.moved k.tuning _ _ _ _ _
  route k := (RouteEngine.SameRun.credit _ _ _ _).sound k
  grant k := Motion.Alike.owned (m := s.mo) ⟨fun h => h, rfl, RouteEngine.SameRun.credit _ _ _ _, rfl⟩
    (q := { (s.integrateReport r d).mo with pu := s.mo.pu }) k |>.of_same rfl rfl rfl rfl rfl

theorem Keeps.takePose (r : Report) (s : State) : s.Keeps (s.takePose r) := by
  have based : s.Alike (s.withPose (s.mo.pu.baselined r)) :=
    ⟨rfl, fun h => ⟨h.x, h.y, h.theta, h.u, h.centre, Nat.zero_le _⟩, rfl, .of_eq rfl, rfl⟩
  have jumped : s.Alike { s with mo := { s.mo with pu := s.mo.pu.jumped s.tun r, eu := s.mo.eu.raiseJump } } :=
    ⟨rfl, fun h => ⟨h.x, h.y, h.theta, raiseU_le _ _, h.centre, h.slip⟩, rfl, .of_eq rfl, rfl⟩
  unfold State.takePose
  split
  · exact based.keeps
  · dsimp only
    split
    · exact jumped.keeps.trans (lostTest _)
    · exact (integrateReport r _ s).trans ((Alike.wakeIf _ _ _).keeps.trans (lostTest _))

end State
end Sys2Proof.Machine
end

section
namespace Sys2Proof.Machine
open Sys2Proof Motion

namespace State
variable {s q : State}

/-! ## The grant step and the end of a report (R125 to R131, R112) -/

theorem Alike.setMiss (n : Nat) (s : State) : s.Alike { s with mo := s.mo.setMiss n } :=
  ⟨rfl, .of_blocks rfl rfl rfl rfl⟩

theorem Alike.setSettle (n : Nat) (s : State) : s.Alike { s with mo := s.mo.setSettle n } :=
  ⟨rfl, .of_blocks rfl rfl rfl rfl⟩

theorem Keeps.faultGrant (s : State) : s.Keeps s.faultGrant :=
  .engine rfl (Reacts.driveFailure _ (eased_askStop .fault) (askStop_closes _ _))

theorem Keeps.missReport (s : State) : s.Keeps s.missReport := by
  unfold State.missReport
  dsimp only
  split
  · exact (Alike.setMiss _ s).keeps.trans (faultGrant _)
  · exact (Alike.setMiss _ s).keeps

theorem Keeps.stallReport (s : State) : s.Keeps s.stallReport := by
  have eased : Eased s.mo (State.markIf s.stallMark { s with mo := askStop .hazard s.mo }).mo :=
    markIf_eased _ (eased_askStop .hazard)
  refine .engine (by simp) (Reacts.pieceStopped _ _ eased ?_)
  rw [State.markIf_frame]
  exact askStop_closes .hazard s.mo

theorem Keeps.doneReport (s : State) : s.Keeps s.doneReport :=
  .engine rfl (Reacts.pieceDone (eased_endGrant (m := s.mo)) endGrant_closed)

theorem Keeps.activeReport (d : DriveState) (s : State) : s.Keeps (s.activeReport d) := by
  refine .trans (Alike.setMiss 0 s).keeps ?_
  cases d with
  | moving => exact Alike.keeps ⟨rfl, .reachStage _ _⟩
  | done => exact doneReport _
  | stalled => exact stallReport _
  | holding => exact faultGrant _
  | idle => exact faultGrant _

theorem Keeps.settleReport (d : DriveState) (h : s.mo.dp.grant.state = .stopping) : s.Keeps (s.settleReport d) := by
  have waits : s.mo.GrantOwned → ¬s.mo.WaitsFor .grant := fun k ⟨sr, hs, hw⟩ => by
    simpa [h, GrantState.openTo] using k.waits sr hs hw
  unfold State.settleReport
  split
  · exact .engine rfl (Reacts.grantSettled waits)
  · exact .engine rfl (Reacts.grantSettled waits)
  · dsimp only
    split
    · exact (Alike.setSettle _ s).keeps.trans
        (.engine rfl (Reacts.driveFailure _ eased_endGrant endGrant_closed))
    · exact (Alike.setSettle _ s).keeps

theorem Keeps.takeGrant (r : Report) (s : State) : s.Keeps (s.takeGrant r) := by
  unfold State.takeGrant
  split
  · exact refl
  · next h =>
    have echoed : s.Alike { s with mo := (setGrantState .active s.mo).reachStage 2 } :=
      ⟨rfl, .trans (p := setGrantState .active s.mo) (.of_blocks rfl rfl rfl (by rw [h]; rfl)) (.reachStage _ _)⟩
    split
    · exact echoed.keeps.trans (activeReport _ _)
    · exact missReport _
  · split
    · exact activeReport _ _
    · exact missReport _
  · next h => exact settleReport _ h

theorem Keeps.crossing (s : State) : s.Keeps s.crossing := by
  have low (q : State) : q.Alike { q with mo := (q.mo.setLatch .below).raise .batteryLow } :=
    ⟨rfl, (Motion.Alike.setLatch _ _).trans (.raise _ _)⟩
  unfold State.crossing
  dsimp only
  split
  · exact (Alike.wakeIf _ _ s).keeps.trans ((low _).keeps.trans (.engine rfl (Reacts.postList _)))
  · exact (Alike.wakeIf _ _ s).keeps.trans (low _).keeps

theorem Keeps.takeBattery (level : Nat) (s : State) : s.Keeps (s.takeBattery level) := by
  unfold State.takeBattery
  split
  · split
    · exact crossing s
    · exact refl
  · split
    · exact Alike.keeps ⟨rfl, .setLatch _ _⟩
    · exact refl

theorem Keeps.takeReport (r : Report) (s : State) : s.Keeps (s.takeReport r) :=
  (Alike.takeLink s).keeps.trans <| (takePose r _).trans <| (takeGrant r _).trans <|
    (Alike.closeJudgement _).keeps.trans <| (Alike.selfRelease _ _).keeps.trans <| (takeBattery _ _).trans <|
    Alike.keeps ⟨rfl, .of_blocks rfl rfl rfl rfl⟩

theorem Keeps.driveBytes (bytes : List Byte) (s : State) : s.Keeps (s.driveBytes bytes) := by
  have received (dp : DrivePort) (h : dp.grant = s.mo.dp.grant) : s.Keeps { s with mo := { s.mo with dp := dp } } :=
    Alike.keeps ⟨rfl, .of_blocks rfl rfl rfl (by rw [h])⟩
  unfold State.driveBytes
  dsimp only
  split
  · next rest _ => exact (received { s.mo.dp.receive bytes with rx := huntFrame rest } rfl).trans (takeReport _ _)
  · exact received _ rfl

/-- The grant a watch's expiry drops is gone, and nothing else of the run (R131). -/
theorem dropGrant_eased (m : Motion) : Eased m (dropGrant m) := by
  unfold dropGrant
  dsimp only
  split
  · exact ⟨rfl, rfl, rfl, fun _ => rfl⟩
  · rw [makeFrame_frame]
    exact ⟨rfl, rfl, rfl, fun _ => rfl⟩

theorem Keeps.watchExpiry (s : State) : s.Keeps s.watchExpiry := by
  have silent : s.Alike { s with mo := (loseLink .silent s.mo).raise .driveSilent } :=
    ⟨rfl, fun h => ⟨h.x, h.y, h.theta, h.u, h.centre, h.slip⟩, rfl, .of_eq rfl, rfl⟩
  unfold State.watchExpiry
  split
  · dsimp only
    split
    · exact silent.keeps.trans (.engine rfl (Reacts.driveFailure _ (dropGrant_eased _) rfl))
    · exact silent.keeps
  · exact refl

/-! ## The other commands that are no requests -/

theorem Alike.dropFront (rest : List Check) (s : State) : s.Alike { s with mo := s.mo.dropFront rest } :=
  ⟨rfl, .of_cu _⟩

theorem Keeps.checkResult (s : State) : s.Keeps s.checkResult := by
  unfold State.checkResult
  split
  · next rest _ =>
    split
    · exact (Alike.dropFront rest s).keeps.trans (.engine rfl (Reacts.checkHanded _))
    · exact refl
  · exact refl

theorem reacts_recheckHands (env : Env) (sp : Sampling) (cell : CellIx) (m : Motion) :
    Reacts env m (recheckHands env sp cell m) := by
  unfold recheckHands
  split
  · exact Reacts.pieceStopped _ _ (eased_askStop .hazard) (askStop_closes _ _)
  · exact ((Motion.Alike.trimAmount _ m).trans (.pieceTrimmed _ _)).reacts

theorem Keeps.recheckResult (s : State) : s.Keeps s.recheckResult := by
  unfold State.recheckResult
  split
  · next rest _ =>
    split
    · exact refl
    · dsimp only
      split
      · exact (Alike.dropFront rest s).keeps.trans (.engine rfl (reacts_recheckHands _ _ _ _))
      · exact (Alike.dropFront rest s).keeps
  · exact refl

theorem Keeps.contactChange (s : State) : s.Keeps s.contactChange := by
  have flipped : s.Alike { s with mo := { s.mo with du := s.mo.du.flipped } } := ⟨rfl, .of_blocks rfl rfl rfl rfl⟩
  unfold State.contactChange
  split
  · dsimp only
    split
    · exact flipped.keeps.trans (.engine rfl Reacts.contactOn)
    · split
      · exact flipped.keeps.trans (.engine rfl Reacts.contactOffDocking)
      · split
        · exact (flipped.trans (Alike.undock _)).keeps
        · exact flipped.keeps
  · exact refl

theorem Keeps.timerExpiry (s : State) : s.Keeps s.timerExpiry := by
  have stopped : s.Alike { s with mo := { s.mo with eu := { s.mo.eu with timer := .idle } } } :=
    ⟨rfl, .of_blocks rfl rfl rfl rfl⟩
  unfold State.timerExpiry
  split
  · dsimp only
    split
    · exact stopped.keeps.trans (.engine rfl Reacts.passExpired)
    · exact (stopped.trans (Alike.wakeIf _ _ _)).keeps
    · exact refl
  · exact refl

theorem Alike.tick (s : State) : s.Alike s.tick := ⟨rfl, .tick _⟩

/-! ## The resets (R167, R189) -/

theorem poseIn_reset : Motion.reset.PoseIn :=
  ⟨⟨by decide, by decide, by decide, by decide, by decide, by decide⟩, nofun⟩

theorem sound_reset : Motion.reset.re.Sound where
  pool := Memory.wf_nil _
  main := ⟨Nat.le_refl _, Nat.zero_le _, nofun⟩
  priority := ⟨Nat.le_refl _, Nat.zero_le _, nofun⟩
  segment := nofun
  moves h := absurd rfl h

theorem grantOwned_reset : Motion.reset.GrantOwned := owned_of_none rfl rfl fun h => absurd rfl h

theorem tuningOk_reset : tuningOk Config.tuning := by
  unfold tuningOk
  decide

theorem Keeps.powerOn (s : State) : s.Keeps s.powerOn where
  pose _ := ⟨poseIn_reset.1, tuningOk_reset, poseIn_reset.2⟩
  route _ := sound_reset
  grant _ := owned_of_none rfl rfl fun h => absurd rfl h

/-- A soft reset empties no slot and takes no entry from a list. -/
theorem softList_ok {re : RouteEngine} {id : ListId} (time : Word) (h : re.ListOk id) :
    (re.soft time).ListOk id := by
  have entries : ((re.soft time).list id).entries =
      (re.list id).entries.map fun e => { e with desc := e.desc.soft time re.attempt re.altBegun } := by
    cases id <;> rfl
  have pos : ((re.soft time).list id).position = 0 := by cases id <;> rfl
  refine ⟨by rw [pos]; exact Nat.zero_le _, by rw [entries, List.length_map]; exact h.length, fun e he => ?_⟩
  rw [entries] at he
  obtain ⟨e', he', rfl⟩ := List.mem_map.1 he
  exact h.named e' he'

theorem Keeps.softReset (s : State) : s.Keeps s.softReset where
  pose k := ⟨⟨k.pose.x, k.pose.y, k.pose.theta, k.pose.u, k.pose.centre, Nat.zero_le _⟩, k.tuning, k.dock⟩
  route k := ⟨k.pool, softList_ok _ k.main, softList_ok _ k.priority, nofun, fun h => absurd rfl h⟩
  grant _ := owned_of_none rfl rfl fun h => absurd rfl h

end State
end Sys2Proof.Machine
end

section
namespace Sys2Proof.Machine
open Sys2Proof Motion

/-! ## The requests over the pool, the lists and the pose -/

/-- A slot that takes a record, or one that no entry names, leaves every entry naming a record. -/
theorem listOk_setSlot {re : RouteEngine} {id : ListId} {slot : Nat} {seg : Option Segment} (h : re.ListOk id)
    (hw : Memory.wf none re.pool) (hs : seg.isSome = true ∨ (re.list id).names slot = false) :
    (re.setSlot slot seg).ListOk id := by
  have same : (re.setSlot slot seg).list id = re.list id := by cases id <;> rfl
  refine ⟨by rw [same]; exact h.position, by rw [same]; exact h.length, fun e he => ?_⟩
  rw [same] at he
  unfold RouteEngine.slotAt RouteEngine.setSlot
  by_cases k : e.slot = slot
  · rw [k, Memory.read_write_same _ _ _ _ hw.1]
    refine hs.resolve_right fun n => ?_
    simp only [RunList.names, List.any_eq_false] at n
    exact n e he (decide_eq_true k)
  · rw [Memory.read_write_other _ _ _ k]
    exact h.named e he

theorem sound_setSlot {re : RouteEngine} {slot : Nat} {seg : Option Segment} (h : re.Sound)
    (hs : seg.isSome = true ∨ re.main.names slot = false ∧ re.priority.names slot = false) :
    (re.setSlot slot seg).Sound where
  pool := Memory.wf_write _ _ _ _ h.pool
  main := listOk_setSlot h.main h.pool (hs.imp_right And.left)
  priority := listOk_setSlot h.priority h.pool (hs.imp_right And.right)
  segment k := by
    obtain ⟨hr, id, ha, pos⟩ := h.segment k
    have same : (re.setSlot slot seg).list id = re.list id := by cases id <;> rfl
    exact ⟨hr, id, ha, by rw [same]; exact pos⟩
  moves := h.moves

/-- Slot numbers of which none is bad name records. -/
theorem named_of_firstBadSlot {re : RouteEngine} {bs : List Byte} {n : Nat} (h : firstBadSlot re n bs = none) :
    ∀ b ∈ bs, (re.slotAt b.toNat).isSome = true := by
  induction bs generalizing n with
  | nil => nofun
  | cons b bs ih =>
    rw [firstBadSlot] at h
    split at h
    · cases h
    · next ok =>
      intro c hc
      obtain rfl | hc := List.mem_cons.1 hc
      · simpa [Option.isSome_iff_ne_none] using (not_or.1 ok).2
      · exact ih h c hc

/-- A list that runs is engaged (R71). -/
theorem RouteEngine.engaged_of_runs {re : RouteEngine} {id : ListId}
    (hr : re.state = .running ∨ re.state = .draining) (ha : re.active = some id) : re.engaged id = true := by
  obtain hr | hr := hr <;> simp [RouteEngine.engaged, hr, ha]

theorem sound_loadList {re : RouteEngine} {id : ListId} {passes flags : Byte} {slots : List Byte} (h : re.Sound)
    (hlen : slots.length ≤ id.cap) (hn : firstBadSlot re 0 slots = none) (he : re.engaged id = false) :
    (re.setList id (loadedList id passes flags slots)).Sound := by
  have loaded : (re.setList id (loadedList id passes flags slots)).ListOk id := by
    have same : (re.setList id (loadedList id passes flags slots)).list id = loadedList id passes flags slots :=
      list_setList_same _ _ _
    have pool : (re.setList id (loadedList id passes flags slots)).pool = re.pool := by simp
    refine ⟨by rw [same]; exact Nat.zero_le _, by rw [same, loadedList, List.length_map]; exact hlen, fun e k => ?_⟩
    rw [same] at k
    obtain ⟨b, hb, rfl⟩ := List.mem_map.1 k
    rw [RouteEngine.slotAt, pool]
    exact named_of_firstBadSlot hn b hb
  have other {k : ListId} (hk : k ≠ id) (o : re.ListOk k) :
      (re.setList id (loadedList id passes flags slots)).ListOk k :=
    ListOk.congr o (by simp) (list_setList_other _ _ hk)
  have lists (k : ListId) (o : re.ListOk k) : (re.setList id (loadedList id passes flags slots)).ListOk k := by
    by_cases hk : k = id
    · exact hk ▸ loaded
    · exact other hk o
  refine ⟨by simpa using h.pool, lists _ h.main, lists _ h.priority, fun k => ?_, fun k => ?_⟩
  · obtain ⟨hr, j, ha, pos⟩ := h.segment (by simpa using k)
    have hj : j ≠ id := fun e => by
      rw [← e, RouteEngine.engaged_of_runs hr ha] at he
      cases he
    exact ⟨by simpa using hr, j, by simpa using ha, by rw [list_setList_other _ _ hj]; exact pos⟩
  · simpa using h.moves (by simpa using k)

/-- The standoff point and the pose of an accepted SET DOCK POSE lie in the map (R153). -/
theorem dockPose_ok {x y : Word} {theta standoff : Half} (h : dockPoseBad x y theta standoff = none)
    (d sx sy : Nat) : DockPose.Ok ⟨x.toNat, y.toNat, theta.toNat, d, sx, sy⟩ := by
  unfold dockPoseBad at h
  split at h
  · cases h
  · next hx =>
    split at h
    · cases h
    · next hy => exact ⟨Nat.le_of_not_lt hx, Nat.le_of_not_lt hy, theta.isLt⟩

namespace State
variable {s q : State}

theorem Keeps.setRe {re : RouteEngine} (hr : s.mo.re.Sound → re.Sound)
    (hg : s.mo.GrantOwned → Motion.GrantOwned { s.mo with re := re }) : s.Keeps (s.setRe re) :=
  ⟨fun k => ⟨k.pose, k.tuning, k.dock⟩, hr, hg⟩

theorem Keeps.fixPose (x y : Word) (theta : Half) (u : Word) (s : State) :
    s.Keeps (serveFixPose x y theta u s).1 := by
  unfold serveFixPose
  split
  · exact refl
  · next hx =>
    split
    · exact refl
    · next hy =>
      split
      · exact refl
      · next hu =>
        split
        · exact refl
        · have fixed : s.Alike (s.withPose { s.mo.pu with
              x := x.toNat, y := y.toNat, theta := theta.toNat, u := u.toNat,
              centre := cellOf x.toNat y.toNat, slip := 0 }) :=
            ⟨rfl, fun _ => ⟨Nat.le_of_not_lt hx, Nat.le_of_not_lt hy, theta.isLt, Nat.le_of_not_lt hu, rfl,
              Nat.zero_le _⟩, rfl, .of_eq rfl, rfl⟩
          exact fixed.keeps.trans (lostTest _)

theorem Keeps.setDockPose (form : Byte) (x y : Word) (theta standoff : Half) (s : State) :
    s.Keeps (serveSetDockPose form x y theta standoff s).1 := by
  unfold serveSetDockPose
  split
  · unfold serveSetDock
    split
    · exact refl
    · next ok =>
      split
      · exact refl
      · refine ⟨fun k => ⟨k.pose, k.tuning, fun d hd => ?_⟩, id, fun k => k.of_same rfl rfl rfl rfl rfl⟩
        cases hd
        exact dockPose_ok ok _ _ _
  · unfold serveClearDock
    split
    · exact refl
    · split
      · exact refl
      · exact ⟨fun k => ⟨k.pose, k.tuning, nofun⟩, id, fun k => k.of_same rfl rfl rfl rfl rfl⟩
  · exact refl

theorem Keeps.loadSegment (slot : Byte) (f : SegmentFields) (s : State) :
    s.Keeps (serveLoadSegment slot f s).1 := by
  unfold serveLoadSegment
  split
  · exact refl
  · split
    · exact refl
    · split
      · exact refl
      · split
        · exact refl
        · exact setRe (fun h => sound_setSlot h (.inl rfl)) fun h => h.of_same rfl rfl rfl rfl rfl

theorem Keeps.clearSegment (slot : Byte) (s : State) : s.Keeps (serveClearSegment slot s).1 := by
  unfold serveClearSegment
  split
  · exact refl
  · split
    · exact refl
    · next names =>
      refine setRe (fun h => sound_setSlot h (.inr ?_)) fun h => h.of_same rfl rfl rfl rfl rfl
      simpa using names

theorem Keeps.loadList (l n p f : Byte) (slots : List Byte) (s : State) :
    s.Keeps (serveLoadList l n p f slots s).1 := by
  unfold serveLoadList
  split
  · exact refl
  · next id _ =>
    split
    · exact refl
    · next hcap =>
      split
      · exact refl
      · next hlen =>
        split
        · exact refl
        · next hn =>
          split
          · exact refl
          · next he =>
            refine setRe (fun h => sound_loadList h ?_ hn (Bool.eq_false_iff.2 he)) fun h => ?_
            · rw [not_not.1 hlen]
              exact Nat.le_of_not_lt hcap
            · cases id <;> exact h.of_same rfl rfl rfl rfl rfl

theorem Keeps.acknowledge (s : State) : s.Keeps (serveAcknowledge s).1 := by
  unfold serveAcknowledge
  split
  · exact refl
  · next hh =>
    have still : ¬(s.mo.re.state = .running ∨ s.mo.re.state = .draining) := by simp [not_not.1 hh]
    split
    · exact refl
    · refine setRe (fun h => ⟨h.pool, ListOk.congr h.main rfl rfl, ListOk.congr h.priority rfl rfl,
          fun k => absurd (h.segment k).1 still, fun k => absurd (h.moves k) still⟩) fun h => ?_
      refine owned_of_none ?_ (h.closed_of_idle still) fun k => absurd (h.act k) still
      by_contra k
      exact still (h.run (Option.isSome_iff_ne_none.2 k))

theorem Keeps.startRoute (mode : Byte) (s : State) : s.Keeps (serveStartRoute mode s).1 := by
  unfold serveStartRoute
  split
  · exact refl
  · split
    · exact refl
    · next ok =>
      have idle : s.mo.re.state = .idle := by
        by_contra h
        unfold State.startRefusal at ok
        split at ok
        · cases ok
        · cases ok
      exact .engine (f := fun _ m => startMain (mode = 0) m) rfl (Reacts.startMain _ idle)

theorem Keeps.stopRoute (mode : Byte) (s : State) : s.Keeps (serveStopRoute mode s).1 := by
  unfold serveStopRoute
  split
  · exact refl
  · split
    · exact .engine (f := fun env m => Machine.stopRoute env mode.toNat m) rfl (Reacts.stopRoute _)
    · exact refl

theorem Keeps.postPriority (urgent : Byte) (s : State) : s.Keeps (servePostPriority urgent s).1 := by
  unfold servePostPriority
  split
  · exact refl
  · split
    · exact refl
    · exact .engine (f := fun env m => Machine.postPriority (urgent = 1) env m) rfl (Reacts.postPriority _)

theorem Keeps.writeTuning (t : Tuning) (s : State) : s.Keeps (serveWriteTuning t s).1 := by
  unfold serveWriteTuning
  split
  · exact refl
  · next ok => exact ⟨fun k => ⟨k.pose, ok, k.dock⟩, id, id⟩

end State

/-- Closes a request's answer that touches neither the motion blocks nor the tuning block. -/
theorem State.Keeps.of_eq {s t : State} (htun : t.tun = s.tun) (h : t.mo = s.mo) : s.Keeps t :=
  (State.Alike.of_eq htun h).keeps

end Sys2Proof.Machine
end

section
namespace Sys2Proof.Machine
open Sys2Proof Motion

/-! ## Every request, every command, every step -/

namespace State
variable {s t : State}

theorem Keeps.writeCells (cells : List Byte) (s : State) : s.Keeps (serveWriteCells cells s).1 := by
  unfold serveWriteCells
  split
  · exact refl
  · split
    · exact refl
    · split
      · exact refl
      · exact (Alike.writeBytes cells 0 s).keeps.trans (.of_eq rfl rfl)

theorem Keeps.releaseHazard (cx cy cls : Byte) (s : State) : s.Keeps (serveReleaseHazard cx cy cls s).1 := by
  unfold serveReleaseHazard
  split
  · exact refl
  · dsimp only
    split
    · exact refl
    · split
      · exact (Alike.changeCell _ _ _ _).keeps
      · exact refl

theorem Keeps.park (alarm : Byte) (s : State) : s.Keeps (servePark alarm s).1 := by
  have parked : s.mo.Alike (s.mo.park (alarm = 1)) := by
    unfold Motion.park startTimer
    dsimp only
    split
    · split <;> exact .of_blocks rfl rfl rfl rfl
    · exact .of_blocks rfl rfl rfl rfl
  unfold servePark
  split
  · exact refl
  · split
    · exact refl
    · split
      · exact refl
      · exact Alike.keeps ⟨rfl, parked⟩

theorem Keeps.serveSoftReset (s : State) : s.Keeps (serveSoftReset s).1 := by
  unfold Machine.serveSoftReset
  split
  · exact refl
  · exact softReset s

/-- A change of the Event Unit alone keeps both invariants. -/
theorem Keeps.of_eu (eu : EventUnit) (s : State) : s.Keeps { s with mo := { s.mo with eu := eu } } :=
  Alike.keeps ⟨rfl, .of_blocks rfl rfl rfl rfl⟩

theorem Keeps.armWake (a b c : Byte) (s : State) : s.Keeps (serveArmWake a b c s).1 := by
  unfold serveArmWake
  split
  · exact refl
  · split
    · exact refl
    · split
      · exact refl
      · exact of_eu _ s

theorem Keeps.setPassTimer (t : Half) (i r n : Byte) (s : State) : s.Keeps (serveSetPassTimer t i r n s).1 := by
  unfold serveSetPassTimer
  split
  · exact refl
  · split
    · exact refl
    · split
      · exact refl
      · exact of_eu _ s

theorem Keeps.armNotices (set clear : Half) (s : State) : s.Keeps (serveArmNotices set clear s).1 := by
  unfold serveArmNotices
  split
  · exact refl
  · exact of_eu _ s

/-- Every owner keeps both invariants (section 9.3). -/
theorem Keeps.serve (i : Instr) (s : State) : s.Keeps (serve i s).1 := by
  cases i with
  | setWindow xs xe ys ye p xd yd =>
    change s.Keeps (serveSetWindow xs xe ys ye p xd yd s).1
    unfold serveSetWindow
    split
    · exact refl
    · split <;> exact .of_eq rfl rfl
  | setCursor cx cy =>
    change s.Keeps (serveSetCursor cx cy s).1
    unfold serveSetCursor
    repeat' split
    all_goals exact .of_eq rfl rfl
  | writeCells cells => exact writeCells cells s
  | readCells count =>
    change s.Keeps (serveReadCells count s).1
    unfold serveReadCells
    repeat' split
    all_goals exact .of_eq rfl rfl
  | fillWindow cell =>
    change s.Keeps (serveFillWindow cell s).1
    unfold serveFillWindow
    repeat' split
    all_goals exact .of_eq rfl rfl
  | releaseHazard cx cy cls => exact releaseHazard cx cy cls s
  | readSectors start count =>
    change s.Keeps (serveReadSectors start count s).1
    unfold serveReadSectors
    repeat' split
    all_goals exact refl
  | readChanges count =>
    change s.Keeps (serveReadChanges count s).1
    unfold serveReadChanges
    split <;> exact .of_eq rfl rfl
  | fixPose x y theta u => exact fixPose x y theta u s
  | setDockPose f x y theta d => exact setDockPose f x y theta d s
  | loadSegment slot f => exact loadSegment slot f s
  | clearSegment slot => exact clearSegment slot s
  | loadList l n p f slots => exact loadList l n p f slots s
  | readList l =>
    change s.Keeps (serveReadList l s).1
    unfold serveReadList
    split <;> exact refl
  | startRoute mode => exact startRoute mode s
  | stopRoute mode => exact stopRoute mode s
  | postPriority urgent => exact postPriority urgent s
  | acknowledge => exact acknowledge s
  | writeTuning t => exact writeTuning t s
  | writeCalibration c =>
    change s.Keeps (serveWriteCalibration c s).1
    unfold serveWriteCalibration
    repeat' split
    all_goals exact .of_eq rfl rfl
  | burnCalibration =>
    change s.Keeps (serveBurnCalibration s).1
    unfold serveBurnCalibration
    repeat' split
    all_goals exact .of_eq rfl rfl
  | readEvents => exact of_eu _ s
  | armNotices set clear => exact armNotices set clear s
  | armWake a b c => exact armWake a b c s
  | setPassTimer t i r n => exact setPassTimer t i r n s
  | park alarm => exact park alarm s
  | softReset => exact serveSoftReset s
  | _ => exact refl

theorem Keeps.dealWith (f : Frame) {owner : State → Answer} (h : ∀ q : State, q.Keeps (owner q).1) (s : State) :
    s.Keeps (dealWith f owner s).1 := by
  unfold Machine.dealWith
  split
  · exact refl
  · split
    · exact refl
    · exact h s

theorem Keeps.serveFrame (f : Frame) (s : State) : s.Keeps (serveFrame f s).1 := by
  unfold Machine.serveFrame
  split
  · split <;> exact refl
  · exact dealWith f (fun _ => refl) s
  · exact dealWith f (serve _) s

theorem Keeps.misoZeros (n : Nat) (s : State) : s.Keeps (s.misoZeros n) := .of_eq rfl rfl

theorem Keeps.arrive (f : Frame) (s : State) : s.Keeps (s.arrive f) := by
  unfold State.arrive
  split
  · exact .of_eq rfl rfl
  · exact (Alike.takeFrame s).keeps.trans ((serveFrame f _).trans (.of_eq rfl rfl))

theorem Keeps.placeHeld (s : State) : s.Keeps s.placeHeld := by
  unfold State.placeHeld
  split
  · exact refl
  · next r _ =>
    dsimp only
    split
    · exact .of_eq rfl rfl
    · exact .trans (q := { s with pp := { s.pp with slot := some r, serving := none, buffer := none } })
        (.of_eq rfl rfl) (arrive _ _)

theorem Keeps.idle (s : State) : s.Keeps s.idle := by
  unfold State.idle
  split
  · exact placeHeld s
  · exact .engine rfl Reacts.refl

/-- A request's own command: its frame waits, or is taken, served and answered (R165 to R167). -/
theorem Keeps.request {i : Instr} {owner : State → Answer} (ho : ∀ q : State, q.Keeps (owner q).1)
    (h : s.request i owner = .next t) : s.Keeps t := by
  unfold State.request at h
  split at h
  · cases h
    exact refl
  · next f _ =>
    dsimp only at h
    split at h
    · cases h
      exact .of_eq rfl rfl
    · cases h
      exact (misoZeros (3 + f.body.length) s).trans
        ((Alike.takeFrame _).keeps.trans ((dealWith f ho _).trans (.of_eq rfl rfl)))

theorem Keeps.invalidFrame {code : Byte} {length : Half} {body : List Byte}
    (h : execInvalidFrame code length body s = .next t) : s.Keeps t := by
  simp only [execInvalidFrame] at h
  split at h
  · cases h
    exact .of_eq rfl rfl
  · cases h
    exact (misoZeros (3 + body.length) s).trans
      ((Alike.takeFrame _).keeps.trans ((serveFrame _ _).trans (.of_eq rfl rfl)))

theorem Keeps.transactionEnd {bytes : List Byte} (h : execTransactionEnd bytes s = .next t) : s.Keeps t := by
  unfold execTransactionEnd at h
  split at h <;> cases h
  · exact refl
  · exact (Alike.fetch _ s).keeps
  · exact misoZeros _ s
  · exact (misoZeros bytes.length s).trans (arrive _ _)

/-- What a command leaves is known when its next state is. -/
theorem Keeps.of_next {q : State} (h : s.Keeps q) (e : (.next q : Result) = .next t) : s.Keeps t := by
  cases e
  exact h

theorem Keeps.fillDone (s : State) : ∃ q, execFillDone s = .next q ∧ s.Keeps q := by
  unfold execFillDone
  split
  · exact ⟨_, rfl, ((Alike.fillStep s).trans (Alike.fillEnd _)).keeps⟩
  · exact ⟨_, rfl, refl⟩

theorem Keeps.dckSample (level : Bool) (s : State) :
    s.Keeps { s with mo := { s.mo with du := s.mo.du.sampled s.tun.contactDebounce level } } := by
  refine Alike.keeps ⟨rfl, .of_blocks rfl ?_ rfl rfl⟩
  change (s.mo.du.sampled s.tun.contactDebounce level).pose = s.mo.du.pose
  unfold DockUnit.sampled
  split
  · rfl
  · split <;> rfl

/-- The commands that are no requests. -/
theorem Keeps.event {i : Instr} (hf : requestFrame i = none) (h : exec i s = .next t) : s.Keeps t := by
  have beaconed (b : Beacon) : s.Keeps (s.setBeacon b) := Alike.keeps ⟨rfl, .of_blocks rfl rfl rfl rfl⟩
  have port (dp : DrivePort) (e : dp.grant = s.mo.dp.grant) : s.Keeps { s with mo := { s.mo with dp := dp } } :=
    Alike.keeps ⟨rfl, .of_blocks rfl rfl rfl (by rw [e])⟩
  cases i with
  | powerOnReset => exact of_next (powerOn s) h
  | mapSweepProgress count => exact of_next (q := { s with fm := s.fm.sweepSteps count }) (.of_eq rfl rfl) h
  | mapSweepDone =>
    change execMapSweepDone s = .next t at h
    unfold execMapSweepDone at h
    split at h <;> cases h <;> exact .of_eq rfl rfl
  | timeBaseTick => exact of_next (Alike.tick s).keeps h
  | transactionEnd bytes => exact transactionEnd h
  | fetch clocked => exact of_next (Alike.fetch clocked s).keeps h
  | invalidFrame code length body => exact invalidFrame h
  | fillProgress count => exact of_next (Alike.fillSteps _ s).keeps h
  | fillDone =>
    obtain ⟨q, e, k⟩ := Keeps.fillDone s
    exact of_next k (e.symm.trans h)
  | burnDone => exact of_next (Alike.burnEnd s).keeps h
  | checkBegin => exact of_next (Alike.beginWaiting s).keeps h
  | checkSample => exact of_next (Alike.sampleHeld s).keeps h
  | checkResult beacon => exact of_next ((beaconed beacon).trans (checkResult _)) h
  | recheckResult => exact of_next (recheckResult s) h
  | heldGrantRelease =>
    exact of_next (Keeps.engine (f := fun _ m => releaseHeld m) rfl Reacts.releaseHeld) h
  | txFrameDone => exact of_next (Alike.nextFrame s).keeps h
  | rxFrameDiscard bytes => exact of_next (port (s.mo.dp.receive bytes) rfl) h
  | rxGapTimeout => exact of_next (port s.mo.dp.gap rfl) h
  | driveReport bytes beacon => exact of_next ((beaconed beacon).trans (driveBytes bytes _)) h
  | dwellEnd => exact of_next (Keeps.engine (f := fun _ m => endDwell m) rfl Reacts.endDwell) h
  | driveWatchExpiry => exact of_next (watchExpiry s) h
  | cliffSample sensor level => exact of_next (cliffSample sensor level s) h
  | lineSample line asserted => exact of_next (lineSample line asserted s) h
  | bumpWindowTimeout => exact of_next (windowTimeout s) h
  | dckSample asserted => exact of_next (dckSample asserted s) h
  | contactChange => exact of_next (contactChange s) h
  | passTimerReload => exact of_next (of_eu { s.mo.eu with timer := s.mo.eu.timer.takeReload } s) h
  | passTimerExpiry => exact of_next (timerExpiry s) h
  | _ => cases hf

theorem Keeps.exec {i : Instr} (h : exec i s = .next t) : s.Keeps t := by
  cases hf : requestFrame i with
  | none => exact event hf h
  | some f =>
    rw [exec_of_request hf] at h
    exact request (serve i) h

/-- Every step keeps both invariants. -/
theorem Keeps.step (h : step s = .next t) : s.Keeps t := by
  unfold Machine.step at h
  split at h
  · cases h
    exact idle s
  · next i rest _ => exact .trans (q := { s with pending := rest }) (.of_eq rfl rfl) (exec h)

end State

/-- Settles O26: every command moves the pose by a clamp, a saturation or a checked request, and the engine's own
moves by a dock snap alone (`Motion.engineMove_poseIn`). -/
theorem poseStaysInRange : Obligations.PoseStaysInRange := fun _ _ h k => (State.Keeps.step k).pose h

/-- Settles O29: every event leaves the segment waiting for what it has asked for, or with a move to make
(`Motion.Reacts`), and the engine's own moves go on from there (`Motion.Fit.engineMove`). -/
theorem listsAndGrantsStaySound : Obligations.ListsAndGrantsStaySound :=
  ⟨fun _ _ h k => (State.Keeps.step k).route h, fun _ _ h k => (State.Keeps.step k).grant h⟩

end Sys2Proof.Machine
end

section
namespace Sys2Proof.Machine
open Sys2Proof

/-! ## What every owner answers (sections 9.1 and 9.3) -/

/-- An answer that refuses leaves the state it was asked in (R169). -/
def Answer.Fair (s : State) (a : Answer) : Prop := a.1 = s ∨ a.2.refuses = false

@[simp] theorem Answer.fair_same (s : State) (r : Response) : Answer.Fair s (s, r) := .inl rfl
@[simp] theorem Answer.fair_done (s t : State) (body : List Byte) : Answer.Fair s (t, .done body) := .inr rfl
@[simp] theorem Answer.fair_started (s t : State) : Answer.Fair s (t, .started) := .inr rfl

/-- An owner that refuses changes nothing (R169). -/
theorem serve_fair (i : Instr) (s : State) : Answer.Fair s (serve i s) := by
  cases i <;> simp only [serve, Answer.fair_same]
  case setWindow => unfold serveSetWindow; (repeat' split) <;> simp
  case setCursor => unfold serveSetCursor; (repeat' split) <;> simp
  case writeCells => unfold serveWriteCells; (repeat' split) <;> simp
  case readCells => unfold serveReadCells; (repeat' split) <;> simp
  case fillWindow => unfold serveFillWindow; (repeat' split) <;> simp
  case releaseHazard => unfold serveReleaseHazard; dsimp only; (repeat' split) <;> simp
  case readSectors => unfold serveReadSectors; (repeat' split) <;> simp
  case readChanges => unfold serveReadChanges; (repeat' split) <;> simp
  case fixPose => unfold serveFixPose; (repeat' split) <;> simp
  case readPose => simp [serveReadPose]
  case setDockPose => unfold serveSetDockPose serveSetDock serveClearDock; (repeat' split) <;> simp
  case loadSegment => unfold serveLoadSegment; (repeat' split) <;> simp
  case clearSegment => unfold serveClearSegment; (repeat' split) <;> simp
  case loadList => unfold serveLoadList; (repeat' split) <;> simp
  case readList => unfold serveReadList; split <;> simp
  case startRoute => unfold serveStartRoute; (repeat' split) <;> simp
  case stopRoute => unfold serveStopRoute; (repeat' split) <;> simp
  case postPriority => unfold servePostPriority; (repeat' split) <;> simp
  case acknowledge => unfold serveAcknowledge; (repeat' split) <;> simp
  case writeTuning => unfold serveWriteTuning; split <;> simp
  case readTuning => simp [serveReadTuning]
  case writeCalibration => unfold serveWriteCalibration; (repeat' split) <;> simp
  case readCalibration => simp [serveReadCalibration]
  case burnCalibration => unfold serveBurnCalibration; (repeat' split) <;> simp
  case readEvents => simp [serveReadEvents]
  case armNotices => unfold serveArmNotices; split <;> simp
  case armWake => unfold serveArmWake; (repeat' split) <;> simp
  case setPassTimer => unfold serveSetPassTimer; (repeat' split) <;> simp
  case readSense => simp [serveReadSense]
  case park => unfold servePark; (repeat' split) <;> simp
  case softReset => unfold serveSoftReset; split <;> simp

/-- A change of the Planner Port, which no owner reads (R166). -/
def State.withPort (pp : PlannerPort) (s : State) : State := { s with pp := pp }

theorem State.changeCell_withPort (held : Bool) (c : CellIx) (r : CellRec) (pp : PlannerPort) (s : State) :
    (s.withPort pp).changeCell held c r = (s.changeCell held c r).withPort pp := by
  dsimp only [State.changeCell, State.handChange, State.withPort, State.env]
  split <;> rfl

theorem State.plannerWrite_withPort (held : Bool) (c : CellIx) (r : CellRec) (pp : PlannerPort) (s : State) :
    (s.withPort pp).plannerWrite held c r = (s.plannerWrite held c r).withPort pp := by
  unfold State.plannerWrite
  rw [State.changeCell_withPort]
  change (if (s.fm.cellAt c).sensedCliff = true then _ else _) = _
  split <;> rfl

theorem State.writeByte_withPort (b : Byte) (pp : PlannerPort) (s : State) :
    (s.withPort pp).writeByte b = (s.writeByte b).withPort pp := by
  unfold State.writeByte
  split
  · rw [State.plannerWrite_withPort]
    rfl
  · rfl

theorem writeBytes_withPort (pp : PlannerPort) (bs : List Byte) (n : Nat) (s : State) :
    (writeBytes bs n (s.withPort pp)).2 = (writeBytes bs n s).2 := by
  induction bs generalizing n s with
  | nil => rfl
  | cons b bs ih =>
    rw [writeBytes, writeBytes, State.writeByte_withPort, ih]
    rfl

/-- Two answers give one response. -/
def Answer.Alike (a b : Answer) : Prop := a.2 = b.2

theorem Answer.Alike.of_eq {s t : State} {r r' : Response} (h : r = r') : Answer.Alike (s, r) (t, r') := h

theorem Answer.Alike.ite {c c' : Prop} [Decidable c] [Decidable c'] {x x' y y' : Answer} (h : c ↔ c')
    (hx : Answer.Alike x x') (hy : Answer.Alike y y') :
    Answer.Alike (if c then x else y) (if c' then x' else y') := by
  by_cases k : c
  · rwa [if_pos k, if_pos (h.1 k)]
  · rwa [if_neg k, if_neg fun k' => k (h.2 k')]

/-- No owner's response depends on the Planner Port. -/
theorem serve_withPort (i : Instr) (pp : PlannerPort) (s : State) :
    Answer.Alike (serve i (s.withPort pp)) (serve i s) := by
  have same {q t : State} {r : Response} : Answer.Alike (q, r) (t, r) := .of_eq rfl
  cases i with
  | setWindow a b c d e f g =>
    dsimp only [serve, serveSetWindow]
    split
    · exact same
    · exact .ite .rfl same same
  | setCursor a b => exact .ite .rfl same (.ite .rfl same (.ite .rfl same same))
  | writeCells cells =>
    dsimp only [serve, serveWriteCells]
    rw [writeBytes_withPort]
    refine .ite .rfl same ?_
    split
    · exact same
    · exact .ite .rfl same same
  | readCells n => exact .ite .rfl same (.ite .rfl same same)
  | fillWindow b =>
    dsimp only [serve, serveFillWindow]
    split
    · exact same
    · exact .ite .rfl same same
  | releaseHazard a b c =>
    dsimp only [serve, serveReleaseHazard]
    split
    · exact same
    · exact .ite .rfl same (.ite .rfl same same)
  | readSectors a b => exact .ite .rfl same (.ite .rfl same same)
  | readChanges n => exact .ite .rfl same same
  | fixPose x y t u => exact .ite .rfl same (.ite .rfl same (.ite .rfl same (.ite .rfl same same)))
  | setDockPose f x y t d =>
    dsimp only [serve, serveSetDockPose, serveSetDock, serveClearDock]
    split
    · split
      · exact same
      · exact .ite .rfl same same
    · exact .ite .rfl same (.ite .rfl same same)
    · exact same
  | loadSegment slot f =>
    dsimp only [serve, serveLoadSegment]
    refine .ite .rfl same ?_
    split
    · exact same
    · split
      · exact same
      · exact .ite .rfl same same
  | clearSegment slot => exact .ite .rfl same (.ite .rfl same same)
  | loadList l n p f slots =>
    dsimp only [serve, serveLoadList, State.withPort]
    split
    · exact same
    · refine .ite .rfl same (.ite .rfl same ?_)
      split
      · exact same
      · exact .ite .rfl same same
  | readList l =>
    dsimp only [serve, serveReadList]
    split
    · exact same
    · exact same
  | startRoute m =>
    have refusal : (s.withPort pp).startRefusal = s.startRefusal := rfl
    dsimp only [serve, serveStartRoute]
    rw [refusal]
    refine .ite .rfl same ?_
    split
    · exact same
    · exact same
  | stopRoute m => exact .ite .rfl same (.ite .rfl same same)
  | postPriority u =>
    dsimp only [serve, servePostPriority, State.withPort]
    refine .ite .rfl same ?_
    split
    · exact same
    · exact same
  | acknowledge => exact .ite .rfl same (.ite .rfl same same)
  | writeTuning t =>
    dsimp only [serve, serveWriteTuning]
    split
    · exact same
    · exact same
  | writeCalibration c =>
    dsimp only [serve, serveWriteCalibration]
    split
    · exact same
    · exact .ite .rfl same same
  | burnCalibration =>
    dsimp only [serve, serveBurnCalibration, State.withPort]
    refine .ite .rfl same (.ite .rfl same ?_)
    split
    · exact same
    · exact same
  | armNotices a b => exact .ite .rfl same same
  | armWake a b c => exact .ite .rfl same (.ite .rfl same (.ite .rfl same same))
  | setPassTimer t i r n => exact .ite .rfl same (.ite .rfl same (.ite .rfl same same))
  | park a => exact .ite .rfl same (.ite .rfl same (.ite .rfl same same))
  | softReset => exact .ite .rfl same same
  | _ => exact same

/-- Settles O3. -/
theorem refusedRequestsChangeNothing : Obligations.RefusedRequestsChangeNothing := by
  intro i f s hs hf hb hr
  have same (q : State) (h : (serve i q).2.refuses = true) : (serve i q).1 = q :=
    (serve_fair i q).resolve_right (by simp [h])
  have response : (serve i (s.taken (3 + f.body.length))).2 = (serve i s).2 := serve_withPort i _ s
  refine ⟨same s hr, exec_answers_same hs hf hb rfl (Prod.ext ?_ response)⟩
  exact same _ (by rw [response]; exact hr)

end Sys2Proof.Machine
end

section
namespace Sys2Proof.Machine
open Sys2Proof

/-! ## Frames and what they carry (sections 12.1 and 12.6) -/

theorem getLsbD_half (a b : Byte) (i : Nat) : (half a b).getLsbD i = if i < 8 then a.getLsbD i else b.getLsbD (i - 8) :=
  BitVec.getLsbD_append

theorem getLsbD_word (a b c d : Byte) (i : Nat) :
    (word a b c d).getLsbD i = if i < 8 then a.getLsbD i else if i - 8 < 8 then b.getLsbD (i - 8)
      else if i - 16 < 8 then c.getLsbD (i - 16) else d.getLsbD (i - 24) := by
  refine (BitVec.getLsbD_append (x := d ++ c ++ b) (y := a)).trans ?_
  rw [BitVec.getLsbD_append, BitVec.getLsbD_append]
  simp only [Nat.sub_sub]

@[simp] theorem half_halfBytes (w : Half) : half (w.extractLsb' 0 8) (w.extractLsb' 8 8) = w := by
  refine BitVec.eq_of_getLsbD_eq fun i hi => ?_
  simp only [getLsbD_half, BitVec.getLsbD_extractLsb']
  grind

@[simp] theorem word_wordBytes (w : Word) :
    word (w.extractLsb' 0 8) (w.extractLsb' 8 8) (w.extractLsb' 16 8) (w.extractLsb' 24 8) = w := by
  refine BitVec.eq_of_getLsbD_eq fun i hi => ?_
  simp only [getLsbD_word, BitVec.getLsbD_extractLsb']
  grind

@[simp] theorem halfBytes_half (a b : Byte) : halfBytes (half a b) = [a, b] := by
  have lo : (half a b).extractLsb' 0 8 = a := BitVec.eq_of_getLsbD_eq fun i hi => by
    simp [getLsbD_half, hi]
  have hi : (half a b).extractLsb' 8 8 = b := BitVec.eq_of_getLsbD_eq fun i hi => by
    simp [getLsbD_half, hi]
  rw [halfBytes, lo, hi]

@[simp] theorem wordBytes_word (a b c d : Byte) : wordBytes (word a b c d) = [a, b, c, d] := by
  have b0 : (word a b c d).extractLsb' 0 8 = a := BitVec.eq_of_getLsbD_eq fun i hi => by
    simp [getLsbD_word, hi]
  have b1 : (word a b c d).extractLsb' 8 8 = b := BitVec.eq_of_getLsbD_eq fun i hi => by
    simp [getLsbD_word, hi]
  have b2 : (word a b c d).extractLsb' 16 8 = c := BitVec.eq_of_getLsbD_eq fun i hi => by
    simp only [BitVec.getLsbD_extractLsb', getLsbD_word]
    grind
  have b3 : (word a b c d).extractLsb' 24 8 = d := BitVec.eq_of_getLsbD_eq fun i hi => by
    simp only [BitVec.getLsbD_extractLsb', getLsbD_word]
    grind
  rw [wordBytes, b0, b1, b2, b3]

/-- The number of some bytes, as that many bytes, is those bytes. -/
theorem leBytes_leValue (bs : List Byte) : leBytes bs.length (leValue bs) = bs := by
  induction bs with
  | nil => rfl
  | cons b bs ih =>
    have low : byte (b.toNat + 256 * leValue bs) = b := by
      apply BitVec.eq_of_toNat_eq
      simp [byte]
      omega
    have high : (b.toNat + 256 * leValue bs) / 256 = leValue bs := by omega
    rw [List.length_cons, leValue, leBytes, low, high, ih]

/-- What a body's fields are read as has that body. -/
theorem fieldBytes_of_readFields {ws : List Nat} {bs : List Byte} {vs : List Nat}
    (h : readFields ws bs = some vs) : fieldBytes ws vs = bs := by
  induction ws generalizing bs vs with
  | nil =>
    cases bs with
    | nil => cases h; rfl
    | cons => cases h
  | cons w ws ih =>
    rw [readFields] at h
    split at h
    · cases h
    · next hlen =>
      obtain ⟨us, hus, rfl⟩ := Option.map_eq_some_iff.1 h
      have len : (bs.take w).length = w := List.length_take_of_le (Nat.le_of_not_lt hlen)
      have head : leBytes w (leValue (bs.take w)) = bs.take w := by
        have := leBytes_leValue (bs.take w)
        rwa [len] at this
      have rest : fieldBytes ws us = bs.drop w := ih hus
      unfold fieldBytes at rest ⊢
      rw [List.zipWith_cons_cons, List.flatten_cons, rest, head, List.take_append_drop]

/-! ### The signed fields of a calibration record -/

theorem signed16_wrapped {n : Int} (lo : -32768 ≤ n) (hi : n ≤ 32767) : signed16 (n % 65536).toNat = n := by
  unfold signed16
  split <;> omega

theorem signedBytes_signed16 (n : Nat) : signedBytes (signed16 n) = leBytes 2 n := by
  have same : (signed16 n % 65536).toNat = n % 65536 := by
    unfold signed16
    split <;> omega
  have byteMod (k : Nat) : byte (k % 65536) = byte k := by
    apply BitVec.eq_of_toNat_eq
    simp only [byte, BitVec.toNat_ofNat]
    omega
  have high : byte (n % 65536 / 256) = byte (n / 256) := by
    apply BitVec.eq_of_toNat_eq
    simp only [byte, BitVec.toNat_ofNat]
    omega
  simp only [signedBytes, same, leBytes, byteMod, high]

/-- The fields of a calibration body as numbers, the offsets in two's complement (section 12.4). -/
def calibrationFields (c : Calibration) : List Nat :=
  [c.tickScale, c.wheelBase, c.robotRadius, (c.flF % 65536).toNat, (c.flL % 65536).toNat, (c.frF % 65536).toNat,
   (c.frL % 65536).toNat, (c.slF % 65536).toNat, (c.slL % 65536).toNat, (c.srF % 65536).toNat,
   (c.srL % 65536).toNat]

theorem calibrationBytes_eq (c : Calibration) : calibrationBytes c = fieldBytes calibrationWidths (calibrationFields c) :=
  rfl

theorem parse_calibrationBytes {c : Calibration} (h : c.carried = true) :
    parseWriteCalibration (calibrationBytes c) = .request (.writeCalibration c) := by
  obtain ⟨t, w, r, a, b, d, e, f, g, k, l⟩ := c
  simp only [Calibration.carried, fits, List.all_cons, List.all_nil, fitsOffset, Bool.and_eq_true,
    decide_eq_true_eq, and_true] at h
  obtain ⟨⟨ht, hw, hr⟩, ha, hb, hd, he, hf, hg, hk, hl⟩ := h
  have wrapped (n : Int) : (n % 65536).toNat < 256 ^ 2 := by omega
  have fit : fits calibrationWidths (calibrationFields ⟨t, w, r, a, b, d, e, f, g, k, l⟩) = true := by
    simp only [calibrationWidths, calibrationFields, fits, wrapped, ht, hw, hr, decide_true, Bool.and_self]
  have back : calibrationOfList (calibrationFields ⟨t, w, r, a, b, d, e, f, g, k, l⟩) =
      some ⟨t, w, r, a, b, d, e, f, g, k, l⟩ := by
    simp only [calibrationFields, calibrationOfList, signed16_wrapped, ha, hb, hd, he, hf, hg, hk, hl]
  rw [parseWriteCalibration, calibrationBytes_eq, readFields_fieldBytes fit, Option.bind_some, back]

/-- What is read as a calibration record has that body. -/
theorem calibrationBytes_of_parse {body : List Byte} {c : Calibration}
    (h : (readFields calibrationWidths body).bind calibrationOfList = some c) : calibrationBytes c = body := by
  obtain ⟨vs, hvs, hc⟩ := Option.bind_eq_some_iff.1 h
  have whole := fieldBytes_of_readFields hvs
  unfold calibrationOfList at hc
  split at hc
  · cases hc
    rw [← whole]
    simp only [calibrationBytes, signedBytes_signed16]
    rfl
  · cases hc

theorem parse_tuningBytes {t : Tuning} (h : fits tuningWidths (tuningList t) = true) :
    parseWriteTuning (tuningBytes t) = .request (.writeTuning t) := by
  have back : tuningOfList (tuningList t) = some t := rfl
  rw [parseWriteTuning, tuningBytes, readFields_fieldBytes h, Option.bind_some, back]

theorem tuningBytes_of_parse {body : List Byte} {t : Tuning}
    (h : (readFields tuningWidths body).bind tuningOfList = some t) : tuningBytes t = body := by
  obtain ⟨vs, hvs, ht⟩ := Option.bind_eq_some_iff.1 h
  have whole := fieldBytes_of_readFields hvs
  unfold tuningOfList at ht
  split at ht
  · cases ht
    exact whole
  · cases ht

/-! ### Requests read back from their frames, and frames from what they are read as -/

theorem parse_segmentBytes (slot : Byte) (f : SegmentFields) :
    parseLoadSegment (slot :: segmentBytes f) = .request (.loadSegment slot f) := by
  change Parsed.request (.loadSegment slot
    ⟨f.kind, word _ _ _ _, word _ _ _ _, f.headingPresent, half _ _, half _ _, half _ _, f.flags, f.retries,
      half _ _, f.altPresent, word _ _ _ _, word _ _ _ _⟩) = _
  simp only [word_wordBytes, half_halfBytes]

theorem parse_fixPoseBytes (x y : Word) (t : Half) (u : Word) :
    parseFixPose (wordBytes x ++ wordBytes y ++ halfBytes t ++ wordBytes u) = .request (.fixPose x y t u) := by
  change Parsed.request (.fixPose (word _ _ _ _) (word _ _ _ _) (half _ _) (word _ _ _ _)) = _
  simp only [word_wordBytes, half_halfBytes]

theorem parse_dockPoseBytes (f : Byte) (x y : Word) (t d : Half) :
    parseSetDockPose ([f] ++ wordBytes x ++ wordBytes y ++ halfBytes t ++ halfBytes d) =
      .request (.setDockPose f x y t d) := by
  change Parsed.request (.setDockPose f (word _ _ _ _) (word _ _ _ _) (half _ _) (half _ _)) = _
  simp only [word_wordBytes, half_halfBytes]

theorem parse_countBytes (n : Half) : parseReadCells (halfBytes n) = .request (.readCells n) :=
  congrArg (fun w => Parsed.request (.readCells w)) (half_halfBytes n)

theorem parse_noticeBytes (a b : Half) : parseArmNotices (halfBytes a ++ halfBytes b) = .request (.armNotices a b) := by
  change Parsed.request (.armNotices (half _ _) (half _ _)) = _
  simp only [half_halfBytes]

theorem parse_timerBytes (t : Half) (i r n : Byte) :
    parseSetPassTimer (halfBytes t ++ [i, r, n]) = .request (.setPassTimer t i r n) :=
  congrArg (fun w => Parsed.request (.setPassTimer w i r n)) (half_halfBytes t)

/-- A well-formed request is read back from its frame, every field at every value. -/
theorem parseRequest_frame {i : Instr} {f : Frame} (hw : i.wf = true) (hf : requestFrame i = some f) :
    parseRequest f.code f.body = .request i := by
  have read (c : Byte) (p : List Byte → Parsed) (h : ∀ body, parseRequest c body = p body := by exact fun _ => rfl)
    {body : List Byte} : parseRequest c body = p body := h body
  cases i with
  | writeTuning t => cases hf; exact (read 0x40 parseWriteTuning).trans (parse_tuningBytes hw)
  | writeCalibration c => cases hf; exact (read 0x42 parseWriteCalibration).trans (parse_calibrationBytes hw)
  | fixPose x y t u => cases hf; exact (read 0x20 parseFixPose).trans (parse_fixPoseBytes x y t u)
  | setDockPose f x y t d => cases hf; exact (read 0x22 parseSetDockPose).trans (parse_dockPoseBytes f x y t d)
  | loadSegment slot f => cases hf; exact (read 0x30 parseLoadSegment).trans (parse_segmentBytes slot f)
  | readCells n => cases hf; exact (read 0x13 parseReadCells).trans (parse_countBytes n)
  | armNotices a b => cases hf; exact (read 0x51 parseArmNotices).trans (parse_noticeBytes a b)
  | setPassTimer t i r n => cases hf; exact (read 0x53 parseSetPassTimer).trans (parse_timerBytes t i r n)
  | _ => cases hf <;> rfl

/-- The frame of a request has a code of its own, and a body of its own length, of at most 1024 bytes when the
request can be sent (R164). -/
theorem requestFrame_form {i : Instr} {f : Frame} (hf : requestFrame i = some f) :
    ∃ code body, f = .mk' code body ∧ code ≠ 0 ∧ (i.wf = true → body.length ≤ 1024) := by
  cases i <;> cases hf <;> refine ⟨_, _, rfl, by decide, fun hw => ?_⟩
  case writeCells cells => simpa [Instr.wf] using hw
  case loadList l n p f slots =>
    have : slots.length ≤ 1020 := by simpa [Instr.wf] using hw
    simp only [List.length_append, List.length_cons, List.length_nil]
    omega
  all_goals exact Nat.le_of_ble_eq_true rfl

theorem badEnvelope_of_wf {i : Instr} {f : Frame} (hw : i.wf = true) (hf : requestFrame i = some f) :
    f.badEnvelope = false := by
  obtain ⟨code, body, rfl, -, len⟩ := requestFrame_form hf
  exact Frame.mk'_envelope code body (len hw)

/-! ### What a body is read as has that body -/

section parse
variable {i : Instr} {body : List Byte}

theorem frame_parseEmpty {j : Instr} {c : Byte} (hj : requestFrame j = some (.mk' c []))
    (h : parseEmpty j body = .request i) : requestFrame i = some (.mk' c body) := by
  unfold parseEmpty at h
  split at h <;> cases h
  exact hj

theorem frame_parseOne {j : Byte → Instr} {c : Byte} (hj : ∀ a, requestFrame (j a) = some (.mk' c [a]))
    (h : parseOne j body = .request i) : requestFrame i = some (.mk' c body) := by
  unfold parseOne at h
  split at h <;> cases h
  exact hj _

theorem frame_parseTwo {j : Byte → Byte → Instr} {c : Byte} (hj : ∀ a b, requestFrame (j a b) = some (.mk' c [a, b]))
    (h : parseTwo j body = .request i) : requestFrame i = some (.mk' c body) := by
  unfold parseTwo at h
  split at h <;> cases h
  exact hj _ _

theorem frame_parseThree {j : Byte → Byte → Byte → Instr} {k : Byte}
    (hj : ∀ a b c, requestFrame (j a b c) = some (.mk' k [a, b, c])) (h : parseThree j body = .request i) :
    requestFrame i = some (.mk' k body) := by
  unfold parseThree at h
  split at h <;> cases h
  exact hj _ _ _

theorem frame_parseSetWindow (h : parseSetWindow body = .request i) : requestFrame i = some (.mk' 0x10 body) := by
  unfold parseSetWindow at h
  split at h <;> cases h
  rfl

theorem frame_parseReadCells (h : parseReadCells body = .request i) : requestFrame i = some (.mk' 0x13 body) := by
  unfold parseReadCells at h
  split at h <;> cases h
  rw [requestFrame, halfBytes_half]

theorem frame_parseFixPose (h : parseFixPose body = .request i) : requestFrame i = some (.mk' 0x20 body) := by
  unfold parseFixPose at h
  split at h <;> cases h
  simp only [requestFrame, wordBytes_word, halfBytes_half]
  rfl

theorem frame_parseSetDockPose (h : parseSetDockPose body = .request i) :
    requestFrame i = some (.mk' 0x22 body) := by
  unfold parseSetDockPose at h
  split at h <;> cases h
  simp only [requestFrame, wordBytes_word, halfBytes_half]
  rfl

theorem frame_parseLoadSegment (h : parseLoadSegment body = .request i) :
    requestFrame i = some (.mk' 0x30 body) := by
  unfold parseLoadSegment at h
  split at h <;> cases h
  simp only [requestFrame, segmentBytes, wordBytes_word, halfBytes_half]
  rfl

theorem frame_parseLoadList (h : parseLoadList body = .request i) : requestFrame i = some (.mk' 0x32 body) := by
  unfold parseLoadList at h
  split at h <;> cases h
  rfl

theorem frame_parseWriteTuning (h : parseWriteTuning body = .request i) :
    requestFrame i = some (.mk' 0x40 body) := by
  unfold parseWriteTuning at h
  split at h <;> cases h
  next ht => rw [requestFrame, tuningBytes_of_parse ht]

theorem frame_parseWriteCalibration (h : parseWriteCalibration body = .request i) :
    requestFrame i = some (.mk' 0x42 body) := by
  unfold parseWriteCalibration at h
  split at h <;> cases h
  next hc => rw [requestFrame, calibrationBytes_of_parse hc]

theorem frame_parseArmNotices (h : parseArmNotices body = .request i) : requestFrame i = some (.mk' 0x51 body) := by
  unfold parseArmNotices at h
  split at h <;> cases h
  simp only [requestFrame, halfBytes_half]
  rfl

theorem frame_parseSetPassTimer (h : parseSetPassTimer body = .request i) :
    requestFrame i = some (.mk' 0x53 body) := by
  unfold parseSetPassTimer at h
  split at h <;> cases h
  simp only [requestFrame, halfBytes_half]
  rfl

/-- What a code and a body are read as has that code and that body. -/
theorem frame_parseRequest {code : Byte} (h : parseRequest code body = .request i) :
    requestFrame i = some (.mk' code body) := by
  have codeIs (c : Byte) (e : code.toNat = c.toNat) : code = c := BitVec.eq_of_toNat_eq e
  unfold parseRequest at h
  split at h
  · next e => rw [codeIs 0x10 e]; exact frame_parseSetWindow h
  · next e => rw [codeIs 0x11 e]; exact frame_parseTwo (fun _ _ => rfl) h
  · next e => rw [codeIs 0x12 e]; cases h; rfl
  · next e => rw [codeIs 0x13 e]; exact frame_parseReadCells h
  · next e => rw [codeIs 0x14 e]; exact frame_parseOne (fun _ => rfl) h
  · next e => rw [codeIs 0x15 e]; exact frame_parseThree (fun _ _ _ => rfl) h
  · next e => rw [codeIs 0x16 e]; exact frame_parseTwo (fun _ _ => rfl) h
  · next e => rw [codeIs 0x17 e]; exact frame_parseOne (fun _ => rfl) h
  · next e => rw [codeIs 0x20 e]; exact frame_parseFixPose h
  · next e => rw [codeIs 0x21 e]; exact frame_parseEmpty rfl h
  · next e => rw [codeIs 0x22 e]; exact frame_parseSetDockPose h
  · next e => rw [codeIs 0x30 e]; exact frame_parseLoadSegment h
  · next e => rw [codeIs 0x31 e]; exact frame_parseOne (fun _ => rfl) h
  · next e => rw [codeIs 0x32 e]; exact frame_parseLoadList h
  · next e => rw [codeIs 0x33 e]; exact frame_parseOne (fun _ => rfl) h
  · next e => rw [codeIs 0x34 e]; exact frame_parseOne (fun _ => rfl) h
  · next e => rw [codeIs 0x35 e]; exact frame_parseOne (fun _ => rfl) h
  · next e => rw [codeIs 0x36 e]; exact frame_parseOne (fun _ => rfl) h
  · next e => rw [codeIs 0x37 e]; exact frame_parseEmpty rfl h
  · next e => rw [codeIs 0x40 e]; exact frame_parseWriteTuning h
  · next e => rw [codeIs 0x41 e]; exact frame_parseEmpty rfl h
  · next e => rw [codeIs 0x42 e]; exact frame_parseWriteCalibration h
  · next e => rw [codeIs 0x43 e]; exact frame_parseEmpty rfl h
  · next e => rw [codeIs 0x44 e]; exact frame_parseEmpty rfl h
  · next e => rw [codeIs 0x50 e]; exact frame_parseEmpty rfl h
  · next e => rw [codeIs 0x51 e]; exact frame_parseArmNotices h
  · next e => rw [codeIs 0x52 e]; exact frame_parseThree (fun _ _ _ => rfl) h
  · next e => rw [codeIs 0x53 e]; exact frame_parseSetPassTimer h
  · next e => rw [codeIs 0x54 e]; exact frame_parseEmpty rfl h
  · next e => rw [codeIs 0x55 e]; exact frame_parseOne (fun _ => rfl) h
  · next e => rw [codeIs 0x56 e]; exact frame_parseEmpty rfl h
  · cases h

end parse

/-! ### Reports (R117, R118, R191) -/

theorem reportOfBody_body (r : Report) : reportOfBody r.body = some r := by
  obtain ⟨seq, restart, left, right, yaw, drive, echo, battery⟩ := r
  change (DriveState.ofCode (byte drive.code).toNat).map
    (fun d => (⟨seq, (flagByte restart).getLsbD 0, half _ _, half _ _, half _ _, d, echo, battery⟩ : Report)) = _
  have flag : (flagByte restart).getLsbD 0 = restart := by cases restart <;> rfl
  have state : DriveState.ofCode (byte drive.code).toNat = some drive := by cases drive <;> rfl
  simp only [flag, state, half_halfBytes, Option.map_some]

theorem Report.body_length (r : Report) : r.body.length = 11 := rfl

theorem judgeFrame_of_crc {r : Report} {w : List Byte} (tail : w.take 11 = r.body) (len : ¬w.length < 12)
    (crc : w[11]? = some (crc8 (byte 1 :: byte 11 :: r.body))) : judgeFrame (byte 1 :: byte 11 :: w) = .whole r := by
  change (if byte 1 ≠ 0x01 then RxJudge.bad else _) = _
  rw [if_neg (by decide), if_neg len, tail, if_pos crc, reportOfBody_body]
  rfl

theorem judgeFrame_frame (r : Report) (rest : List Byte) :
    judgeFrame (byte 1 :: byte 11 :: r.body ++ [crc8 (byte 1 :: byte 11 :: r.body)] ++ rest) = .whole r := by
  have tail : (r.body ++ [crc8 (byte 1 :: byte 11 :: r.body)] ++ rest).take 11 = r.body := by
    rw [List.append_assoc, List.take_append_of_le_length (by rw [r.body_length]), List.take_of_length_le (by rw [r.body_length])]
  have len : ¬(r.body ++ [crc8 (byte 1 :: byte 11 :: r.body)] ++ rest).length < 12 := by
    simp only [List.length_append, r.body_length, List.length_singleton]
    omega
  exact judgeFrame_of_crc tail len rfl

/-- A report's frame is received whole, with the bytes after its CRC left over. -/
theorem takeFrame_frame (r : Report) (rest : List Byte) : takeFrame (huntFrame (r.frame ++ rest)) = some (r, rest) := by
  have form : r.frame ++ rest =
      0xC3 :: (byte 1 :: byte 11 :: r.body ++ [crc8 (byte 1 :: byte 11 :: r.body)] ++ rest) := rfl
  have left : (byte 1 :: byte 11 :: r.body ++ [crc8 (byte 1 :: byte 11 :: r.body)] ++ rest).drop 14 = rest := rfl
  rw [form, huntFrame, if_pos rfl, judgeFrame_frame]
  dsimp only
  rw [takeFrame, judgeFrame_frame]
  dsimp only
  rw [left]

/-- Settles O4. -/
theorem framesRoundTrip : Obligations.FramesRoundTrip :=
  ⟨fun _ _ hw hf => ⟨parseRequest_frame hw hf, badEnvelope_of_wf hw hf⟩, fun _ _ _ h => frame_parseRequest h,
    takeFrame_frame⟩

end Sys2Proof.Machine
end

section
namespace Sys2Proof.Machine
open Sys2Proof

/-! ## The step, the time base and the reset -/

/-- Settles O1. -/
theorem stepRunsTheFrontCommand : Obligations.StepRunsTheFrontCommand := fun _ _ _ => rfl

theorem TimerRun.tick_of_stopped {t : TimerRun} (h : t.state = .stopped ∨ t.count = 0) : t.tick = t := if_pos h

theorem TimerRun.tick_of_running {t : TimerRun} (run : t.state ≠ .stopped) (left : 0 < t.count) :
    t.tick = if t.ms + 1 < t.tickBase then { t with ms := t.ms + 1 } else { t with ms := 0, count := t.count - 1 } := by
  have going : ¬(t.state = .stopped ∨ t.count = 0) := by
    rintro (h | h)
    · exact run h
    · omega
  rw [TimerRun.tick, if_neg going]
  by_cases early : t.ms + 1 < t.tickBase
  · rw [if_neg (by omega), if_pos early]
  · rw [if_pos (by omega), if_neg early]

theorem SegRun.tick_eq (sr : SegRun) :
    sr.tick = { sr with dwellLeft := if sr.phase = .dwell then sr.dwellLeft - 1 else sr.dwellLeft } := by
  unfold SegRun.tick
  split <;> rfl

/-- Settles O55. -/
theorem tickCountsAMillisecond : Obligations.TickCountsAMillisecond := by
  refine fun s => ⟨s.tick, rfl, BitVec.toNat_add s.mo.eu.time 1, fun w h => ?_, fun h => ?_, fun b h => ?_,
    fun h => ?_, fun sr h => ?_, fun h => ?_, TimerRun.tick_of_stopped, TimerRun.tick_of_running, rfl⟩
  · exact congrArg downBy1 h
  · exact congrArg downBy1 h
  · exact congrArg (Option.map fun b : Burn => { b with left := b.left - 1 }) h
  · exact congrArg (Option.map fun b : Burn => { b with left := b.left - 1 }) h
  · rw [← sr.tick_eq]
    exact congrArg (Option.map SegRun.tick) h
  · exact congrArg (Option.map SegRun.tick) h

/-! ### The reset state -/

theorem FloorMap.reset_sound : FloorMap.reset.Sound where
  cells := Memory.wf_nil _
  sectors := Memory.wf_nil _
  win := ⟨by decide, by decide, by decide, by decide⟩
  cursor := ⟨by decide, by decide, by decide, by decide⟩
  fill := fun _ h => nomatch h
  sweep := fun _ h => by cases h; decide
  queue := by decide

theorem FloorMap.reset_countIn (k : Nat) (p : CellRec → Bool) :
    FloorMap.reset.countIn k p = if p CellRec.swept then 256 else 0 := by
  have swept (c : CellIx) : FloorMap.reset.cellAt c = CellRec.swept := rfl
  simp only [FloorMap.countIn, swept]
  cases p CellRec.swept <;> simp [sectorCells]

theorem FloorMap.reset_tallied : FloorMap.reset.Tallied := by
  intro k _
  simp only [FloorMap.counted, FloorMap.reset_countIn]
  rfl

/-- Settles O22. -/
theorem resetIsSound : Obligations.ResetIsSound :=
  ⟨FloorMap.reset_sound, FloorMap.reset_tallied, ⟨State.poseIn_reset.1, State.tuningOk_reset, fun _ h => nomatch h⟩,
    State.sound_reset, State.grantOwned_reset, trivial⟩

end Sys2Proof.Machine
end

section
namespace Sys2Proof.Machine
open Sys2Proof

/-! ## How a frame and its answer are held (R164, R165, R167) -/

theorem State.writeByte_pp (b : Byte) (s : State) : (s.writeByte b).pp = s.pp :=
  (congrArg State.pp (s.writeByte_withPort b s.pp) : _)

theorem writeBytes_pp (bs : List Byte) (n : Nat) (s : State) : (writeBytes bs n s).1.pp = s.pp := by
  induction bs generalizing n s with
  | nil => rfl
  | cons b bs ih => rw [writeBytes, ih, State.writeByte_pp]

/-- An owner leaves the Planner Port as it was, but for the SOFT RESET's, which empties the slot and the buffer. -/
theorem serve_pp (i : Instr) (s : State) :
    (serve i s).1.pp = s.pp ∨ (serve i s).1.pp = { s.pp with slot := none, buffer := none } := by
  cases i
  case softReset =>
    dsimp only [serve, serveSoftReset]
    split
    · exact .inl rfl
    · exact .inr rfl
  all_goals refine .inl ?_; dsimp only [serve]
  case setWindow => unfold serveSetWindow; (repeat' split) <;> rfl
  case setCursor => unfold serveSetCursor; (repeat' split) <;> rfl
  case writeCells =>
    unfold serveWriteCells
    repeat' split
    · rfl
    · rfl
    · rfl
    · exact writeBytes_pp _ _ s
  case readCells => unfold serveReadCells; (repeat' split) <;> rfl
  case fillWindow => unfold serveFillWindow; (repeat' split) <;> rfl
  case releaseHazard => unfold serveReleaseHazard; dsimp only; (repeat' split) <;> simp
  case readSectors => unfold serveReadSectors; (repeat' split) <;> rfl
  case readChanges => unfold serveReadChanges; (repeat' split) <;> rfl
  case fixPose => unfold serveFixPose; (repeat' split) <;> simp
  case setDockPose => unfold serveSetDockPose serveSetDock serveClearDock; (repeat' split) <;> rfl
  case loadSegment => unfold serveLoadSegment; (repeat' split) <;> rfl
  case clearSegment => unfold serveClearSegment; (repeat' split) <;> rfl
  case loadList => unfold serveLoadList; (repeat' split) <;> rfl
  case readList => unfold serveReadList; split <;> rfl
  case startRoute => unfold serveStartRoute; (repeat' split) <;> rfl
  case stopRoute => unfold serveStopRoute; (repeat' split) <;> rfl
  case postPriority => unfold servePostPriority; (repeat' split) <;> rfl
  case acknowledge => unfold serveAcknowledge; (repeat' split) <;> rfl
  case writeTuning => unfold serveWriteTuning; split <;> rfl
  case writeCalibration => unfold serveWriteCalibration; (repeat' split) <;> rfl
  case burnCalibration => unfold serveBurnCalibration; (repeat' split) <;> rfl
  case armNotices => unfold serveArmNotices; split <;> rfl
  case armWake => unfold serveArmWake; (repeat' split) <;> rfl
  case setPassTimer => unfold serveSetPassTimer; (repeat' split) <;> rfl
  case park => unfold servePark; (repeat' split) <;> rfl
  all_goals rfl

theorem dealWith_serve_port (f : Frame) (i : Instr) {s : State} (serving : s.pp.serving = none)
    (buffer : s.pp.buffer = none) :
    (dealWith f (serve i) s).1.pp.serving = none ∧ (dealWith f (serve i) s).1.pp.buffer = none := by
  unfold dealWith
  split
  · exact ⟨serving, buffer⟩
  · split
    · exact ⟨serving, buffer⟩
    · obtain h | h := serve_pp i s <;> rw [h]
      · exact ⟨serving, buffer⟩
      · exact ⟨serving, rfl⟩

theorem State.placeHeld_of_buffered {s : State} {r : Response} {f : Frame} (h : s.pp.serving = some r)
    (hb : s.pp.buffer = some f) :
    s.placeHeld = State.arrive f { s with pp := { s.pp with slot := some r, serving := none, buffer := none } } := by
  simp only [State.placeHeld, h, hb]

theorem State.placeHeld_of_served {s : State} {r : Response} (h : s.pp.serving = some r) (hb : s.pp.buffer = none) :
    s.placeHeld = { s with pp := { s.pp with slot := some r, serving := none } } := by
  simp only [State.placeHeld, h, hb]

/-- Placing a held answer leaves what placing it at once leaves. -/
theorem State.placeHeld_holdAnswer {a : Answer} (serving : a.1.pp.serving = none) (buffer : a.1.pp.buffer = none) :
    (State.holdAnswer a).placeHeld = State.place a := by
  rw [State.placeHeld_of_served (s := State.holdAnswer a) rfl buffer]
  unfold State.place State.holdAnswer
  dsimp only
  rw [← serving]

theorem step_of_empty {s : State} (h : s.pending = []) : step s = .next s.idle := by rw [step, h]

theorem State.idle_of_free {s : State} (h : s.pp.serving = none) : s.idle = s.runs s.mo := by
  rw [State.idle, h]
  rfl

theorem State.idle_of_serving {s : State} {r : Response} (h : s.pp.serving = some r) : s.idle = s.placeHeld := by
  rw [State.idle, h]
  rfl

theorem State.arrive_of_serving {s : State} (f : Frame) (h : s.pp.serving.isSome = true) :
    s.arrive f = s.bufferFrame f := if_pos h

theorem State.takeFrame_port (s : State) : s.takeFrame.pp = { s.pp with slot := none } := by
  rw [State.takeFrame, State.frameWake, State.wakeIf_pp]

/-- A request's own command, while another is served: its frame waits (R165). -/
theorem exec_of_serving {i : Instr} {f : Frame} {s : State} (hf : requestFrame i = some f)
    (h : s.pp.serving.isSome = true) : exec i s = .next ((s.misoZeros (3 + f.body.length)).bufferFrame f) := by
  rw [exec_of_request hf, State.request, hf]
  exact if_pos h

/-- A request's own command, with none served: its frame is taken, served and answered (R165 to R167). -/
theorem exec_of_free {i : Instr} {f : Frame} {s : State} (hf : requestFrame i = some f) (h : s.pp.serving = none) :
    exec i s = .next (State.place (dealWith f (serve i) (s.misoZeros (3 + f.body.length)).takeFrame)) := by
  rw [exec_of_request hf, State.request, hf]
  exact if_neg (by simp [h])

theorem serveFrame_request {i : Instr} {f : Frame} (hw : i.wf = true) (hf : requestFrame i = some f) (s : State) :
    serveFrame f s = dealWith f (serve i) s := by
  rw [serveFrame, parseRequest_frame hw hf]

theorem Frame.bytes_length (f : Frame) : f.bytes.length = 3 + f.body.length := by
  simp [Frame.bytes, halfBytes]
  omega

/-- The transaction of a request's bytes is its frame (R164). -/
theorem judgeTransaction_bytes {i : Instr} {f : Frame} (hw : i.wf = true) (hf : requestFrame i = some f) :
    judgeTransaction f.bytes = .complete f := by
  obtain ⟨code, body, rfl, hc, len⟩ := requestFrame_form hf
  have fits : (BitVec.ofNat 16 body.length).toNat = body.length := by
    have := len hw
    simp
    omega
  change (if code = 0 then _ else judgeRequest code (half _ _) body) = _
  have whole : keptBody (BitVec.ofNat 16 body.length) body = body := by
    rw [keptBody, fits, if_neg (by have := len hw; omega), List.take_of_length_le (by omega)]
  rw [if_neg hc, half_halfBytes, judgeRequest, if_neg (by rw [Frame.mk', fits]; omega)]
  exact congrArg (fun b => Transaction.complete ⟨code, _, b⟩) whole

theorem exec_transactionEnd_bytes {i : Instr} {f : Frame} (hw : i.wf = true) (hf : requestFrame i = some f) (s : State) :
    exec (.transactionEnd f.bytes) s = .next ((s.misoZeros (3 + f.body.length)).arrive f) := by
  change execTransactionEnd f.bytes s = _
  rw [execTransactionEnd, judgeTransaction_bytes hw hf, f.bytes_length]

/-- A transaction of a code other than 0 that ends within its code, its length or its body is aborted (R164). -/
theorem judgeTransaction_short {code l0 l1 : Byte} {body : List Byte} (hc : code ≠ 0)
    (len : (half l0 l1).toNat ≤ 1024) (short : body.length < (half l0 l1).toNat) :
    judgeTransaction [code] = .aborted ∧ judgeTransaction [code, l0] = .aborted ∧
    judgeTransaction (code :: l0 :: l1 :: body) = .aborted := by
  have aborted : judgeRequest code (half l0 l1) body = .aborted := if_pos ⟨len, short⟩
  exact ⟨if_neg hc, if_neg hc, (if_neg hc).trans aborted⟩

theorem exec_transactionEnd_aborted {bytes : List Byte} (h : judgeTransaction bytes = .aborted) (s : State) :
    exec (.transactionEnd bytes) s = .next (s.misoZeros bytes.length) := by
  change execTransactionEnd bytes s = _
  rw [execTransactionEnd, h]

/-- Settles O2. -/
theorem framesAreHeldAndAnswered : Obligations.FramesAreHeldAndAnswered := by
  intro s
  refine ⟨fun empty => ⟨fun free => ?_, fun free none => ?_, fun r held none => ?_, fun r f held waits => ?_⟩,
    fun i f hw hf => ⟨exec_transactionEnd_bytes hw hf s, fun free none => ?_, fun busy => ⟨?_, ?_⟩⟩, rfl,
    fun code l0 l1 body hc len short => ?_⟩
  · rw [step_of_empty empty, State.idle_of_free free]
  · rw [step_of_empty empty, State.idle_of_free free, State.runs, runEngine_of_none _ _ _ none]
  · rw [step_of_empty empty, State.idle_of_serving held, State.placeHeld_of_served held none]
    exact ⟨_, rfl, rfl, rfl⟩
  · rw [step_of_empty empty, State.idle_of_serving held, State.placeHeld_of_buffered held waits]
  · refine ⟨_, exec_transactionEnd_bytes hw hf s, ?_⟩
    have port := (s.misoZeros (3 + f.body.length)).takeFrame_port
    obtain ⟨serving, buffer⟩ := dealWith_serve_port f i (s := (s.misoZeros (3 + f.body.length)).takeFrame)
      (by rw [port]; exact free) (by rw [port]; exact none)
    rw [exec_of_free hf free, State.arrive, if_neg (by simp [State.misoZeros, free]), serveFrame_request hw hf,
      State.placeHeld_holdAnswer serving buffer]
  · exact exec_of_serving hf busy
  · rw [exec_transactionEnd_bytes hw hf, State.arrive_of_serving (s := s.misoZeros (3 + f.body.length)) f busy,
      exec_of_serving hf busy]
  · obtain ⟨one, two, more⟩ := judgeTransaction_short hc len short
    refine ⟨exec_transactionEnd_aborted one s, exec_transactionEnd_aborted two s, ?_⟩
    rw [exec_transactionEnd_aborted more, State.misoZeros, List.length_cons, List.length_cons, List.length_cons,
      Nat.add_comm 3]

end Sys2Proof.Machine
end

section
namespace Sys2Proof.Machine
open Sys2Proof

/-! ## Frames refused before their owner (R164, R166, R189) -/

/-- A frame taken by a part in RUN: the slot is emptied. -/
theorem State.takeFrame_of_run {s : State} (n : Nat) (run : s.mo.eu.device = .run) :
    (s.misoZeros n).takeFrame = s.taken n :=
  State.wakeIf_of_run true .frame _ run

theorem exec_invalidFrame {code : Byte} {length : Half} {body : List Byte} {s : State} {r : Response}
    (free : s.pp.serving = none) (run : s.mo.eu.device = .run)
    (h : ∀ q : State, q.fm = s.fm →
      serveFrame { code := code, length := length, body := keptBody length body } q = (q, r)) :
    exec (.invalidFrame code length body) s = .next (s.answered (3 + body.length) r) := by
  change execInvalidFrame code length body s = _
  rw [execInvalidFrame, if_neg (by simp [free]), State.takeFrame_of_run _ run, h (s.taken _) rfl]
  rfl

theorem badEnvelope_keptBody {code : Byte} {length : Half} {body : List Byte}
    (h : 1024 < length.toNat ∨ length.toNat < body.length) :
    ({ code := code, length := length, body := keptBody length body } : Frame).badEnvelope = true := by
  simp only [Frame.badEnvelope, Bool.or_eq_true, decide_eq_true_eq]
  by_cases long : 1024 < length.toNat
  · exact .inl long
  · rw [keptBody, if_neg long, List.length_take]
    omega

theorem badEnvelope_of_length {code : Byte} {length : Half} {body : List Byte} (len : length.toNat ≤ 1024)
    (whole : body.length = length.toNat) :
    ({ code := code, length := length, body := body } : Frame).badEnvelope = false := by
  simp only [Frame.badEnvelope, Bool.or_eq_false_iff, decide_eq_false_iff_not]
  omega

theorem keptBody_of_length {length : Half} {body : List Byte} (len : length.toNat ≤ 1024)
    (whole : body.length = length.toNat) : keptBody length body = body := by
  rw [keptBody, if_neg (by omega), List.take_of_length_le (by omega)]

/-- A bad envelope is answered first, whatever the frame's code and body are read as (R166). -/
theorem serveFrame_of_badEnvelope {f : Frame} (h : f.badEnvelope = true) (s : State) :
    serveFrame f s = (s, .invalid 1 0) := by
  unfold serveFrame dealWith
  split
  · exact if_pos h
  · exact if_pos h
  · exact if_pos h

theorem serveFrame_of_noCode {f : Frame} (h : f.badEnvelope = false) (p : parseRequest f.code f.body = .noCode)
    (s : State) : serveFrame f s = (s, .invalid 0 0) := by
  rw [serveFrame, p]
  exact if_neg (by simp [h])

theorem serveFrame_of_badLength {f : Frame} (h : f.badEnvelope = false) (p : parseRequest f.code f.body = .badLength)
    (s : State) :
    serveFrame f s = (s, if s.fm.sweep.isSome = true ∧ f.code ≠ 0x54 then .busy else .invalid 1 0) := by
  rw [serveFrame, p]
  have holds : s.sweepHolds f.code = true ↔ s.fm.sweep.isSome = true ∧ f.code ≠ 0x54 := by
    rw [State.sweepHolds, Bool.and_eq_true, decide_eq_true_iff]
    rfl
  change (if f.badEnvelope then _ else if s.sweepHolds f.code then _ else _) = _
  rw [if_neg (by simp [h]), apply_ite (Prod.mk s)]
  exact if_congr holds rfl rfl

/-- READ SENSE alone has its code. -/
theorem code_ne_sense {i : Instr} {f : Frame} (hw : i.wf = true) (hf : requestFrame i = some f) (h : i ≠ .readSense) :
    f.code ≠ senseCode := by
  intro e
  have parsed := parseRequest_frame hw hf
  rw [e] at parsed
  change parseEmpty .readSense f.body = .request i at parsed
  unfold parseEmpty at parsed
  split at parsed
  · exact h (Parsed.request.inj parsed).symm
  · cases parsed

theorem dealWith_of_sweep {f : Frame} {s : State} (owner : State → Answer) (hb : f.badEnvelope = false)
    (hs : s.fm.sweep.isSome = true) (hc : f.code ≠ senseCode) : dealWith f owner s = (s, .busy) := by
  rw [dealWith, if_neg (by simp [hb]), if_pos (by simp [State.sweepHolds, hs, hc])]

/-- Settles O7. -/
theorem refusedFrames : Obligations.RefusedFrames := by
  intro s free run
  refine ⟨fun code length body _ => ⟨fun bad => ?_, fun len whole p => ?_, fun len whole p => ?_⟩,
    fun i f hw hf other sweep => ?_⟩
  · exact exec_invalidFrame free run fun q _ => serveFrame_of_badEnvelope (badEnvelope_keptBody bad) q
  · refine exec_invalidFrame free run fun q _ => ?_
    rw [keptBody_of_length len whole]
    exact serveFrame_of_noCode (badEnvelope_of_length len whole) p q
  · refine exec_invalidFrame free run fun q same => ?_
    rw [keptBody_of_length len whole, ← same]
    exact serveFrame_of_badLength (badEnvelope_of_length len whole) p q
  · rw [exec_of_free hf free, State.takeFrame_of_run _ run,
      dealWith_of_sweep (s := s.taken _) (serve i) (badEnvelope_of_wf hw hf) sweep (code_ne_sense hw hf other)]
    rfl

/-! ## The requests that only read (R49, R83, R171, R172, R185) -/

/-- On a part in RUN whose sweep does not hold the request off, an owner that only reads changes nothing but the slot. -/
theorem exec_reads {i : Instr} {f : Frame} {n : Nat} {s : State} {r : Response} (free : s.pp.serving = none)
    (run : s.mo.eu.device = .run) (hf : requestFrame i = some f) (hb : f.badEnvelope = false)
    (hn : 3 + f.body.length = n) (hs : s.fm.sweep = none ∨ f.code = senseCode)
    (ho : serve i (s.taken n) = (s.taken n, r)) : exec i s = .next (s.answered n r) := by
  subst hn
  have passes : (s.taken (3 + f.body.length)).sweepHolds f.code = false := by
    obtain h | h := hs <;> simp [State.sweepHolds, State.taken, h]
  rw [exec_of_free hf free, State.takeFrame_of_run _ run, dealWith, if_neg (by simp [hb]), if_neg (by simp [passes]), ho]
  rfl

theorem bitWeight (k : Nat) (a : Bool) : (if a then k else 0) = k * a.toNat := by cases a <;> simp

theorem bitsByte_four (a b c d : Bool) : bitsByte [a, b, c, d] =
    (if a then 1 else 0) + (if b then 2 else 0) + (if c then 4 else 0) + (if d then 8 else 0) := by
  simp only [bitWeight, bitsByte]
  omega

theorem bitsByte_seven (a b c d e f g : Bool) : bitsByte [a, b, c, d, e, f, g] =
    (if a then 1 else 0) + (if b then 2 else 0) + (if c then 4 else 0) + (if d then 8 else 0) +
      (if e then 16 else 0) + (if f then 32 else 0) + (if g then 64 else 0) := by
  simp only [bitWeight, bitsByte]
  omega

theorem Progress.code_eq (p : Progress) : p.code = p.stage + (if p.retryInUse then 16 else 0) +
    (if p.altInUse then 32 else 0) + (if p.guardTrip then 64 else 0) + (if p.unknownSeen then 128 else 0) := by
  simp only [Progress.code, bitWeight, bitsByte]
  omega

theorem passWaitByte (c : Prop) [Decidable c] : byte (if c then 1 else 0) = if c then 1 else 0 := by
  split <;> rfl

theorem State.senseRecord_length (s : State) : s.senseRecord.length = 50 := by
  cases h : s.mo.re.lastBlocking <;>
    simp [State.senseRecord, RouteEngine.senseBytes, PoseUnit.senseBytes, HazardGuard.senseBytes,
      DrivePort.senseBytes, leBytes_length, h, cellBytes]

theorem RouteEngine.image_eq (re : RouteEngine) (id : ListId) (l : RunList) (h : l = re.list id) :
    re.image id = [byte (if id = .main then 0 else 1), byte l.entries.length, byte l.position, byte l.passes,
      byte l.passesDone,
      byte ((if l.stopOnHazard then 1 else 0) + (if l.homeOnLow then 2 else 0) + (if re.engaged id then 4 else 0) +
        (if id = .main ∧ re.suspended.isSome = true then 8 else 0))] ++
      l.entries.flatMap fun e => [byte e.slot, byte e.desc.outcome.code] ++ wordBytes e.desc.start ++
        wordBytes e.desc.finish ++ [byte e.desc.attempts,
          byte ((if e.desc.altUsed then 1 else 0) + (if e.desc.blocking.isSome then 2 else 0))] ++
        (match e.desc.blocking with
          | some c => [byte c.cx, byte c.cy]
          | none => [0, 0]) ++ leBytes 2 e.desc.endError := by
  subst h
  unfold RouteEngine.image
  simp only [bitsByte_four, Descriptor.bytes, bitsByte_pair, Bool.and_eq_true, decide_eq_true_eq]
  rfl

/-- Settles O8. -/
theorem readingRequestsChangeNothing : Obligations.ReadingRequestsChangeNothing := by
  refine ⟨rfl, rfl, rfl, rfl, rfl, rfl, rfl, rfl, rfl, fun o => ⟨rfl, rfl, rfl⟩, fun s free run => ⟨?_, fun swept =>
    ⟨?_, ?_, ?_, fun list far => ?_, fun list id l hl code => ?_⟩⟩⟩
  · refine ⟨s.senseRecord, exec_reads free run rfl rfl rfl (.inr rfl) rfl, s.senseRecord_length, ?_⟩
    have awake : flagByte (s.mo.eu.device = .parked) = 0 := by rw [run]; rfl
    have index : s.mo.re.poolIndex.getD 255 = match s.mo.re.poolIndex with
      | some n => n
      | none => 255 := by cases s.mo.re.poolIndex <;> rfl
    simp only [State.senseRecord, RouteEngine.senseBytes, awake, State.senseFlags, bitsByte_seven, State.filling,
      passWaitByte, index, Progress.code_eq, List.append_assoc, List.cons_append, List.nil_append]
    cases s.mo.re.lastBlocking <;> rfl
  · exact exec_reads free run rfl rfl rfl (.inl swept) rfl
  · exact exec_reads free run rfl rfl rfl (.inl swept) rfl
  · exact exec_reads free run rfl rfl rfl (.inl swept) rfl
  · refine exec_reads free run rfl rfl rfl (.inl swept) ?_
    simp only [serve, serveReadList, ListId.ofByte_of_gt far]
  · refine exec_reads free run rfl rfl rfl (.inl swept) ?_
    have named : ListId.ofByte list = some id := by cases id <;> subst code <;> rfl
    have shown : byte (if id = .main then 0 else 1) = list := by cases id <;> subst code <;> rfl
    have image := RouteEngine.image_eq s.mo.re id l hl
    rw [shown] at image
    simp only [serve, serveReadList, named]
    exact congrArg (fun bs => (s.taken 4, Response.done bs)) image

end Sys2Proof.Machine
end

section
namespace Sys2Proof.Machine
open Sys2Proof

/-! ## Map changes and the Clearance Unit (R60, R63, R64) -/

theorem inDisc_iff (px py : Int) (r : Nat) (c : Int × Int) :
    inDisc px py r c = true ↔ cellDist2 px py c ≤ (r * 1000) ^ 2 := by simp [inDisc]

theorem Sampling.reached_iff (sp : Sampling) (c : Int × Int) : sp.reached c = true ↔
    ∃ i, i < sp.next ∧ cellDist2 (sp.point i).1 (sp.point i).2 c ≤ (sp.outer * 1000) ^ 2 := by
  simp [Sampling.reached, inDisc_iff]

/-- Only the held checks change. -/
theorem restartReached_frame (c : CellIx) (m : Motion) :
    restartReached c m = { m with cu := { m.cu with checks := (restartReached c m).cu.checks } } := by
  unfold restartReached
  split
  · split <;> rfl
  · rfl

section sampling
variable {c : CellIx} {m : Motion} {req : CheckReq} {sp : Sampling} {rest : List Check}

theorem restartReached_of_reached (h : m.cu.checks = { req := req, run := some sp } :: rest)
    (hit : sp.reached ((c.cx : Int), (c.cy : Int)) = true) :
    restartReached c m =
      { m with cu := { m.cu with checks := { req := req, run := some (sp.restart req) } :: rest } } := by
  simp only [restartReached, h, hit, if_true]

theorem restartReached_of_missed (h : m.cu.checks = { req := req, run := some sp } :: rest)
    (miss : sp.reached ((c.cx : Int), (c.cy : Int)) = false) : restartReached c m = m := by
  simp [restartReached, h, miss]

end sampling

theorem restartReached_of_not_sampling {c : CellIx} {m : Motion}
    (h : ∀ req sp rest, m.cu.checks ≠ { req := req, run := some sp } :: rest) : restartReached c m = m := by
  unfold restartReached
  split
  · next req sp rest held => exact absurd held (h req sp rest)
  · rfl

/-- A restart keeps what each check was asked with. -/
theorem restartReached_reqs (c : CellIx) (m : Motion) :
    (restartReached c m).cu.checks.map Check.req = m.cu.checks.map Check.req := by
  unfold restartReached
  split
  · next held => split <;> simp [held]
  · rfl

/-- Whether a re-check of a grant is held. -/
theorem restartReached_holds (c : CellIx) (m : Motion) (g : Nat) :
    ((restartReached c m).cu.checks.any fun k => k.req.owner = .recheck g) = true ↔
      ∃ k ∈ m.cu.checks, k.req.owner = .recheck g := by
  have asked (l : List Check) : (l.any fun k => k.req.owner = .recheck g) = true ↔
      ∃ r ∈ l.map Check.req, r.owner = .recheck g := by simp
  rw [asked, restartReached_reqs, ← asked]
  simp

theorem lastSample_eq (len : Nat) : lastSample len = (len + 24999) / 25000 := by
  unfold lastSample ceilDiv
  congr 1

/-- Sample i of a path from S to E that ends at sample n. -/
theorem samplePoint_of_le {sx sy ex ey dirX dirY : Int} {divisor len i : Nat} (h : i ≤ (len + 24999) / 25000) :
    samplePoint sx sy ex ey dirX dirY divisor len i =
      if i = 0 then (sx, sy)
      else if i = (len + 24999) / 25000 then (ex, ey)
      else (sx + rhaz (dirX * (i * 25000 : Nat)) divisor, sy + rhaz (dirY * (i * 25000 : Nat)) divisor) := by
  rw [samplePoint, lastSample_eq]
  by_cases start : i = 0
  · rw [if_pos start, if_pos start]
  · rw [if_neg start, if_neg start]
    exact if_congr (by omega) rfl rfl

/-- The trigger test (R63): the new record blocks within its radius of a sample of the remaining path. -/
theorem triggers_iff (m : Motion) (cor : Corridor) (c : CellIx) (new : CellRec) {len : Nat} {ex ey : Int}
    (hlen : len = (cor.amount - m.re.amountDone).toNat) (hx : ex = m.pu.x + rhaz (cor.dirX * len) cor.divisor)
    (hy : ey = m.pu.y + rhaz (cor.dirY * len) cor.divisor) :
    triggers m cor c new = true ↔ ∃ (r i : Nat) (p : Int × Int),
      blockRadius cor.column cor.allowUnknown cor.avoidRug cor.obstacleFloor cor.rh cor.rc 0 new.cls
        new.conf.toNat = some r ∧
      i ≤ (len + 24999) / 25000 ∧
      p = (if i = 0 then ((m.pu.x : Int), (m.pu.y : Int))
        else if i = (len + 24999) / 25000 then (ex, ey)
        else (m.pu.x + rhaz (cor.dirX * (i * 25000 : Nat)) cor.divisor,
              m.pu.y + rhaz (cor.dirY * (i * 25000 : Nat)) cor.divisor)) ∧
      cellDist2 p.1 p.2 (c.cx, c.cy) ≤ (r * 1000) ^ 2 := by
  have point {i : Nat} (h : i ≤ (len + 24999) / 25000) :=
    samplePoint_of_le (sx := m.pu.x) (sy := m.pu.y) (ex := ex) (ey := ey) (dirX := cor.dirX) (dirY := cor.dirY)
      (divisor := cor.divisor) (len := len) h
  have steps (r : Nat) : ((List.range (lastSample len + 1)).any fun i =>
      inDisc (samplePoint m.pu.x m.pu.y ex ey cor.dirX cor.dirY cor.divisor len i).1
        (samplePoint m.pu.x m.pu.y ex ey cor.dirX cor.dirY cor.divisor len i).2 r ((c.cx : Int), (c.cy : Int))) = true ↔
      ∃ i, i ≤ (len + 24999) / 25000 ∧
        cellDist2 (samplePoint m.pu.x m.pu.y ex ey cor.dirX cor.dirY cor.divisor len i).1
          (samplePoint m.pu.x m.pu.y ex ey cor.dirX cor.dirY cor.divisor len i).2 (c.cx, c.cy) ≤ (r * 1000) ^ 2 := by
    simp [inDisc_iff, lastSample_eq]
  unfold triggers
  split
  · next none' =>
    rw [none']
    simp
  · next r some' =>
    have unfolded := steps r
    subst hlen hx hy
    refine unfolded.trans ⟨?_, ?_⟩
    · rintro ⟨i, hi, near⟩
      exact ⟨r, i, _, some', hi, point hi, near⟩
    · rintro ⟨r', i, p, radius, hi, hp, near⟩
      obtain rfl : r = r' := Option.some.inj (some'.symm.trans radius)
      exact ⟨i, hi, by rw [point hi, ← hp]; exact near⟩

theorem askRecheck_of_no_corridor {env : Env} {c : CellIx} {new : CellRec} {m : Motion} (h : m.cu.corridor = none) :
    askRecheck env c new m = m := by
  simp only [askRecheck, h]

theorem askRecheck_of_corridor {env : Env} {c : CellIx} {new : CellRec} {m : Motion} {cor : Corridor}
    (h : m.cu.corridor = some cor) :
    askRecheck env c new m =
      if triggers m cor c new && !(m.cu.checks.any fun k => k.req.owner = .recheck cor.grant) then
        askCheck env (recheckReq cor) m
      else m := by
  simp only [askRecheck, h]

/-- Settles O18. -/
theorem mapChangesReachTheUnit : Obligations.MapChangesReachTheUnit := by
  intro env c new m
  have frame := restartReached_frame c m
  have corridor : (restartReached c m).cu.corridor = m.cu.corridor := by rw [frame]
  refine ⟨restartReached c m, frame, fun req sp rest held => ⟨fun hit => ?_, fun miss => ?_⟩,
    restartReached_of_not_sampling, fun none => askRecheck_of_no_corridor (corridor.trans none),
    fun cor len ex ey some hlen hx hy => ?_⟩
  · rw [restartReached_of_reached held ((sp.reached_iff _).2 hit)]
    rfl
  · refine restartReached_of_missed held (Bool.eq_false_iff.2 fun hit => ?_)
    obtain ⟨i, hi, near⟩ := (sp.reached_iff _).1 hit
    exact absurd near (Nat.not_le.2 (miss i hi))
  · have test := triggers_iff (restartReached c m) cor c new (len := len) (ex := ex) (ey := ey)
      (by rw [restartReached_re]; exact hlen) (by rw [restartReached_pu]; exact hx) (by rw [restartReached_pu]; exact hy)
    rw [restartReached_pu] at test
    have asked := restartReached_holds c m cor.grant
    rw [takeMapChange, askRecheck_of_corridor (corridor.trans some)]
    refine ⟨fun ⟨hit, free⟩ => if_pos ?_, fun quiet => if_neg ?_⟩
    · rw [Bool.and_eq_true, Bool.not_eq_true', Bool.eq_false_iff, test, Ne, asked]
      exact ⟨hit, fun ⟨k, hk, owner⟩ => free k hk owner⟩
    · rw [Bool.and_eq_true, Bool.not_eq_true', Bool.eq_false_iff, test, Ne, asked]
      rintro ⟨⟨r, i, p, radius, hi, hp, near⟩, free⟩
      obtain far | held := quiet
      · exact absurd near (Nat.not_le.2 (far r i p radius hi hp))
      · exact free held

end Sys2Proof.Machine
end

section
namespace Sys2Proof.Machine
open Sys2Proof

/-! ## One cell's change, whole (R3, R10) -/

@[simp] theorem FloorMap.putCell_changes (c : CellIx) (r : CellRec) (fm : FloorMap) :
    (fm.putCell c r).changes = fm.changes := by rw [FloorMap.putCell_frame]

@[simp] theorem FloorMap.putCell_changeLost (c : CellIx) (r : CellRec) (fm : FloorMap) :
    (fm.putCell c r).changeLost = fm.changeLost := by rw [FloorMap.putCell_frame]

@[simp] theorem FloorMap.putCell_fill (c : CellIx) (r : CellRec) (fm : FloorMap) :
    (fm.putCell c r).fill = fm.fill := by rw [FloorMap.putCell_frame]

theorem CellRec.altered_iff (old new : CellRec) :
    old.altered new = true ↔ new.cls ≠ old.cls ∨ new.conf ≠ old.conf ∨ new.origin ≠ old.origin := by
  simp only [CellRec.altered, Bool.or_eq_true, decide_eq_true_eq, or_assoc]
  rw [ne_comm (a := old.cls), ne_comm (a := old.conf), ne_comm (a := old.origin)]

/-- What a map change does to the Clearance Unit reads nothing of the Event Unit. -/
theorem takeMapChange_cu_raised (env : Env) (c : CellIx) (new : CellRec) (m : Motion) (e : EventUnit) :
    (takeMapChange env c new { m with eu := e }).cu = (takeMapChange env c new m).cu := by
  have restarted : restartReached c { m with eu := e } = { restartReached c m with eu := e } := by
    unfold restartReached
    dsimp only
    split
    · split <;> rfl
    · rfl
  have asked (req : CheckReq) (q : Motion) : (askCheck env req { q with eu := e }).cu = (askCheck env req q).cu := by
    unfold askCheck
    dsimp only
    split <;> rfl
  rw [takeMapChange, takeMapChange, restarted]
  generalize restartReached c m = q
  cases h : q.cu.corridor with
  | none => rw [askRecheck_of_no_corridor h, askRecheck_of_no_corridor (m := { q with eu := e }) h]
  | some cor =>
    rw [askRecheck_of_corridor h, askRecheck_of_corridor (m := { q with eu := e }) h]
    change (if triggers q cor c new && !(q.cu.checks.any fun k => k.req.owner = .recheck cor.grant) then _ else _ :
      Motion).cu = _
    split
    · exact asked _ q
    · rfl

/-- A map change reaches the Clearance Unit exactly when the record is altered (R3). -/
theorem State.handChange_cu (held : Bool) (c : CellIx) (old new : CellRec) (s : State) :
    (s.handChange held c old new).mo.cu =
      if old.altered new then (takeMapChange { s.env with mapBusy := held || s.env.mapBusy } c new s.mo).cu
      else s.mo.cu := by
  unfold State.handChange
  split <;> rfl

/-- A cell's change leaves its stores and its map change (R3). -/
theorem State.changeCell_eq (held : Bool) (c : CellIx) (new : CellRec) (s : State) :
    s.changeCell held c new =
      { s with
        fm := { s.fm with cells := (s.fm.putCell c new).cells, sectors := (s.fm.putCell c new).sectors }
        mo := { s.mo with cu := if (s.fm.cellAt c).altered new then
          (takeMapChange { (s.changeCell held c new).env with mapBusy := held || s.fm.fill.isSome } c new s.mo).cu
          else s.mo.cu } } := by
  have env : (s.changeCell held c new).env = ({ s with fm := s.fm.putCell c new } : State).env := by
    rw [State.changeCell_frame]
    rfl
  have unit := State.handChange_cu held c (s.fm.cellAt c) new { s with fm := s.fm.putCell c new }
  have busy : (s.fm.putCell c new).fill.isSome = s.fm.fill.isSome := by rw [FloorMap.putCell_fill]
  rw [env, ← FloorMap.putCell_frame, State.changeCell, State.handChange_frame, unit, ← busy]
  rfl

theorem State.changeCell_taken (held : Bool) (c : CellIx) (r : CellRec) (n : Nat) (s : State) :
    (s.taken n).changeCell held c r = (s.changeCell held c r).taken n := by
  refine (State.changeCell_withPort held c r _ s).trans ?_
  rw [State.taken, State.changeCell_pp]
  rfl

/-! ## Sensed marks (R5, R6, R25 to R27) -/

/-- Everything of a sensed mark but the map change it hands on. -/
def State.noteMark (k : SensedMark) (s : State) : State :=
  let old := s.fm.cellAt k.cell
  let new := old.marked k.cause
  let q : State := { s with fm := s.fm.putCell k.cell new }
  if old.cls ≠ new.cls then State.queueEntry k old.cls new.cls q else q

theorem State.sensedMark_eq (k : SensedMark) (s : State) : s.sensedMark k =
    (s.noteMark k).handChange false k.cell (s.fm.cellAt k.cell) ((s.fm.cellAt k.cell).marked k.cause) := rfl

section marks
variable (k : SensedMark) (s : State)

theorem State.noteMark_of_same (h : ((s.fm.cellAt k.cell).marked k.cause).cls = (s.fm.cellAt k.cell).cls) :
    s.noteMark k = { s with fm := s.fm.putCell k.cell ((s.fm.cellAt k.cell).marked k.cause) } :=
  if_neg (not_not.2 h.symm)

theorem State.noteMark_of_room (h : ((s.fm.cellAt k.cell).marked k.cause).cls ≠ (s.fm.cellAt k.cell).cls)
    (room : s.fm.changes.length < 64) :
    (s.noteMark k).fm.changes = s.fm.changes ++
      [{ cell := k.cell, old := (s.fm.cellAt k.cell).cls, new := ((s.fm.cellAt k.cell).marked k.cause).cls,
         cause := k.cause, sensor := k.sensor, time := s.mo.eu.time }] ∧
    (s.noteMark k).fm.changeLost = s.fm.changeLost ∧
    (s.noteMark k).mo.eu =
      if s.tun.changeNotice ≤ s.fm.changes.length + 1 then s.mo.eu.raise .changesWaiting else s.mo.eu := by
  unfold State.noteMark
  dsimp only
  rw [if_pos (Ne.symm h), State.queueEntry, if_pos (by simpa using room)]
  simp only [FloorMap.putCell_changes]
  split <;> simp [Motion.raise]

theorem State.noteMark_of_full (h : ((s.fm.cellAt k.cell).marked k.cause).cls ≠ (s.fm.cellAt k.cell).cls)
    (full : 64 ≤ s.fm.changes.length) :
    (s.noteMark k).fm.changes = s.fm.changes ∧ (s.noteMark k).fm.changeLost = true ∧
    (s.noteMark k).mo.eu = s.mo.eu.raise .changeLost := by
  unfold State.noteMark
  dsimp only
  rw [if_pos (Ne.symm h), State.queueEntry, if_neg (by simpa using full)]
  simp [Motion.raise]

/-- A mark noted changes the cell, its sector, the queue and the causes. -/
theorem State.noteMark_frame : s.noteMark k =
    { s with
      fm := { s.fm with cells := (s.fm.putCell k.cell ((s.fm.cellAt k.cell).marked k.cause)).cells
                        sectors := (s.fm.putCell k.cell ((s.fm.cellAt k.cell).marked k.cause)).sectors
                        changes := (s.noteMark k).fm.changes, changeLost := (s.noteMark k).fm.changeLost }
      mo := { s.mo with eu := (s.noteMark k).mo.eu } } := by
  have put := FloorMap.putCell_frame k.cell ((s.fm.cellAt k.cell).marked k.cause) s.fm
  unfold State.noteMark
  dsimp only
  split
  · rw [State.queueEntry_frame, put]
  · rw [put]

end marks

/-- The two merge tables (R5, R6). -/
theorem CellRec.marked_eq (cause : MarkCause) (old : CellRec) : old.marked cause =
    if cause = .cliffTrip ∨ cause = .wheelDrop then
      if old.cls = .cliff ∧ old.origin = .sensed then old else { old with cls := .cliff, conf := 7, origin := .sensed }
    else
      match old.cls with
      | .unknown => { old with cls := .obstacle, conf := 3, origin := .sensed }
      | .free => { old with cls := .obstacle, conf := 3, origin := .sensed }
      | .rug => { old with cls := .obstacle, conf := 3, origin := .sensed }
      | .obstacle => { old with conf := BitVec.ofNat 3 (min 7 (old.conf.toNat + 1)), origin := .sensed }
      | .cliff => old
      | .keepOut => old
      | .dock => old := by
  have cliff : cause.isCliff = true ↔ cause = .cliffTrip ∨ cause = .wheelDrop := by
    cases cause <;> simp [MarkCause.isCliff]
  have sensed : old.sensedCliff = true ↔ old.cls = .cliff ∧ old.origin = .sensed := by simp [CellRec.sensedCliff]
  have rise : ∀ c : BitVec 3, (if c = 7 then 7 else c + 1) = BitVec.ofNat 3 (min 7 (c.toNat + 1)) := by decide
  refine if_congr cliff (if_congr sensed rfl rfl) ?_
  obtain ⟨cls, conf, origin, visited⟩ := old
  cases cls <;> simp only [CellRec.obstacleMark, rise]

/-- Settles O17. -/
theorem sensedMarksMerge : Obligations.SensedMarksMerge := by
  intro k s t old new wf ht hold hnew
  have put := FloorMap.cellAt_putCell_same k.cell ((s.fm.cellAt k.cell).marked k.cause) s.fm wf
  have mark := State.sensedMark_eq k s
  have noted := State.noteMark_frame k s
  have note : t.fm = (s.noteMark k).fm ∧ t.mo.eu = (s.noteMark k).mo.eu := by
    rw [ht, mark, State.handChange_frame]
    exact ⟨rfl, rfl⟩
  have cells : t.fm.cells = (s.fm.putCell k.cell ((s.fm.cellAt k.cell).marked k.cause)).cells := by
    rw [note.1, noted]
  obtain rfl : new = old.marked k.cause := by
    rw [hnew, FloorMap.cellAt, cells, hold]
    exact put
  have env : t.env = (s.noteMark k).env := by
    rw [ht, mark, State.handChange_frame]
    rfl
  have unit : t.mo.cu = if old.altered (old.marked k.cause) then
      (takeMapChange t.env k.cell (old.marked k.cause) s.mo).cu else s.mo.cu := by
    have cu := State.handChange_cu false k.cell old (old.marked k.cause) (s.noteMark k)
    have mo : (s.noteMark k).mo = { s.mo with eu := (s.noteMark k).mo.eu } := congrArg State.mo noted
    rw [hold, ← mark, ← ht, ← hold, mo, takeMapChange_cu_raised] at cu
    rw [cu, env]
    rfl
  refine ⟨CellRec.marked_eq _ _, fun a ha => ?_, fun same => ?_, fun differs room => ?_, fun differs full => ?_,
    fun same => ?_, fun differs => ?_, ?_⟩
  · rw [cells]
    exact FloorMap.read_putCell_other _ _ _ ha
  · rw [note.1, note.2, State.noteMark_of_same k s (by rw [← hold]; exact same)]
    simp
  · rw [note.1, note.2, hold]
    rw [hold] at differs
    exact State.noteMark_of_room k s differs room
  · rw [note.1, note.2]
    rw [hold] at differs
    exact State.noteMark_of_full k s differs full
  · rw [unit, if_neg]
    rw [CellRec.altered_iff]
    tauto
  · rw [unit, if_pos ((CellRec.altered_iff _ _).2 differs)]
  · have frame := State.sensedMark_frame k s
    rw [← ht] at frame
    rw [frame, note.1, noted]

/-! ## RELEASE HAZARD (R9, R24, R63) -/

theorem CellClass.ofCode_of_ge {n : Nat} (h : 7 ≤ n) : CellClass.ofCode n = none := by
  obtain ⟨k, rfl⟩ := Nat.exists_eq_add_of_le h
  rw [Nat.add_comm]
  rfl

section release
variable {cx cy cls : Byte} {s : State} {c : CellIx} {k : CellClass}

theorem serveReleaseHazard_of_busy (hk : CellClass.ofCode cls.toNat = some k)
    (h : s.fm.fill.isSome = true ∨ s.mo.cu.checks ≠ []) : serveReleaseHazard cx cy cls s = (s, .busy) := by
  have busy : (s.filling || s.checking) = true := by simpa [State.filling, State.checking] using h
  simp only [serveReleaseHazard, hk, busy, if_true]

theorem serveReleaseHazard_of_free (hc : c = { cx := cx.toNat, cy := cy.toNat })
    (hk : CellClass.ofCode cls.toNat = some k) (fill : s.fm.fill = none) (checks : s.mo.cu.checks = []) :
    serveReleaseHazard cx cy cls s =
      if (s.fm.cellAt c).sensedCliff then
        (s.changeCell false c { s.fm.cellAt c with cls := k, conf := 7, origin := .planner }, .done [])
      else (s, .rejected .notHazard) := by
  subst hc
  simp [serveReleaseHazard, hk, State.filling, State.checking, fill, checks]

end release

/-- Settles O15. -/
theorem releaseHazardFreesTheCell : Obligations.ReleaseHazardFreesTheCell := by
  intro cx cy cls s c hs hc
  refine ⟨fun far => ?_, fun k hk => ⟨fun busy => ?_, fun fill checks safe => ?_, fun fill checks wf hazard => ?_⟩⟩
  · refine exec_answers_same hs rfl rfl rfl ?_
    simp only [serve, serveReleaseHazard, CellClass.ofCode_of_ge far]
  · exact exec_answers_same hs rfl rfl rfl (serveReleaseHazard_of_busy (s := s.taken 6) hk busy)
  · refine exec_answers_same hs rfl rfl rfl ?_
    refine (serveReleaseHazard_of_free (s := s.taken 6) hc hk fill checks).trans (if_neg ?_)
    exact Bool.eq_false_iff.1 safe
  · obtain ⟨new, hnew⟩ : ∃ new : CellRec, new = { s.fm.cellAt c with cls := k, conf := 7, origin := .planner } := ⟨_, rfl⟩
    have served : serve (.releaseHazard cx cy cls) (s.taken 6) = ((s.changeCell false c new).taken 6, .done []) := by
      refine (serveReleaseHazard_of_free (s := s.taken 6) hc hk fill checks).trans ((if_pos hazard).trans ?_)
      rw [State.changeCell_taken, hnew]
      rfl
    have origin : (s.fm.cellAt c).origin = .sensed := by simp_all [CellRec.sensedCliff]
    have altered : (s.fm.cellAt c).altered new = true :=
      (CellRec.altered_iff _ _).2 (.inr (.inr (by rw [hnew, origin]; exact nofun)))
    have whole := State.changeCell_eq false c new s
    rw [if_pos altered] at whole
    have cells : (s.changeCell false c new).fm.cells = (s.fm.putCell c new).cells := by rw [State.changeCell_frame]
    refine ⟨_, new, exec_leaves hs rfl rfl rfl served, ?_, hnew, fun a ha => ?_, ?_⟩
    · exact (congrArg (Memory.read _ · c.addr) cells).trans (FloorMap.cellAt_putCell_same c new s.fm wf)
    · refine (congrArg (Memory.read _ · a) cells).trans (FloorMap.read_putCell_other c new s.fm ?_)
      rw [hc]
      exact ha
    · have sectors : (s.changeCell false c new).fm.sectors = (s.fm.putCell c new).sectors := by
        rw [State.changeCell_frame]
      refine congrArg (State.answered 6 (.done [])) (whole.trans ?_)
      rw [← cells, ← sectors]
      have env : ({ (s.changeCell false c new).env with mapBusy := false || s.fm.fill.isSome } : Env) =
          (s.changeCell false c new).env := by
        rw [whole]
        rfl
      rw [env]
      rfl

end Sys2Proof.Machine
end

section
namespace Sys2Proof.Machine
open Sys2Proof

/-! ## The cursor's walk (R17)

Each cell of a window has a rank, its place in the walk that begins at the start corner. An advance raises the rank by
one, modulo the number of cells, and the rank tells the cells of the window apart. -/

/-- How far an index is along an axis, from the bound where its direction starts. -/
def Dir.offset (d : Dir) (lo hi i : Nat) : Nat :=
  match d with
  | .inc => i - lo
  | .dec => hi - i

section offset
variable {d : Dir} {lo hi i j : Nat}

theorem Dir.offset_le (h : lo ≤ i ∧ i ≤ hi) : d.offset lo hi i ≤ hi - lo := by
  cases d <;> simp only [Dir.offset] <;> omega

theorem Dir.offset_inj (hi' : lo ≤ i ∧ i ≤ hi) (hj : lo ≤ j ∧ j ≤ hi) (h : d.offset lo hi i = d.offset lo hi j) :
    i = j := by
  cases d <;> simp only [Dir.offset] at h <;> omega

theorem Dir.offset_first (d : Dir) (lo hi : Nat) : d.offset lo hi (d.first lo hi) = 0 := by
  cases d <;> simp [Dir.offset, Dir.first]

theorem Dir.offset_step (h : lo ≤ i ∧ i ≤ hi) (hs : d.step lo hi i = some j) :
    d.offset lo hi j = d.offset lo hi i + 1 ∧ d.offset lo hi j ≤ hi - lo := by
  cases d <;> (simp only [Dir.step] at hs; split at hs <;> cases hs; simp only [Dir.offset]; omega)

theorem Dir.offset_last (h : lo ≤ i ∧ i ≤ hi) (hs : d.step lo hi i = none) : d.offset lo hi i = hi - lo := by
  cases d <;> (simp only [Dir.step] at hs; split at hs <;> cases hs; simp only [Dir.offset]; omega)

end offset

/-- The place of a cell in a walk of lanes, each of `last + 1` cells. -/
def laneRank (last lane place : Nat) : Nat := lane * (last + 1) + place

section lanes
variable {last lanes lane place lane' place' : Nat}

theorem laneRank_lt (hp : place ≤ last) (hl : lane ≤ lanes) : laneRank last lane place < (lanes + 1) * (last + 1) := by
  have := Nat.mul_le_mul_right (last + 1) hl
  rw [Nat.succ_mul]
  unfold laneRank
  omega

theorem laneRank_inj (hp : place ≤ last) (hp' : place' ≤ last) (h : laneRank last lane place = laneRank last lane' place') :
    place = place' ∧ lane = lane' := by
  unfold laneRank at h
  have hplace := congrArg (· % (last + 1)) h
  have hlane := congrArg (· / (last + 1)) h
  simp only [Nat.mul_add_mod_self_right, Nat.mod_eq_of_lt (Nat.lt_succ_of_le hp),
    Nat.mod_eq_of_lt (Nat.lt_succ_of_le hp')] at hplace
  subst hplace
  exact ⟨rfl, Nat.eq_of_mul_eq_mul_right last.succ_pos (Nat.add_right_cancel h)⟩

theorem laneRank_nextLane : laneRank last (lane + 1) 0 = laneRank last lane last + 1 := by
  unfold laneRank
  rw [Nat.succ_mul]
  omega

theorem laneRank_lastCell : laneRank last lanes last + 1 = (lanes + 1) * (last + 1) := by
  unfold laneRank
  rw [Nat.succ_mul]
  omega

end lanes

namespace Window

/-- The place of a cell in the walk that begins at the start corner. -/
def rank (w : Window) (m : EntryMode) (c : CellIx) : Nat :=
  match m.primary with
  | .x => laneRank (w.x1 - w.x0) (m.yDir.offset w.y0 w.y1 c.cy) (m.xDir.offset w.x0 w.x1 c.cx)
  | .y => laneRank (w.y1 - w.y0) (m.xDir.offset w.x0 w.x1 c.cx) (m.yDir.offset w.y0 w.y1 c.cy)

variable {w : Window} {m : EntryMode} {c d : CellIx}

theorem rank_lt (h : w.Has c) : w.rank m c < w.count := by
  have hx := Dir.offset_le (d := m.xDir) ⟨h.xLo, h.xHi⟩
  have hy := Dir.offset_le (d := m.yDir) ⟨h.yLo, h.yHi⟩
  unfold rank count
  split
  · rw [Nat.mul_comm]
    exact laneRank_lt hx hy
  · exact laneRank_lt hy hx

theorem rank_inj (hc : w.Has c) (hd : w.Has d) (h : w.rank m c = w.rank m d) : c = d := by
  have hx := Dir.offset_le (d := m.xDir) ⟨hc.xLo, hc.xHi⟩
  have hy := Dir.offset_le (d := m.yDir) ⟨hc.yLo, hc.yHi⟩
  have hx' := Dir.offset_le (d := m.xDir) ⟨hd.xLo, hd.xHi⟩
  have hy' := Dir.offset_le (d := m.yDir) ⟨hd.yLo, hd.yHi⟩
  have offsets : m.xDir.offset w.x0 w.x1 c.cx = m.xDir.offset w.x0 w.x1 d.cx ∧
      m.yDir.offset w.y0 w.y1 c.cy = m.yDir.offset w.y0 w.y1 d.cy := by
    unfold rank at h
    split at h
    · exact laneRank_inj hx hx' h
    · exact (laneRank_inj hy hy' h).symm
  have column := Dir.offset_inj ⟨hc.xLo, hc.xHi⟩ ⟨hd.xLo, hd.xHi⟩ offsets.1
  have row := Dir.offset_inj ⟨hc.yLo, hc.yHi⟩ ⟨hd.yLo, hd.yHi⟩ offsets.2
  cases c
  cases d
  simp_all

/-- An advance raises the rank by one, and from the last cell returns it to 0. -/
theorem rank_advance (h : w.Has c) :
    w.rank m (w.advance m c) = w.rank m c + 1 ∨ w.rank m (w.advance m c) = 0 ∧ w.rank m c + 1 = w.count := by
  have hx : w.x0 ≤ c.cx ∧ c.cx ≤ w.x1 := ⟨h.xLo, h.xHi⟩
  have hy : w.y0 ≤ c.cy ∧ c.cy ≤ w.y1 := ⟨h.yLo, h.yHi⟩
  unfold rank advance start count
  cases m.primary
  · dsimp only
    cases sx : m.xDir.step w.x0 w.x1 c.cx with
    | some x =>
      left
      dsimp only
      rw [(Dir.offset_step hx sx).1]
      rfl
    | none =>
      cases sy : m.yDir.step w.y0 w.y1 c.cy with
      | some y =>
        left
        dsimp only
        rw [(Dir.offset_step hy sy).1, Dir.offset_first, Dir.offset_last hx sx, laneRank_nextLane]
      | none =>
        right
        dsimp only
        rw [Dir.offset_first, Dir.offset_first, Dir.offset_last hx sx, Dir.offset_last hy sy, Nat.mul_comm]
        exact ⟨by simp [laneRank], laneRank_lastCell⟩
  · dsimp only
    cases sy : m.yDir.step w.y0 w.y1 c.cy with
    | some y =>
      left
      dsimp only
      rw [(Dir.offset_step hy sy).1]
      rfl
    | none =>
      cases sx : m.xDir.step w.x0 w.x1 c.cx with
      | some x =>
        left
        dsimp only
        rw [(Dir.offset_step hx sx).1, Dir.offset_first, Dir.offset_last hy sy, laneRank_nextLane]
      | none =>
        right
        dsimp only
        rw [Dir.offset_first, Dir.offset_first, Dir.offset_last hx sx, Dir.offset_last hy sy]
        exact ⟨by simp [laneRank], laneRank_lastCell⟩

theorem has_iterate (hw : w.Ok) (h : w.Has c) (n : Nat) : w.Has ((w.advance m)^[n] c) := by
  induction n with
  | zero => exact h
  | succ n ih =>
    rw [Function.iterate_succ_apply']
    exact has_advance hw m ih

theorem rank_iterate (hw : w.Ok) (h : w.Has c) (n : Nat) :
    w.rank m ((w.advance m)^[n] c) = (w.rank m c + n) % w.count := by
  induction n with
  | zero => exact (Nat.mod_eq_of_lt (rank_lt h)).symm
  | succ n ih =>
    have there := has_iterate (m := m) hw h n
    have low := rank_lt (m := m) (has_advance hw m there)
    rw [Function.iterate_succ_apply']
    obtain raised | ⟨first, last⟩ := rank_advance (m := m) there
    · rw [← Nat.mod_eq_of_lt low, raised, ih, Nat.mod_add_mod]
      rfl
    · rw [first, ← Nat.add_assoc, ← Nat.mod_add_mod, ← ih, last, Nat.mod_self]

theorem walk_eq_map (n : Nat) (c : CellIx) : w.walk m n c = (List.range n).map fun k => (w.advance m)^[k] c := by
  induction n generalizing c with
  | zero => rfl
  | succ n ih =>
    rw [walk, ih, List.range_succ_eq_map, List.map_cons, List.map_map]
    rfl

theorem mem_walk {n : Nat} : d ∈ w.walk m n c ↔ ∃ k, k < n ∧ (w.advance m)^[k] c = d := by
  simp only [walk_eq_map, List.mem_map, List.mem_range]

theorem count_pos : 0 < w.count := Nat.mul_pos (Nat.succ_pos _) (Nat.succ_pos _)

/-- Two moments of one round at the same cell are the same moment. -/
theorem iterate_inj (hw : w.Ok) (h : w.Has c) {i j : Nat} (hi : i < w.count) (hj : j < w.count)
    (same : (w.advance m)^[i] c = (w.advance m)^[j] c) : i = j := by
  have ranks := congrArg (w.rank m) same
  rw [rank_iterate hw h, rank_iterate hw h] at ranks
  have congruent : i ≡ j [MOD w.count] := Nat.ModEq.add_left_cancel' _ ranks
  exact congruent.eq_of_lt_of_lt hi hj

theorem walk_nodup (hw : w.Ok) (h : w.Has c) : (w.walk m w.count c).Nodup := by
  rw [walk_eq_map]
  exact List.Nodup.map_on (fun i hi j hj => iterate_inj hw h (List.mem_range.1 hi) (List.mem_range.1 hj))
    List.nodup_range

theorem iterate_count (hw : w.Ok) (h : w.Has c) : (w.advance m)^[w.count] c = c := by
  refine rank_inj (m := m) (has_iterate hw h _) h ?_
  rw [rank_iterate hw h, Nat.add_mod_right, Nat.mod_eq_of_lt (rank_lt h)]

/-- One round visits every cell of the window. -/
theorem mem_walk_count (hw : w.Ok) (h : w.Has c) : w.Has d ↔ d ∈ w.walk m w.count c := by
  rw [mem_walk]
  constructor
  · intro hd
    have hc' := rank_lt (m := m) h
    have hd' := rank_lt (m := m) hd
    refine ⟨(w.rank m d + (w.count - w.rank m c)) % w.count, Nat.mod_lt _ count_pos, ?_⟩
    refine rank_inj (m := m) (has_iterate hw h _) hd ?_
    rw [rank_iterate hw h, Nat.add_mod_mod, show w.rank m c + (w.rank m d + (w.count - w.rank m c)) =
      w.rank m d + w.count by omega, Nat.add_mod_right, Nat.mod_eq_of_lt hd']
  · rintro ⟨k, -, rfl⟩
    exact has_iterate hw h k

end Window

/-- Settles O11. -/
theorem cursorWalksTheWindowOnce : Obligations.CursorWalksTheWindowOnce := fun _ _ _ hw h =>
  ⟨Window.walk_nodup hw h, fun _ => Window.mem_walk_count hw h, Window.iterate_count hw h⟩

end Sys2Proof.Machine
end

section
namespace Sys2Proof.Machine
open Sys2Proof

/-! ## Planner writes over a walk (R4, R18, R22)

A fill and a WRITE CELLS present records at cells one after another. `FloorMap.present` is what that leaves of the two
stores; what it leaves at an address is said once here. -/

/-- The record at an address. -/
def FloorMap.recordAt (fm : FloorMap) (a : Nat) : CellRec := Memory.read CellRec.swept fm.cells a

theorem FloorMap.cellAt_eq (fm : FloorMap) (c : CellIx) : fm.cellAt c = fm.recordAt c.addr := rfl

/-- What a planner write leaves of the Floor Map (R4). -/
def FloorMap.plannerPut (c : CellIx) (r : CellRec) (fm : FloorMap) : FloorMap :=
  if (fm.cellAt c).sensedCliff then fm else fm.putCell c { r with origin := .planner }

/-- What planner writes presented in order leave of the Floor Map. -/
def FloorMap.present : List (CellIx × CellRec) → FloorMap → FloorMap
  | [], fm => fm
  | (c, r) :: l, fm => FloorMap.present l (fm.plannerPut c r)

theorem State.plannerWrite_eq (held : Bool) (c : CellIx) (r : CellRec) (s : State) :
    s.plannerWrite held c r =
      { s with fm := s.fm.plannerPut c r, mo := { s.mo with cu := (s.plannerWrite held c r).mo.cu } } := by
  unfold State.plannerWrite FloorMap.plannerPut
  split
  · rfl
  · rw [State.changeCell_frame]

namespace FloorMap
variable {fm gm : FloorMap} {c : CellIx} {r : CellRec} {a : Nat}

theorem plannerPut_frame (c : CellIx) (r : CellRec) (fm : FloorMap) :
    fm.plannerPut c r =
      { fm with cells := (fm.plannerPut c r).cells, sectors := (fm.plannerPut c r).sectors } := by
  unfold plannerPut
  split
  · rfl
  · exact putCell_frame _ _ _

/-- A planner write reads and writes the two stores alone. -/
theorem plannerPut_congr (hc : fm.cells = gm.cells) (hs : fm.sectors = gm.sectors) :
    (fm.plannerPut c r).cells = (gm.plannerPut c r).cells ∧
    (fm.plannerPut c r).sectors = (gm.plannerPut c r).sectors := by
  have cell : fm.cellAt c = gm.cellAt c := by rw [cellAt, cellAt, hc]
  have sector : fm.sectorAt c.sector = gm.sectorAt c.sector := by rw [sectorAt, sectorAt, hs]
  unfold plannerPut putCell
  rw [cell, sector, hc, hs]
  split
  · exact ⟨hc, hs⟩
  · split
    · exact ⟨hc, hs⟩
    · exact ⟨rfl, rfl⟩

theorem plannerPut_wf (c : CellIx) (r : CellRec) (h : Memory.wf CellRec.swept fm.cells) :
    Memory.wf CellRec.swept (fm.plannerPut c r).cells := by
  unfold plannerPut putCell
  split
  · exact h
  · split
    · exact h
    · exact Memory.wf_write _ _ _ _ h

theorem recordAt_plannerPut_other (ha : a ≠ c.addr) : (fm.plannerPut c r).recordAt a = fm.recordAt a := by
  unfold plannerPut
  split
  · rfl
  · exact read_putCell_other c _ fm ha

theorem recordAt_plannerPut_same (h : Memory.wf CellRec.swept fm.cells) :
    (fm.plannerPut c r).recordAt c.addr =
      if (fm.recordAt c.addr).sensedCliff then fm.recordAt c.addr else { r with origin := .planner } := by
  unfold plannerPut
  rw [cellAt_eq]
  split
  · rfl
  · exact cellAt_putCell_same c _ fm h

/-- A planner write makes no sensed Cliff and takes none away (R4). -/
theorem sensedCliff_plannerPut (h : Memory.wf CellRec.swept fm.cells) (a : Nat) :
    ((fm.plannerPut c r).recordAt a).sensedCliff = (fm.recordAt a).sensedCliff := by
  by_cases ha : a = c.addr
  · subst ha
    rw [recordAt_plannerPut_same h]
    split
    · rfl
    · next safe =>
      rw [Bool.eq_false_iff.2 safe]
      simp [CellRec.sensedCliff]
  · rw [recordAt_plannerPut_other ha]

theorem recordAt_plannerPut_of_hazard (hazard : (fm.recordAt a).sensedCliff = true)
    (h : Memory.wf CellRec.swept fm.cells) : (fm.plannerPut c r).recordAt a = fm.recordAt a := by
  by_cases ha : a = c.addr
  · subst ha
    rw [recordAt_plannerPut_same h, if_pos hazard]
  · exact recordAt_plannerPut_other ha

theorem sectorAt_plannerPut_other {k : Nat} (hk : k ≠ c.sector) : (fm.plannerPut c r).sectorAt k = fm.sectorAt k := by
  unfold plannerPut
  split
  · rfl
  · exact sectorAt_putCell_other c _ fm hk

variable {l : List (CellIx × CellRec)}

theorem present_frame (l : List (CellIx × CellRec)) (fm : FloorMap) :
    fm.present l = { fm with cells := (fm.present l).cells, sectors := (fm.present l).sectors } := by
  induction l generalizing fm with
  | nil => rfl
  | cons p l ih => rw [present, ih, plannerPut_frame]

theorem present_congr (hc : fm.cells = gm.cells) (hs : fm.sectors = gm.sectors) :
    (fm.present l).cells = (gm.present l).cells ∧ (fm.present l).sectors = (gm.present l).sectors := by
  induction l generalizing fm gm with
  | nil => exact ⟨hc, hs⟩
  | cons p l ih =>
    obtain ⟨hc', hs'⟩ := plannerPut_congr (c := p.1) (r := p.2) hc hs
    exact ih hc' hs'

theorem recordAt_present_other (ha : a ∉ l.map fun p => p.1.addr) : (fm.present l).recordAt a = fm.recordAt a := by
  induction l generalizing fm with
  | nil => rfl
  | cons p l ih =>
    rw [List.map_cons, List.mem_cons, not_or] at ha
    exact (ih ha.2).trans (recordAt_plannerPut_other ha.1)

theorem sectorAt_present_other {k : Nat} (hk : k ∉ l.map fun p => p.1.sector) :
    (fm.present l).sectorAt k = fm.sectorAt k := by
  induction l generalizing fm with
  | nil => rfl
  | cons p l ih =>
    rw [List.map_cons, List.mem_cons, not_or] at hk
    exact (ih hk.2).trans (sectorAt_plannerPut_other hk.1)

theorem recordAt_present_of_hazard (hazard : (fm.recordAt a).sensedCliff = true)
    (h : Memory.wf CellRec.swept fm.cells) : (fm.present l).recordAt a = fm.recordAt a := by
  induction l generalizing fm with
  | nil => rfl
  | cons p l ih =>
    have kept := recordAt_plannerPut_of_hazard (c := p.1) (r := p.2) hazard h
    exact (ih (by rw [kept]; exact hazard) (plannerPut_wf _ _ h)).trans kept

/-- The last record presented at an address stands there. -/
theorem recordAt_present_last {j : Nat} (h : Memory.wf CellRec.swept fm.cells) (hj : l[j]? = some (c, r))
    (last : ∀ i p, j < i → l[i]? = some p → p.1.addr ≠ c.addr) (safe : (fm.recordAt c.addr).sensedCliff = false) :
    (fm.present l).recordAt c.addr = { r with origin := .planner } := by
  induction l generalizing fm j with
  | nil => simp at hj
  | cons p l ih =>
    cases j with
    | zero =>
      obtain rfl : p = (c, r) := by simpa using hj
      have off : c.addr ∉ l.map fun p => p.1.addr := by
        intro on
        obtain ⟨q, hq, same⟩ := List.mem_map.1 on
        obtain ⟨i, hi⟩ := List.mem_iff_getElem?.1 hq
        exact last (i + 1) q i.succ_pos (by simpa using hi) same
      rw [present, recordAt_present_other off, recordAt_plannerPut_same h, if_neg (by simp [safe])]
    | succ j =>
      refine ih (plannerPut_wf _ _ h) (by simpa using hj) (fun i q hi hq => ?_)
        ((sensedCliff_plannerPut h _).trans safe)
      exact last (i + 1) q (Nat.succ_lt_succ hi) (by simpa using hq)

/-- One record presented at each cell of a walk stands at each of them that holds no sensed Cliff. -/
theorem recordAt_present_walk {walk : List CellIx} (h : Memory.wf CellRec.swept fm.cells)
    (ha : a ∈ walk.map CellIx.addr) :
    (fm.present (walk.map (·, r))).recordAt a =
      if (fm.recordAt a).sensedCliff then fm.recordAt a else { r with origin := .planner } := by
  induction walk generalizing fm with
  | nil => simp at ha
  | cons c walk ih =>
    by_cases more : a ∈ walk.map CellIx.addr
    · have kept (hazard : (fm.recordAt a).sensedCliff = true) : (fm.plannerPut c r).recordAt a = fm.recordAt a :=
        recordAt_plannerPut_of_hazard hazard h
      rw [List.map_cons, present, ih (plannerPut_wf _ _ h) more, sensedCliff_plannerPut h]
      split
      · next hazard => exact kept hazard
      · rfl
    · obtain rfl : a = c.addr := by
        rw [List.map_cons, List.mem_cons] at ha
        exact ha.resolve_right more
      have off : c.addr ∉ (walk.map (·, r)).map fun p => p.1.addr := by simpa [List.map_map] using more
      rw [List.map_cons, present, recordAt_present_other off, recordAt_plannerPut_same h]

theorem heldOn_plannerPut (h : Memory.wf CellRec.swept fm.cells) (walk : List CellIx) :
    (fm.plannerPut c r).heldOn walk = fm.heldOn walk := by
  unfold heldOn
  refine List.countP_congr fun d _ => ?_
  rw [cellAt_eq, cellAt_eq, sensedCliff_plannerPut h]

theorem heldOn_congr (hc : fm.cells = gm.cells) (walk : List CellIx) : fm.heldOn walk = gm.heldOn walk := by
  unfold heldOn cellAt
  rw [hc]

theorem heldOn_cons (fm : FloorMap) (c : CellIx) (walk : List CellIx) :
    fm.heldOn (c :: walk) = (fm.cellAt c).sensedCliff.toNat + fm.heldOn walk := by
  unfold heldOn
  rw [List.countP_cons]
  cases (fm.cellAt c).sensedCliff <;> simp [Nat.add_comm]

end FloorMap

/-! ### WRITE CELLS (R18, R19) -/

theorem State.writeByte_eq {b : Byte} {r : CellRec} (h : CellRec.ofByte b = some r) (s : State) :
    s.writeByte b =
      { s with
        fm := { s.fm.plannerPut s.fm.cursor r with cursor := s.fm.win.advance s.fm.mode s.fm.cursor }
        mo := { s.mo with cu := (s.writeByte b).mo.cu } } := by
  unfold State.writeByte
  rw [h]
  dsimp only
  rw [State.plannerWrite_eq, FloorMap.advance, FloorMap.plannerPut_frame]

/-- What the bytes of a WRITE CELLS leave, and their held count (R18). -/
theorem writeBytes_eq {cells : List Byte} {recs : List CellRec} (n : Nat) {s : State}
    (h : cells.map CellRec.ofByte = recs.map some) (wf : Memory.wf CellRec.swept s.fm.cells) {walk : List CellIx}
    (hw : walk = s.fm.win.walk s.fm.mode cells.length s.fm.cursor) :
    (writeBytes cells n s).2 = n + s.fm.heldOn walk ∧
    (writeBytes cells n s).1 =
      { s with
        fm := { s.fm with cells := (s.fm.present (walk.zip recs)).cells
                          sectors := (s.fm.present (walk.zip recs)).sectors
                          cursor := (s.fm.win.advance s.fm.mode)^[cells.length] s.fm.cursor }
        mo := { s.mo with cu := (writeBytes cells n s).1.mo.cu } } := by
  subst hw
  induction cells generalizing recs n s with
  | nil =>
    cases recs with
    | nil => exact ⟨rfl, rfl⟩
    | cons r recs => simp at h
  | cons b cells ih =>
    cases recs with
    | nil => simp at h
    | cons r recs =>
      obtain ⟨first, rest⟩ := List.cons.inj h
      have whole := State.writeByte_eq first s
      have put := FloorMap.plannerPut_frame s.fm.cursor r s.fm
      have fm : (s.writeByte b).fm =
          { s.fm with cells := (s.fm.plannerPut s.fm.cursor r).cells
                      sectors := (s.fm.plannerPut s.fm.cursor r).sectors
                      cursor := s.fm.win.advance s.fm.mode s.fm.cursor } := by
        rw [whole]
        exact congrArg (fun g : FloorMap => { g with cursor := s.fm.win.advance s.fm.mode s.fm.cursor }) put
      have stores : (s.writeByte b).fm.cells = (s.fm.plannerPut s.fm.cursor r).cells ∧
          (s.writeByte b).fm.sectors = (s.fm.plannerPut s.fm.cursor r).sectors := by
        rw [fm]
        exact ⟨rfl, rfl⟩
      have put' : Memory.wf CellRec.swept (s.writeByte b).fm.cells := by
        rw [stores.1]
        exact FloorMap.plannerPut_wf _ _ wf
      obtain ⟨count, left⟩ := ih (n + (s.fm.cellAt s.fm.cursor).sensedCliff.toNat) rest put'
      have win : (s.writeByte b).fm.win = s.fm.win := by rw [fm]
      have mode : (s.writeByte b).fm.mode = s.fm.mode := by rw [fm]
      have cursor : (s.writeByte b).fm.cursor = s.fm.win.advance s.fm.mode s.fm.cursor := by rw [fm]
      rw [win, mode, cursor] at count left
      obtain ⟨hcells, hsectors⟩ := FloorMap.present_congr stores.1 stores.2
        (l := (s.fm.win.walk s.fm.mode cells.length (s.fm.win.advance s.fm.mode s.fm.cursor)).zip recs)
      constructor
      · rw [writeBytes, count, FloorMap.heldOn_congr stores.1, FloorMap.heldOn_plannerPut wf, List.length_cons,
          Window.walk, FloorMap.heldOn_cons, Nat.add_assoc]
      · rw [writeBytes]
        refine left.trans ?_
        rw [hcells, hsectors, fm, whole]
        rfl

end Sys2Proof.Machine
end

section
namespace Sys2Proof.Machine
open Sys2Proof

/-! ## WRITE CELLS as a request (R18, R19, R24) -/

theorem CellRec.ofByte_eq_none {b : Byte} (h : b.toNat % 8 = 7) : CellRec.ofByte b = none := by
  simp [CellRec.ofByte, h, CellClass.ofCode]

theorem CellClass.ofCode_isSome {n : Nat} (h : n < 7) : (CellClass.ofCode n).isSome = true := by
  interval_cases n <;> rfl

/-- A byte of another class code than 7 carries a record. -/
theorem CellRec.ofByte_eq_some {b : Byte} (h : b.toNat % 8 ≠ 7) : ∃ k, CellClass.ofCode (b.toNat % 8) = some k ∧
    CellRec.ofByte b = some { cls := k, conf := b.extractLsb' 3 3, origin := .planner, visited := b.getLsbD 7 } := by
  obtain ⟨k, hk⟩ := Option.isSome_iff_exists.1 (CellClass.ofCode_isSome (n := b.toNat % 8) (by omega))
  exact ⟨k, hk, by rw [CellRec.ofByte, hk]; rfl⟩

theorem firstBadCell_eq_none {cells : List Byte} (h : ∀ b ∈ cells, b.toNat % 8 ≠ 7) (n : Nat) :
    firstBadCell n cells = none := by
  induction cells generalizing n with
  | nil => rfl
  | cons b cells ih =>
    obtain ⟨k, -, record⟩ := CellRec.ofByte_eq_some (h b List.mem_cons_self)
    rw [firstBadCell, record]
    exact ih (fun c hc => h c (List.mem_cons_of_mem _ hc)) _

theorem firstBadCell_eq_some {cells : List Byte} {n : Nat} {b : Byte} (m : Nat) (hn : cells[n]? = some b)
    (bad : b.toNat % 8 = 7) (before : ∀ j c, j < n → cells[j]? = some c → c.toNat % 8 ≠ 7) :
    firstBadCell m cells = some (m + n) := by
  induction cells generalizing m n with
  | nil => simp at hn
  | cons c cells ih =>
    cases n with
    | zero =>
      obtain rfl : c = b := by simpa using hn
      rw [firstBadCell, CellRec.ofByte_eq_none bad]
      rfl
    | succ n =>
      obtain ⟨k, -, record⟩ := CellRec.ofByte_eq_some (before 0 c n.succ_pos rfl)
      rw [firstBadCell, record]
      refine (ih (m + 1) (by simpa using hn) fun j d hj hd => ?_).trans (by congr 1; omega)
      exact before (j + 1) d (Nat.succ_lt_succ hj) (by simpa using hd)

/-- The records of bytes that all carry one. -/
theorem recordsOf {cells : List Byte} (h : ∀ b ∈ cells, b.toNat % 8 ≠ 7) :
    ∃ recs : List CellRec, cells.map CellRec.ofByte = recs.map some := by
  induction cells with
  | nil => exact ⟨[], rfl⟩
  | cons b cells ih =>
    obtain ⟨k, -, record⟩ := CellRec.ofByte_eq_some (h b List.mem_cons_self)
    obtain ⟨recs, rest⟩ := ih fun c hc => h c (List.mem_cons_of_mem _ hc)
    exact ⟨_ :: recs, by rw [List.map_cons, record, rest, List.map_cons]⟩

theorem writeBytes_taken (cells : List Byte) (n k : Nat) (s : State) :
    (writeBytes cells n (s.taken k)).1 = (writeBytes cells n s).1.taken k := by
  have one (b : Byte) (q : State) : (q.taken k).writeByte b = (q.writeByte b).taken k := by
    refine (State.writeByte_withPort b _ q).trans ?_
    rw [State.taken, State.writeByte_pp]
    rfl
  induction cells generalizing n s with
  | nil => rfl
  | cons b cells ih =>
    rw [writeBytes, writeBytes, one, ih]
    rfl

theorem writeBytes_taken_held (cells : List Byte) (n k : Nat) (s : State) :
    (writeBytes cells n (s.taken k)).2 = (writeBytes cells n s).2 := writeBytes_withPort _ cells n s

section owner
variable {cells : List Byte} {s : State}

theorem serveWriteCells_of_bad {n : Nat} (some' : cells ≠ []) (bad : firstBadCell 0 cells = some n) :
    serveWriteCells cells s = (s, .invalid 2 n) := by
  rw [serveWriteCells, if_neg some', bad]

theorem serveWriteCells_of_busy (some' : cells ≠ []) (good : ∀ b ∈ cells, b.toNat % 8 ≠ 7)
    (busy : s.fm.fill.isSome = true ∨ s.mo.cu.checks ≠ []) : serveWriteCells cells s = (s, .busy) := by
  rw [serveWriteCells, if_neg some', firstBadCell_eq_none good]
  exact if_pos (by simpa [State.filling, State.checking] using busy)

theorem serveWriteCells_of_free (some' : cells ≠ []) (good : ∀ b ∈ cells, b.toNat % 8 ≠ 7) (fill : s.fm.fill = none)
    (checks : s.mo.cu.checks = []) :
    serveWriteCells cells s =
      ({ (writeBytes cells 0 s).1 with
          fm := { (writeBytes cells 0 s).1.fm with mapHeld := 0 < (writeBytes cells 0 s).2 } },
       .done (leBytes 2 (writeBytes cells 0 s).2)) := by
  rw [serveWriteCells, if_neg some', firstBadCell_eq_none good]
  exact if_neg (by simp [State.filling, State.checking, fill, checks])

end owner

theorem writeCellsFrame_length (cells : List Byte) : 3 + (Frame.mk' 0x12 cells).body.length = 3 + cells.length := rfl

/-- A WRITE CELLS carried out on a ready part. -/
theorem exec_writeCells {cells : List Byte} {s : State} (hs : s.Ready) (some' : cells ≠ []) (len : cells.length ≤ 1024)
    (good : ∀ b ∈ cells, b.toNat % 8 ≠ 7) (fill : s.fm.fill = none) (checks : s.mo.cu.checks = []) :
    exec (.writeCells cells) s = .next (State.answered (3 + cells.length) (.done (leBytes 2 (writeBytes cells 0 s).2))
      { (writeBytes cells 0 s).1 with
        fm := { (writeBytes cells 0 s).1.fm with mapHeld := 0 < (writeBytes cells 0 s).2 } }) := by
  refine exec_leaves hs rfl (Frame.mk'_envelope 0x12 cells len) (writeCellsFrame_length cells) ?_
  refine (serveWriteCells_of_free (s := s.taken _) some' good fill checks).trans ?_
  rw [writeBytes_taken, writeBytes_taken_held]
  rfl

theorem zip_map_fst {walk : List CellIx} {recs : List CellRec} (h : walk.length = recs.length) {α : Type}
    (f : CellIx → α) : ((walk.zip recs).map fun p => f p.1) = walk.map f := by
  have first := congrArg (List.map f) (List.map_fst_zip h.le)
  rwa [List.map_map] at first

theorem Window.walk_length (w : Window) (m : EntryMode) (n : Nat) (c : CellIx) : (w.walk m n c).length = n := by
  rw [Window.walk_eq_map, List.length_map, List.length_range]

/-- Settles O12. -/
theorem writeCellsWalksTheWindow : Obligations.WriteCellsWalksTheWindow := by
  intro cells s hs
  refine ⟨fun none' => ?_, fun n b len hn bad before => ?_, fun some' len good => ⟨fun busy => ?_,
    fun fill checks wf walk held hwalk hheld => ?_⟩, fun b r one fill checks wf record => ?_⟩
  · subst none'
    exact exec_answers_same hs rfl rfl rfl rfl
  · refine exec_answers_same hs rfl (Frame.mk'_envelope 0x12 cells len) (writeCellsFrame_length cells) ?_
    have some' : cells ≠ [] := by
      rintro rfl
      simp at hn
    refine serveWriteCells_of_bad (s := s.taken _) some' ?_
    rw [firstBadCell_eq_some 0 hn bad before, Nat.zero_add]
  · exact exec_answers_same hs rfl (Frame.mk'_envelope 0x12 cells len) (writeCellsFrame_length cells)
      (serveWriteCells_of_busy (s := s.taken _) some' good busy)
  · obtain ⟨recs, hrecs⟩ := recordsOf good
    obtain ⟨count, left⟩ := writeBytes_eq 0 hrecs wf hwalk
    rw [Nat.zero_add, ← hheld] at count
    have same : walk.length = recs.length := by
      have := congrArg List.length hrecs
      rw [List.length_map, List.length_map] at this
      rw [hwalk, Window.walk_length, this]
    have at' (a : Nat) : Memory.read CellRec.swept (writeBytes cells 0 s).1.fm.cells a =
        (s.fm.present (walk.zip recs)).recordAt a := by
      rw [left]
      rfl
    have sectors (k : Nat) : (writeBytes cells 0 s).1.fm.sectorAt k = (s.fm.present (walk.zip recs)).sectorAt k := by
      rw [left]
      rfl
    refine ⟨_, exec_writeCells hs some' len good fill checks, by rw [count, left]; rfl, by rw [count]; rfl,
      by rw [left]; rfl, fun c _ hazard => ?_, fun j b c hb hc last safe => ?_, fun a ha => ?_, fun k hk => ?_, ?_⟩
    · exact (at' c.addr).trans (FloorMap.recordAt_present_of_hazard hazard wf)
    · obtain ⟨k, hk, record⟩ := CellRec.ofByte_eq_some (good b (List.mem_of_getElem? hb))
      refine ⟨k, hk, (at' c.addr).trans ?_⟩
      have written : (walk.zip recs)[j]? =
          some (c, { cls := k, conf := b.extractLsb' 3 3, origin := .planner, visited := b.getLsbD 7 }) := by
        have rec' := congrArg (·[j]?) hrecs
        simp only [List.getElem?_map, hb, Option.map_some, record] at rec'
        rw [List.getElem?_zip_eq_some]
        refine ⟨hc, ?_⟩
        cases h : recs[j]? with
        | none => simp [h] at rec'
        | some r => rw [h] at rec'; exact (Option.some.inj rec').symm
      refine FloorMap.recordAt_present_last wf written (fun i p hi hp => ?_) safe
      exact last i p.1 hi (List.getElem?_zip_eq_some.1 hp).1
    · exact (at' a).trans (FloorMap.recordAt_present_other (by rwa [zip_map_fst same]))
    · exact (sectors k).trans (FloorMap.sectorAt_present_other (by rwa [zip_map_fst same]))
    · rw [left]
      rfl
  · subst one
    have good : ∀ c ∈ [b], c.toNat % 8 ≠ 7 := by
      intro c hc bad
      obtain rfl : c = b := by simpa using hc
      rw [CellRec.ofByte_eq_none bad] at record
      cases record
    refine ⟨_, exec_writeCells hs (by simp) (by simp) good fill checks, fun hazard => ?_, fun safe => ?_⟩
    · have write : s.plannerWrite true s.fm.cursor r = s := if_pos hazard
      have byte' : s.writeByte b = { s with fm := s.fm.advance } := by
        rw [State.writeByte, record]
        dsimp only
        rw [write]
      simp only [writeBytes, byte', hazard]
      exact ⟨rfl, rfl, rfl, rfl, rfl⟩
    · have write : s.plannerWrite true s.fm.cursor r = s.changeCell true s.fm.cursor { r with origin := .planner } :=
        if_neg (by simp [safe])
      have byte' : s.writeByte b =
          { s.changeCell true s.fm.cursor { r with origin := .planner } with
            fm := (s.changeCell true s.fm.cursor { r with origin := .planner }).fm.advance } := by
        rw [State.writeByte, record]
        dsimp only
        rw [write]
      have cells : (s.changeCell true s.fm.cursor { r with origin := .planner }).fm.cells =
          (s.fm.putCell s.fm.cursor { r with origin := .planner }).cells := by rw [State.changeCell_frame]
      have unit := congrArg (fun q : State => q.mo.cu)
        (State.changeCell_eq true s.fm.cursor { r with origin := .planner } s)
      simp only [writeBytes, byte', safe]
      refine ⟨?_, rfl, rfl, unit, fun a ha => ?_⟩
      · exact (congrArg (Memory.read _ · s.fm.cursor.addr) cells).trans (FloorMap.cellAt_putCell_same _ _ s.fm wf)
      · exact (congrArg (Memory.read _ · a) cells).trans (FloorMap.read_putCell_other _ _ s.fm ha)

end Sys2Proof.Machine
end

section
namespace Sys2Proof.Machine
open Sys2Proof

/-! ## The fill (R19, R21, R22) -/

section owner
variable {b : Byte} {r : CellRec} {s : State}

theorem serveFillWindow_of_busy (h : CellRec.ofByte b = some r) (busy : s.fm.fill.isSome = true ∨ s.mo.cu.checks ≠ []) :
    serveFillWindow b s = (s, .busy) := by
  rw [serveFillWindow, h]
  exact if_pos (by simpa [State.filling, State.checking] using busy)

theorem serveFillWindow_of_free (h : CellRec.ofByte b = some r) (fill : s.fm.fill = none)
    (checks : s.mo.cu.checks = []) :
    serveFillWindow b s =
      ({ s with fm := { s.fm with fill := some { cell := r, win := s.fm.win, mode := s.fm.mode,
                                                 pos := s.fm.win.start s.fm.mode, left := s.fm.win.count, held := 0 } } },
       .started) := by
  rw [serveFillWindow, h]
  exact if_neg (by simp [State.filling, State.checking, fill, checks])

end owner

theorem State.fillStep_eq {s : State} {f : Fill} (h : s.fm.fill = some f) :
    s.fillStep =
      { s with
        fm := { s.fm with cells := (s.fm.plannerPut f.pos f.cell).cells
                          sectors := (s.fm.plannerPut f.pos f.cell).sectors
                          fill := some (f.onward (s.fm.cellAt f.pos).sensedCliff) }
        mo := { s.mo with cu := s.fillStep.mo.cu } } := by
  have put := FloorMap.plannerPut_frame f.pos f.cell s.fm
  unfold State.fillStep
  rw [h]
  dsimp only
  rw [State.plannerWrite_eq, put]
  rfl

/-- What n steps of a fill leave: its record presented along the walk, and the fill n cells on (R22). -/
theorem State.fillSteps_eq (n : Nat) {s : State} {f : Fill} (h : s.fm.fill = some f)
    (wf : Memory.wf CellRec.swept s.fm.cells) {walk : List CellIx} (hw : walk = f.win.walk f.mode n f.pos) :
    State.fillSteps n s =
      { s with
        fm := { s.fm with cells := (s.fm.present (walk.map (·, f.cell))).cells
                          sectors := (s.fm.present (walk.map (·, f.cell))).sectors
                          fill := some { f with pos := (f.win.advance f.mode)^[n] f.pos
                                                left := f.left - n
                                                held := f.held + s.fm.heldOn walk } }
        mo := { s.mo with cu := (State.fillSteps n s).mo.cu } } := by
  subst hw
  induction n generalizing s f with
  | zero =>
    change s = { s with fm := { s.fm with fill := some f } }
    rw [← h]
  | succ n ih =>
    have step := State.fillStep_eq h
    have stores : s.fillStep.fm.cells = (s.fm.plannerPut f.pos f.cell).cells ∧
        s.fillStep.fm.sectors = (s.fm.plannerPut f.pos f.cell).sectors := by
      rw [step]
      exact ⟨rfl, rfl⟩
    have next : s.fillStep.fm.fill = some (f.onward (s.fm.cellAt f.pos).sensedCliff) := by rw [step]
    have wf' : Memory.wf CellRec.swept s.fillStep.fm.cells := by
      rw [stores.1]
      exact FloorMap.plannerPut_wf _ _ wf
    have rest := ih next wf'
    obtain ⟨hcells, hsectors⟩ := FloorMap.present_congr stores.1 stores.2
      (l := (f.win.walk f.mode n (f.win.advance f.mode f.pos)).map (·, f.cell))
    have held : f.held + (s.fm.cellAt f.pos).sensedCliff.toNat +
        s.fillStep.fm.heldOn (f.win.walk f.mode n (f.win.advance f.mode f.pos)) =
        f.held + s.fm.heldOn (f.win.walk f.mode (n + 1) f.pos) := by
      rw [FloorMap.heldOn_congr stores.1, FloorMap.heldOn_plannerPut wf, Window.walk, FloorMap.heldOn_cons,
        Nat.add_assoc]
    have left : f.left - 1 - n = f.left - (n + 1) := by omega
    rw [State.fillSteps]
    refine rest.trans ?_
    dsimp only [Fill.onward]
    rw [hcells, hsectors, held, left, step]
    rfl

theorem State.fillEnd_eq {s : State} {f : Fill} (h : s.fm.fill = some f) :
    s.fillEnd = { s with fm := { s.fm with fill := none, mapHeld := 0 < f.held }, mo := s.mo.raise .fillDone } := by
  rw [State.fillEnd, h]

theorem exec_fillProgress (n : Nat) (s : State) {f : Fill} (h : s.fm.fill = some f) :
    exec (.fillProgress n) s = .next (State.fillSteps (min n (f.left - 1)) s) := by
  change execFillProgress n s = _
  rw [execFillProgress, State.fillLeft_of_some h]

theorem exec_fillDone_of_last {s : State} {f : Fill} (h : s.fm.fill = some f) (last : f.left = 1) :
    exec .fillDone s = .next s.fillStep.fillEnd := by
  change execFillDone s = _
  rw [execFillDone, State.fillAtLast, h]
  exact if_pos (decide_eq_true last)

theorem exec_fillDone_of_more {s : State} (h : ∀ f, s.fm.fill = some f → f.left ≠ 1) : exec .fillDone s = .next s := by
  change execFillDone s = _
  rw [execFillDone, State.fillAtLast]
  cases hf : s.fm.fill with
  | none => rfl
  | some f => exact if_neg (by simpa using h f hf)

/-- Settles O13. -/
theorem fillsWalkTheirWindow : Obligations.FillsWalkTheirWindow := by
  intro s
  refine ⟨fun hs b => ⟨fun bad => ?_, fun r record => ⟨fun busy => ?_, fun fill checks => ?_⟩⟩,
    fun n f walk fill wf hwalk => ?_, fun f fill last wf => ?_, exec_fillDone_of_more⟩
  · refine exec_answers_same hs rfl rfl rfl ?_
    simp only [serve, serveFillWindow, CellRec.ofByte_eq_none bad]
  · exact exec_answers_same hs rfl rfl rfl (serveFillWindow_of_busy (s := s.taken 4) record busy)
  · exact exec_answers hs rfl rfl rfl (serveFillWindow_of_free (s := s.taken 4) record fill checks)
  · have whole := State.fillSteps_eq (min n (f.left - 1)) fill wf hwalk
    have at' (a : Nat) : Memory.read CellRec.swept (State.fillSteps (min n (f.left - 1)) s).fm.cells a =
        (s.fm.present (walk.map (·, f.cell))).recordAt a := by
      rw [whole]
      rfl
    refine ⟨_, exec_fillProgress n s fill, fun c hc => ?_, fun a ha => ?_, ?_⟩
    · exact (at' c.addr).trans (FloorMap.recordAt_present_walk wf (List.mem_map_of_mem hc))
    · refine (at' a).trans (FloorMap.recordAt_present_other ?_)
      rwa [List.map_map]
    · refine whole.trans ?_
      rw [whole]
  · have step := State.fillStep_eq fill
    have next : s.fillStep.fm.fill = some (f.onward (s.fm.cellAt f.pos).sensedCliff) := by rw [step]
    have whole := State.fillEnd_eq next
    have at' (a : Nat) : Memory.read CellRec.swept s.fillStep.fillEnd.fm.cells a =
        (s.fm.plannerPut f.pos f.cell).recordAt a := by
      rw [whole, step]
      rfl
    have held : decide (0 < f.held + (s.fm.cellAt f.pos).sensedCliff.toNat) =
        (decide (0 < f.held) || (s.fm.cellAt f.pos).sensedCliff) := by
      cases (s.fm.cellAt f.pos).sensedCliff <;> simp
    refine ⟨_, exec_fillDone_of_last fill last, ?_, fun a ha => ?_, ?_⟩
    · exact (at' f.pos.addr).trans (FloorMap.recordAt_plannerPut_same wf)
    · exact (at' a).trans (FloorMap.recordAt_plannerPut_other ha)
    · rw [← held, whole, step]
      rfl

theorem Window.count_le {w : Window} (hw : w.Ok) : w.count ≤ 65536 := by
  obtain ⟨-, -, hx, hy⟩ := hw
  exact Nat.mul_le_mul (show w.x1 - w.x0 + 1 ≤ 256 by omega) (show w.y1 - w.y0 + 1 ≤ 256 by omega)

theorem State.fillSteps_succ (n : Nat) (s : State) : State.fillSteps (n + 1) s = (State.fillSteps n s).fillStep := by
  induction n generalizing s with
  | zero => rfl
  | succ n ih => exact ih s.fillStep

theorem FloorMap.heldOn_pos (fm : FloorMap) (walk : List CellIx) :
    0 < fm.heldOn walk ↔ ∃ c ∈ walk, (fm.cellAt c).sensedCliff = true := List.countP_pos_iff

/-- Settles O14. -/
theorem fillWritesTheWindow : Obligations.FillWritesTheWindow := by
  intro b r s hs sound fill checks record
  have window := sound.win
  obtain ⟨last, hlast⟩ : ∃ last, s.fm.win.count = last + 1 := Nat.exists_eq_succ_of_ne_zero Window.count_pos.ne'
  obtain ⟨t, ht⟩ : ∃ t, t = State.answered 4 .started { s with fm := { s.fm with
      fill := some { cell := r, win := s.fm.win, mode := s.fm.mode, pos := s.fm.win.start s.fm.mode,
                     left := s.fm.win.count, held := 0 } } } := ⟨_, rfl⟩
  have started : exec (.fillWindow b) s = .next t := by
    rw [ht]
    exact (((fillsWalkTheirWindow s).1 hs b).2 r record).2 fill checks
  have running : t.fm.fill =
      some { cell := r, win := s.fm.win, mode := s.fm.mode, pos := s.fm.win.start s.fm.mode,
             left := s.fm.win.count, held := 0 } := by
    rw [ht]
    rfl
  have cells : t.fm.cells = s.fm.cells := by rw [ht]; rfl
  have going := State.fillSteps_eq last running (by rw [cells]; exact sound.cells) rfl
  have gone := State.fillSteps_eq (last + 1) running (by rw [cells]; exact sound.cells) rfl
  have lastCell : exec .fillDone (State.fillSteps last t) = .next (State.fillSteps (last + 1) t).fillEnd := by
    rw [State.fillSteps_succ]
    refine exec_fillDone_of_last (by rw [going]) ?_
    simp only [hlast]
    omega
  have ended := State.fillEnd_eq (s := State.fillSteps (last + 1) t) (by rw [gone])
  have least : min 65536 (s.fm.win.count - 1) = last := by
    have := Window.count_le window
    omega
  have round (c : CellIx) : s.fm.win.Has c ↔
      c ∈ s.fm.win.walk s.fm.mode (last + 1) (s.fm.win.start s.fm.mode) := by
    rw [← hlast]
    exact Window.mem_walk_count window (Window.has_start window _)
  have at' (a : Nat) : (State.fillSteps (last + 1) t).fillEnd.fm.recordAt a = (t.fm.present
      ((s.fm.win.walk s.fm.mode (last + 1) (s.fm.win.start s.fm.mode)).map (·, r))).recordAt a := by
    rw [ended, gone]
    rfl
  have before (a : Nat) : t.fm.recordAt a = s.fm.recordAt a := by rw [FloorMap.recordAt, cells]; rfl
  refine ⟨t, State.fillSteps last t, _, started, ?_, lastCell, ?_, ?_, ?_, ?_, fun c hc => ?_, fun c inMap hc => ?_⟩
  · rw [exec_fillProgress 65536 t running, least]
  · rw [ended]
  · have held := FloorMap.heldOn_pos t.fm (s.fm.win.walk s.fm.mode (last + 1) (s.fm.win.start s.fm.mode))
    rw [FloorMap.heldOn_congr cells] at held
    rw [ended]
    simp only [decide_eq_true_eq, Nat.zero_add, FloorMap.heldOn_congr cells, held, round]
    simp only [FloorMap.cellAt_eq, before]
  · rw [ended, gone, ht]
    rfl
  · rw [ended, gone, ht]
    rfl
  · have wf : Memory.wf CellRec.swept t.fm.cells := by rw [cells]; exact sound.cells
    refine (at' c.addr).trans ((FloorMap.recordAt_present_walk wf (List.mem_map_of_mem ((round c).1 hc))).trans ?_)
    rw [before]
    rfl
  · refine (at' c.addr).trans ((FloorMap.recordAt_present_other fun on => hc ?_).trans (before _))
    rw [List.map_map] at on
    obtain ⟨d, hd, same⟩ := List.mem_map.1 on
    have there := (round d).2 hd
    obtain rfl : d = c := CellIx.eq_of_addr (there.inMap window) inMap same
    exact there

end Sys2Proof.Machine
end

section
namespace Sys2Proof.Machine
open Sys2Proof

/-! ## FIX POSE and SET DOCK POSE (R46, R47, R153) -/

theorem State.lostTest_of_still {s : State} (h : s.mo.Still) : s.lostTest = s := by
  obtain ⟨seg, todo⟩ := h
  have quiet : lostIndication s.mo = s.mo := by rw [lostIndication, seg]
  unfold State.lostTest
  split
  · rw [State.engine_of_none (fun _ m => lostIndication m) s (by rw [quiet]; exact todo), quiet]
  · rfl

theorem State.lostTest_taken (n : Nat) (s : State) : (s.taken n).lostTest = s.lostTest.taken n := by
  change (if s.tun.lostLimit ≤ s.mo.pu.u then (s.taken n).engine fun _ m => lostIndication m else s.taken n) = _
  unfold State.lostTest
  split <;> rfl

section owner
variable {x y u : Word} {theta : Half} {s : State}

theorem serveFixPose_of_refused (hx : x.toNat ≤ 12799999) (hy : y.toNat ≤ 12799999) (hu : u.toNat ≤ 1000000)
    (h : s.mo.dp.grant.state ≠ .none ∨ s.mo.cu.checks ≠ []) :
    serveFixPose x y theta u s = (s, .rejected .grantActive) := by
  have open' : s.mo.dp.grant.state.outstanding = true ↔ s.mo.dp.grant.state ≠ .none := by
    cases s.mo.dp.grant.state <;> simp [GrantState.outstanding]
  rw [serveFixPose, if_neg (Nat.not_lt.2 hx), if_neg (Nat.not_lt.2 hy), if_neg (Nat.not_lt.2 hu)]
  exact if_pos (by rw [Bool.or_eq_true, open']; simpa [State.checking] using h)

theorem serveFixPose_of_free (hx : x.toNat ≤ 12799999) (hy : y.toNat ≤ 12799999) (hu : u.toNat ≤ 1000000)
    (grant : s.mo.dp.grant.state = .none) (checks : s.mo.cu.checks = []) {pu : PoseUnit}
    (hpu : pu = { s.mo.pu with x := x.toNat, y := y.toNat, theta := theta.toNat, u := u.toNat
                               centre := { cx := x.toNat / 50000, cy := y.toNat / 50000 }, slip := 0 }) :
    serveFixPose x y theta u s = ((s.withPose pu).lostTest, .done []) := by
  rw [serveFixPose, if_neg (Nat.not_lt.2 hx), if_neg (Nat.not_lt.2 hy), if_neg (Nat.not_lt.2 hu),
    if_neg (by simp [grant, GrantState.outstanding, State.checking, checks]), hpu]
  rfl

end owner

section dock
variable {x y : Word} {theta d : Half} {s : State}

theorem standoffPoint_eq (x y : Word) (theta d : Half) :
    standoffPoint x.toNat y.toNat theta.toNat (standoffOf d) =
      pointAlong x.toNat y.toNat ((theta.toNat + 32768) % 65536) ((if d = 0 then 300 else d.toNat) * 1000 : Nat) := by
  have heading : wrapHeading ((theta.toNat : Int) + 32768) = (theta.toNat + 32768) % 65536 := by
    unfold wrapHeading
    omega
  rw [standoffPoint, heading]
  rfl

/-- A standoff of 0 stands for 300, which is in range. -/
theorem standoffBad_iff (d : Half) : standoffOf d < 150 ∨ 600 < standoffOf d ↔
    0 < d.toNat ∧ d.toNat < 150 ∨ 600 < d.toNat := by
  unfold standoffOf
  split
  · next zero =>
    subst zero
    decide
  · next some =>
    have : d.toNat ≠ 0 := fun h => some (BitVec.eq_of_toNat_eq h)
    omega

theorem cellOfPoint_isNone (p : Int × Int) :
    (cellOfPoint p.1 p.2).isNone = true ↔ p.1 < 0 ∨ 12799999 < p.1 ∨ p.2 < 0 ∨ 12799999 < p.2 := by
  simp only [cellOfPoint, Config.mapMax, Nat.cast_ofNat]
  split
  · next h =>
    simp only [Option.isNone_some, Bool.false_eq_true, false_iff]
    omega
  · next h =>
    simp only [Option.isNone_none, true_iff]
    omega

theorem dockPoseBad_standoff (hx : x.toNat ≤ 12799999) (hy : y.toNat ≤ 12799999)
    (h : (0 < d.toNat ∧ d.toNat < 150 ∨ 600 < d.toNat) ∨
      (cellOfPoint (standoffPoint x.toNat y.toNat theta.toNat (standoffOf d)).1
        (standoffPoint x.toNat y.toNat theta.toNat (standoffOf d)).2).isNone = true) :
    dockPoseBad x y theta d = some 6 := by
  rw [dockPoseBad, if_neg (Nat.not_lt.2 hx), if_neg (Nat.not_lt.2 hy)]
  rw [← standoffBad_iff] at h
  split
  · rfl
  · next inRange => exact if_pos (h.resolve_left inRange)

theorem dockPoseBad_none (hx : x.toNat ≤ 12799999) (hy : y.toNat ≤ 12799999)
    (hd : ¬(0 < d.toNat ∧ d.toNat < 150 ∨ 600 < d.toNat))
    (hp : ¬(cellOfPoint (standoffPoint x.toNat y.toNat theta.toNat (standoffOf d)).1
        (standoffPoint x.toNat y.toNat theta.toNat (standoffOf d)).2).isNone = true) :
    dockPoseBad x y theta d = none := by
  rw [← standoffBad_iff] at hd
  rw [dockPoseBad, if_neg (Nat.not_lt.2 hx), if_neg (Nat.not_lt.2 hy), if_neg hd]
  exact if_neg hp

theorem RouteEngine.docking_of_dock {re : RouteEngine} (h : ∃ sr, re.seg = some sr ∧ sr.seg.kind = .dock) :
    re.docking = true := by
  obtain ⟨sr, seg, kind⟩ := h
  rw [RouteEngine.docking, seg]
  exact decide_eq_true kind

theorem RouteEngine.docking_of_other {re : RouteEngine} (h : ∀ sr, re.seg = some sr → sr.seg.kind ≠ .dock) :
    re.docking = false := by
  unfold RouteEngine.docking
  split
  · next sr seg => exact decide_eq_false (h sr seg)
  · rfl

theorem serveSetDock_of_bad {n : Nat} (h : dockPoseBad x y theta d = some n) :
    serveSetDock x y theta d s = (s, .invalid n 0) := by
  rw [serveSetDock, h]

theorem serveSetDock_of_docking (h : dockPoseBad x y theta d = none) (busy : s.mo.re.docking = true) :
    serveSetDock x y theta d s = (s, .rejected .inUse) := by
  rw [serveSetDock, h]
  exact if_pos busy

theorem serveSetDock_of_free (h : dockPoseBad x y theta d = none) (free : s.mo.re.docking = false) {sx sy : Nat}
    (hp : ((sx : Int), (sy : Int)) = standoffPoint x.toNat y.toNat theta.toNat (standoffOf d)) :
    serveSetDock x y theta d s =
      ({ s with mo := { s.mo with du := { s.mo.du with pose := some {
          x := x.toNat, y := y.toNat, theta := theta.toNat, standoff := standoffOf d, sx := sx, sy := sy } } } },
       .done (leBytes 4 sx ++ leBytes 4 sy)) := by
  rw [serveSetDock, h, ← hp]
  exact if_neg (by simp [free])

theorem setDockPose_badForm {form : Byte} (h : 1 < form.toNat) : serveSetDockPose form x y theta d s = (s, .invalid 2 0) := by
  unfold serveSetDockPose
  split
  · omega
  · omega
  · rfl

end dock

/-- Settles O25. -/
theorem poseAndDockPoseAreSet : Obligations.PoseAndDockPoseAreSet := by
  intro s hs
  refine ⟨fun x y u theta => ⟨fun hx => ?_, fun hx hy => ?_, fun hx hy hu => ?_, fun hx hy hu => ⟨fun busy => ?_,
      fun grant checks pu hpu => ?_⟩⟩, fun form x y theta d bad => ?_,
    fun x y theta d p hp => ⟨fun hx => ?_, fun hx hy => ?_, fun hx hy => ⟨fun far => ?_,
      fun near sx sy hsx hsy same => ?_⟩⟩,
    fun x y theta d => ⟨fun docking => ?_, fun other => ⟨fun unset => ?_, fun set => ?_⟩⟩⟩
  · exact exec_answers_same hs rfl rfl rfl (if_pos hx)
  · exact exec_answers_same hs rfl rfl rfl ((if_neg (by simpa using hx)).trans (if_pos hy))
  · exact exec_answers_same hs rfl rfl rfl
      ((if_neg (by simpa using hx)).trans ((if_neg (by simpa using hy)).trans (if_pos hu)))
  · exact exec_answers_same hs rfl rfl rfl (serveFixPose_of_refused (s := s.taken 17) hx hy hu busy)
  · have done : exec (.fixPose x y theta u) s = .next (State.answered 17 (.done []) (s.withPose pu).lostTest) := by
      refine exec_leaves hs rfl rfl rfl ?_
      refine (serveFixPose_of_free (s := s.taken 17) hx hy hu grant checks hpu).trans ?_
      rw [← State.lostTest_taken]
      rfl
    refine ⟨done, fun still => ?_⟩
    rw [State.lostTest_of_still (s := s.withPose pu) ⟨still.seg, still.todo⟩] at done
    exact done
  · exact exec_answers_same hs rfl rfl rfl (setDockPose_badForm bad)
  · refine exec_answers_same hs rfl rfl rfl (serveSetDock_of_bad (s := s.taken 16) ?_)
    exact if_pos hx
  · refine exec_answers_same hs rfl rfl rfl (serveSetDock_of_bad (s := s.taken 16) ?_)
    exact (if_neg (by simpa using hx)).trans (if_pos hy)
  · refine exec_answers_same hs rfl rfl rfl (serveSetDock_of_bad (s := s.taken 16) (dockPoseBad_standoff hx hy ?_))
    rw [cellOfPoint_isNone, standoffPoint_eq, ← hp]
    exact far
  · have good : dockPoseBad x y theta d = none := by
      refine dockPoseBad_none hx hy ?_ ?_
      · obtain rfl | inRange := near
        · decide
        · omega
      · rw [cellOfPoint_isNone, standoffPoint_eq, ← hp, ← same]
        omega
    rw [← standoffPoint_eq] at hp
    refine ⟨fun docking => ?_, fun other => ?_⟩
    · exact exec_answers_same hs rfl rfl rfl
        (serveSetDock_of_docking (s := s.taken 16) good (RouteEngine.docking_of_dock docking))
    · exact exec_leaves hs rfl rfl rfl
        (serveSetDock_of_free (s := s.taken 16) good (RouteEngine.docking_of_other other) (same.trans hp))
  · exact exec_answers_same hs rfl rfl rfl (if_pos (RouteEngine.docking_of_dock docking))
  · refine exec_answers_same hs rfl rfl rfl ((if_neg ?_).trans (if_pos ?_))
    · exact Bool.eq_false_iff.1 (RouteEngine.docking_of_other other)
    · exact (congrArg Option.isNone unset : _)
  · refine exec_leaves hs rfl rfl rfl ((if_neg ?_).trans (if_neg ?_))
    · exact Bool.eq_false_iff.1 (RouteEngine.docking_of_other other)
    · change ¬ s.mo.du.pose.isNone = true
      simpa [Option.isSome_iff_ne_none] using set

end Sys2Proof.Machine
end

section
namespace Sys2Proof.Machine
open Sys2Proof

/-! ## The Segment Pool (R69, R70, R72, R73) -/

/-! ### The first bad field of a record -/

theorem firstFault_eq_none {l : List (Bool × Nat)} (h : ∀ p ∈ l, p.1 = false) : firstFault l = none := by
  induction l with
  | nil => rfl
  | cons p l ih =>
    rw [firstFault, if_neg (by simp [h p List.mem_cons_self])]
    exact ih fun q hq => h q (List.mem_cons_of_mem _ hq)

/-- Of checks in the order of their fields the first that fails names the lowest bad field. -/
theorem firstFault_eq_some {l : List (Bool × Nat)} {n : Nat} (sorted : l.Pairwise fun p q => p.2 ≤ q.2)
    (bad : ∃ p ∈ l, p.1 = true ∧ p.2 = n) (least : ∀ p ∈ l, p.2 < n → p.1 = false) : firstFault l = some n := by
  induction l with
  | nil => obtain ⟨p, hp, -⟩ := bad; cases hp
  | cons p l ih =>
    obtain ⟨lowest, rest⟩ := List.pairwise_cons.1 sorted
    obtain ⟨q, hq, failed, field⟩ := bad
    rw [firstFault]
    split
    · next failed' =>
      have notLower : ¬p.2 < n := fun low => by simp [least p List.mem_cons_self low] at failed'
      have notHigher : p.2 ≤ n := by
        obtain rfl | hq := List.mem_cons.1 hq
        · exact field.le
        · exact field ▸ lowest q hq
      exact congrArg some (by omega)
    · next passed =>
      obtain rfl | hq := List.mem_cons.1 hq
      · exact absurd failed passed
      · exact ih rest ⟨q, hq, failed, field⟩ fun r hr => least r (List.mem_cons_of_mem _ hr)

/-- The checks of a segment record of a kind, in the order of its fields (R69). -/
def segmentChecks (k : SegKind) (f : SegmentFields) : List (Bool × Nat) :=
  [(k = .line && Config.mapMax < f.targetX.toNat, 4),
   (k = .line && Config.mapMax < f.targetY.toNat, 5),
   (k.hasHeading && 1 < f.headingPresent.toNat, 6),
   (k = .rotate && f.headingPresent = 0, 6),
   (k = .reverse && f.reverseDist = 0, 8),
   (f.speed = 0, 9),
   (7 < f.retries.toNat, 11),
   (k = .line && 1 < f.altPresent.toNat, 13),
   (k = .line && f.altPresent = 1 && Config.mapMax < f.altX.toNat, 14),
   (k = .line && f.altPresent = 1 && Config.mapMax < f.altY.toNat, 15)]

theorem segmentBad_eq (k : SegKind) (f : SegmentFields) : segmentBad k f = firstFault (segmentChecks k f) := rfl

theorem segmentChecks_sorted (k : SegKind) (f : SegmentFields) :
    (segmentChecks k f).Pairwise fun p q => p.2 ≤ q.2 := by
  rw [← List.pairwise_map (f := Prod.snd) (R := (· ≤ ·))]
  exact (by decide : [4, 5, 6, 6, 8, 9, 11, 13, 14, 15].Pairwise (· ≤ ·))

theorem SegKind.hasHeading_iff (k : SegKind) : k.hasHeading = true ↔ k = .line ∨ k = .rotate := by
  cases k <;> simp [SegKind.hasHeading]

/-- A field is bad exactly when one of its checks fails. -/
theorem segmentFieldBad_iff (k : SegKind) (f : SegmentFields) (n : Nat) :
    SegmentFieldBad k f n ↔ ∃ p ∈ segmentChecks k f, p.1 = true ∧ p.2 = n := by
  simp only [segmentChecks, List.mem_cons, List.not_mem_nil, or_false, exists_eq_or_imp, exists_eq_left,
    Bool.and_eq_true, decide_eq_true_eq, SegKind.hasHeading_iff]
  unfold SegmentFieldBad
  split <;> simp_all [and_assoc]
  omega

theorem segmentBad_eq_some {k : SegKind} {f : SegmentFields} {n : Nat} (bad : SegmentFieldBad k f n)
    (least : ∀ j, j < n → ¬SegmentFieldBad k f j) : segmentBad k f = some n := by
  refine (segmentBad_eq k f).trans (firstFault_eq_some (segmentChecks_sorted k f) ((segmentFieldBad_iff k f n).1 bad) ?_)
  intro p hp low
  exact Bool.eq_false_iff.2 fun failed => least p.2 low ((segmentFieldBad_iff k f p.2).2 ⟨p, hp, failed, rfl⟩)

theorem segmentBad_eq_none {k : SegKind} {f : SegmentFields} (good : ∀ n, ¬SegmentFieldBad k f n) :
    segmentBad k f = none := by
  refine (segmentBad_eq k f).trans (firstFault_eq_none fun p hp => Bool.eq_false_iff.2 fun failed => ?_)
  exact good p.2 ((segmentFieldBad_iff k f p.2).2 ⟨p, hp, failed, rfl⟩)

theorem segmentFieldsOk_iff (k : SegKind) (f : SegmentFields) :
    (∀ n, ¬SegmentFieldBad k f n) ↔ SegmentFieldsOk k f := by
  constructor
  · intro good
    have h4 : ¬(k = .line ∧ 12799999 < f.targetX.toNat) := good 4
    have h5 : ¬(k = .line ∧ 12799999 < f.targetY.toNat) := good 5
    have h6 : ¬((k = .line ∨ k = .rotate) ∧ 1 < f.headingPresent.toNat ∨ k = .rotate ∧ f.headingPresent = 0) := good 6
    have h8 : ¬(k = .reverse ∧ f.reverseDist = 0) := good 8
    have h9 : ¬f.speed = 0 := good 9
    have h11 : ¬7 < f.retries.toNat := good 11
    have h13 : ¬(k = .line ∧ 1 < f.altPresent.toNat) := good 13
    have h14 : ¬(k = .line ∧ f.altPresent = 1 ∧ 12799999 < f.altX.toNat) := good 14
    have h15 : ¬(k = .line ∧ f.altPresent = 1 ∧ 12799999 < f.altY.toNat) := good 15
    push Not at h4 h5 h6 h8 h13 h14 h15
    refine ⟨fun e => ⟨h4 e, h5 e⟩, fun e => h6.1 (.inl e), fun e => ?_, h8, h9, not_lt.1 h11, h13,
      fun e p => ⟨h14 e p, h15 e p⟩⟩
    have atMost := h6.1 (.inr e)
    have notZero := h6.2 e
    refine BitVec.eq_of_toNat_eq ?_
    have : f.headingPresent.toNat ≠ 0 := fun h => notZero (BitVec.eq_of_toNat_eq h)
    change f.headingPresent.toNat = 1
    omega
  · rintro ⟨target, present, heading, distance, speed, retries, alternate, altPoint⟩ n
    unfold SegmentFieldBad
    split
    · exact fun ⟨e, far⟩ => absurd (target e).1 (not_le.2 far)
    · exact fun ⟨e, far⟩ => absurd (target e).2 (not_le.2 far)
    · rintro (⟨e | e, far⟩ | ⟨e, zero⟩)
      · exact absurd (present e) (not_le.2 far)
      · rw [heading e] at far
        exact absurd far (by decide)
      · rw [heading e] at zero
        exact absurd zero (by decide)
    · exact fun ⟨e, zero⟩ => distance e zero
    · exact speed
    · exact not_lt.2 retries
    · exact fun ⟨e, far⟩ => absurd (alternate e) (not_le.2 far)
    · exact fun ⟨e, p, far⟩ => absurd (altPoint e p).1 (not_le.2 far)
    · exact fun ⟨e, p, far⟩ => absurd (altPoint e p).2 (not_le.2 far)
    · exact id

/-! ### The record as it is stored (R70) -/

theorem storedSpeed_ne_iff (v : Half) : storedSpeed v ≠ v.toNat ↔ v.toNat < 20 ∨ 500 < v.toNat := by
  unfold storedSpeed
  omega

theorem storedDistance_ne_iff (v : Half) : storedDistance v ≠ v.toNat ↔ 500 < v.toNat := by
  unfold storedDistance
  omega

theorem loadMarks_eq (k : SegKind) (f : SegmentFields) : loadMarks k f =
    BitVec.ofNat 8 ((if f.speed.toNat < 20 ∨ 500 < f.speed.toNat then 1 else 0) +
      (if k = .reverse ∧ 500 < f.reverseDist.toNat then 2 else 0)) := by
  rw [loadMarks, bitsByte_pair]
  simp only [Bool.and_eq_true, decide_eq_true_eq, storedSpeed_ne_iff, storedDistance_ne_iff]
  rfl

theorem storedSegment_eq (k : SegKind) (f : SegmentFields) : storedSegment k f =
    { kind := k, targetX := if k = .line then f.targetX.toNat else 0,
      targetY := if k = .line then f.targetY.toNat else 0,
      heading := if (k = .rotate ∨ k = .line) ∧ f.headingPresent = 1 then some f.heading.toNat else none
      reverseDist := if k = .reverse then min 500 f.reverseDist.toNat else 0,
      speed := max 20 (min 500 f.speed.toNat),
      allowUnknown := decide (k = .line ∨ k = .dock) && f.flags.getLsbD 0,
      avoidRug := decide (k = .line ∨ k = .dock) && f.flags.getLsbD 1,
      notify := f.flags.getLsbD 2, retries := f.retries.toNat, dwell := f.dwell.toNat,
      alt := if k = .line ∧ f.altPresent = 1 then some (f.altX.toNat, f.altY.toNat) else none } := by
  cases k <;> simp [storedSegment, SegKind.hasHeading, storedSpeed, storedDistance]

/-! ### Slots in use (R71 to R73) -/

theorem RouteEngine.namedAhead_iff (re : RouteEngine) (id : ListId) (slot : Nat) :
    re.namedAhead id slot = true ↔ ∃ j e, re.engaged id = true ∧ (re.list id).position ≤ j ∧
      (re.list id).entries[j]? = some e ∧ e.slot = slot := by
  rw [RouteEngine.namedAhead, Bool.and_eq_true, List.any_eq_true]
  constructor
  · rintro ⟨engaged, e, he, slot'⟩
    obtain ⟨j, hj⟩ := List.mem_iff_getElem?.1 he
    rw [List.getElem?_drop] at hj
    exact ⟨_, e, engaged, Nat.le_add_right _ _, hj, of_decide_eq_true slot'⟩
  · rintro ⟨j, e, engaged, ahead, hj, slot'⟩
    refine ⟨engaged, e, List.mem_iff_getElem?.2 ⟨j - (re.list id).position, ?_⟩, decide_eq_true slot'⟩
    rw [List.getElem?_drop, Nat.add_sub_cancel' ahead, hj]

theorem RunList.names_iff (l : RunList) (slot : Nat) : l.names slot = true ↔ ∃ e ∈ l.entries, e.slot = slot := by
  simp [RunList.names]

section owner
variable {slot : Byte} {f : SegmentFields} {k : SegKind} {s : State}

theorem SegKind.ofByte_eq_none {b : Byte} (h : b.toNat = 0 ∨ 4 < b.toNat) : SegKind.ofByte b = none := by
  unfold SegKind.ofByte
  split
  iterate 4 omega
  rfl

theorem SegKind.ofByte_eq_some {b : Byte} (h : b.toNat = match k with
    | .rotate => 1
    | .line => 2
    | .reverse => 3
    | .dock => 4) : SegKind.ofByte b = some k := by
  rw [SegKind.ofByte, h]
  cases k <;> rfl

theorem loadSegmentFrame (slot : Byte) (f : SegmentFields) :
    (Frame.mk' 0x30 (slot :: segmentBytes f)).badEnvelope = false ∧
    3 + (Frame.mk' 0x30 (slot :: segmentBytes f)).body.length = 33 :=
  ⟨Frame.mk'_envelope _ _ (by decide : 30 ≤ 1024), rfl⟩

theorem serveLoadSegment_of_badSlot (h : 127 < slot.toNat) : serveLoadSegment slot f s = (s, .invalid 2 0) := if_pos h

theorem serveLoadSegment_of_badKind (low : slot.toNat ≤ 127) (h : SegKind.ofByte f.kind = none) :
    serveLoadSegment slot f s = (s, .invalid 3 0) := by
  rw [serveLoadSegment, if_neg (Nat.not_lt.2 low), h]

theorem serveLoadSegment_of_badField (low : slot.toNat ≤ 127) (h : SegKind.ofByte f.kind = some k) {n : Nat}
    (bad : segmentBad k f = some n) : serveLoadSegment slot f s = (s, .invalid n 0) := by
  simp only [serveLoadSegment, if_neg (Nat.not_lt.2 low), h, bad]

theorem serveLoadSegment_of_good (low : slot.toNat ≤ 127) (h : SegKind.ofByte f.kind = some k)
    (good : segmentBad k f = none) :
    serveLoadSegment slot f s =
      if s.mo.re.namedAhead .main slot.toNat || s.mo.re.namedAhead .priority slot.toNat then (s, .rejected .inUse)
      else (s.setRe (s.mo.re.setSlot slot.toNat (some (storedSegment k f))), .done [loadMarks k f]) := by
  simp only [serveLoadSegment, if_neg (Nat.not_lt.2 low), h, good]

theorem RouteEngine.namedAhead_either (re : RouteEngine) (slot : Nat) :
    (re.namedAhead .main slot || re.namedAhead .priority slot) = true ↔
      ∃ id j e, re.engaged id = true ∧ (re.list id).position ≤ j ∧ (re.list id).entries[j]? = some e ∧
        e.slot = slot := by
  rw [Bool.or_eq_true, RouteEngine.namedAhead_iff, RouteEngine.namedAhead_iff]
  constructor
  · rintro (h | h)
    · exact ⟨.main, h⟩
    · exact ⟨.priority, h⟩
  · rintro ⟨_ | _, h⟩
    · exact .inl h
    · exact .inr h

theorem RouteEngine.names_either (re : RouteEngine) (slot : Nat) :
    (re.main.names slot || re.priority.names slot) = true ↔ ∃ id, ∃ e ∈ (re.list id).entries, e.slot = slot := by
  rw [Bool.or_eq_true, RunList.names_iff, RunList.names_iff]
  constructor
  · rintro (h | h)
    · exact ⟨.main, h⟩
    · exact ⟨.priority, h⟩
  · rintro ⟨_ | _, h⟩
    · exact .inl h
    · exact .inr h

end owner

/-- A slot that takes a record, or becomes Empty, reads so, and no other does. -/
theorem RouteEngine.slotAt_setSlot (re : RouteEngine) (slot : Nat) (seg : Option Segment)
    (wf : Memory.wf none re.pool) :
    (re.setSlot slot seg).slotAt slot = seg ∧ ∀ n, n ≠ slot → (re.setSlot slot seg).slotAt n = re.slotAt n :=
  ⟨Memory.read_write_same _ _ _ _ wf.1, fun _ hn => Memory.read_write_other _ _ _ hn⟩

/-- Settles O27. -/
theorem segmentsAreLoadedAndCleared : Obligations.SegmentsAreLoadedAndCleared := by
  intro slot s hs
  have envelope f := (loadSegmentFrame slot f).1
  have length f := (loadSegmentFrame slot f).2
  refine ⟨fun far => ⟨?_, fun f => ?_⟩, fun low f bad => ?_, fun low k f kind => ⟨fun n bad least => ?_,
      segmentFieldsOk_iff k f, fun ok => ⟨fun inUse => ?_, fun free wf => ?_⟩⟩,
    fun low wf free => ?_, fun low inUse => ?_⟩
  · exact exec_answers_same hs rfl rfl rfl (if_pos far)
  · exact exec_answers_same hs rfl (envelope f) (length f) (serveLoadSegment_of_badSlot (s := s.taken 33) far)
  · exact exec_answers_same hs rfl (envelope f) (length f)
      (serveLoadSegment_of_badKind (s := s.taken 33) low (SegKind.ofByte_eq_none bad))
  · exact exec_answers_same hs rfl (envelope f) (length f)
      (serveLoadSegment_of_badField (s := s.taken 33) low (SegKind.ofByte_eq_some kind) (segmentBad_eq_some bad least))
  · have good := segmentBad_eq_none ((segmentFieldsOk_iff k f).2 ok)
    refine exec_answers_same hs rfl (envelope f) (length f) ((serveLoadSegment_of_good (s := s.taken 33) low
      (SegKind.ofByte_eq_some kind) good).trans (if_pos ?_))
    exact (RouteEngine.namedAhead_either _ _).2 inUse
  · have good := segmentBad_eq_none ((segmentFieldsOk_iff k f).2 ok)
    obtain ⟨read, others⟩ := s.mo.re.slotAt_setSlot slot.toNat (some (storedSegment k f)) wf
    have served : serve (.loadSegment slot f) (s.taken 33) =
        ((s.setRe (s.mo.re.setSlot slot.toNat (some (storedSegment k f)))).taken 33, .done [loadMarks k f]) := by
      refine (serveLoadSegment_of_good (s := s.taken 33) low (SegKind.ofByte_eq_some kind) good).trans (if_neg ?_)
      rw [RouteEngine.namedAhead_either]
      rintro ⟨id, j, e, engaged, ahead, hj, same⟩
      exact free id j e engaged ahead hj same
    refine ⟨_, storedSegment k f, exec_leaves hs rfl (envelope f) (length f) served, read, others, storedSegment_eq k f, ?_⟩
    rw [loadMarks_eq]
    rfl
  · obtain ⟨read, others⟩ := s.mo.re.slotAt_setSlot slot.toNat none wf
    refine ⟨_, exec_leaves (t := s.setRe (s.mo.re.setSlot slot.toNat none)) hs rfl rfl rfl
      ((if_neg (Nat.not_lt.2 low)).trans (if_neg ?_)), read, others, rfl⟩
    rw [RouteEngine.names_either]
    rintro ⟨id, e, he, same⟩
    exact free id e he same
  · refine exec_answers_same hs rfl rfl rfl ((if_neg (Nat.not_lt.2 low)).trans (if_pos ?_))
    exact (RouteEngine.names_either _ _).2 inUse

end Sys2Proof.Machine
end

section
namespace Sys2Proof.Machine
open Sys2Proof

/-! ## How a check begins (R50 to R52, R59, R64) -/

theorem Check.start_engine (env : Env) (m : Motion) {req : CheckReq} (h : req.owner = .engine) :
    Check.start env m req = { req := req, run := some (beginCheck env m req) } := by
  simp only [Check.start, h]

theorem Check.start_recheck (env : Env) {m : Motion} {req : CheckReq} {g : Nat} {c : Corridor}
    (h : req.owner = .recheck g) (corridor : m.cu.corridor = some c) :
    Check.start env m req = { req := req, run := some (beginRecheck m c) } := by
  simp only [Check.start, h, corridor]

/-- What a check takes at its beginning reads nothing of the checks held. -/
theorem Check.start_checks (env : Env) (m : Motion) (req : CheckReq) (l : List Check) :
    Check.start env { m with cu := { m.cu with checks := l } } req = Check.start env m req := by
  cases h : req.owner with
  | engine => rw [Check.start_engine _ _ h, Check.start_engine _ _ h]; rfl
  | recheck g =>
    cases corridor : m.cu.corridor with
    | none => simp only [Check.start, h, corridor]
    | some c => exact (Check.start_recheck (c := c) env h corridor).trans (Check.start_recheck env h corridor).symm

section waiting
variable {env : Env} {m : Motion} {req : CheckReq} {rest : List Check}

theorem beginWaiting_of_waiting (h : m.cu.checks = { req := req, run := none } :: rest) (free : env.mapBusy = false) :
    beginWaiting env m = { m with cu := { m.cu with checks := Check.start env m req :: rest } } := by
  simp [beginWaiting, h, free]

theorem beginWaiting_of_busy (busy : env.mapBusy = true) : beginWaiting env m = m := by
  unfold beginWaiting
  split
  · exact if_pos busy
  · rfl

theorem beginWaiting_of_none (h : ∀ req rest, m.cu.checks ≠ { req := req, run := none } :: rest) :
    beginWaiting env m = m := by
  unfold beginWaiting
  split
  · next req rest held => exact absurd held (h req rest)
  · rfl

/-- A check asked for with none held and no fill in the way begins at once (R59). -/
theorem askCheck_of_free (checks : m.cu.checks = []) (free : env.mapBusy = false) :
    askCheck env req m = { m with cu := { m.cu with checks := [Check.start env m req] } } := if_pos ⟨checks, free⟩

theorem askCheck_of_held (h : m.cu.checks ≠ [] ∨ env.mapBusy = true) :
    askCheck env req m = { m with cu := { m.cu with checks := m.cu.checks ++ [{ req := req, run := none }] } } := by
  refine if_neg ?_
  rintro ⟨none, free⟩
  exact h.elim (· none) (by simp [free])

end waiting

theorem exec_checkBegin (s : State) : exec .checkBegin s = .next (s.withMotion (beginWaiting s.env s.mo)) := rfl

theorem wrapHeading_half (n : Nat) : wrapHeading ((n : Int) + 32768) = (n + 32768) % 65536 := by
  unfold wrapHeading
  omega

/-- Settles O38. -/
theorem checkBeginTakesItsValues : Obligations.CheckBeginTakesItsValues := by
  refine ⟨fun env req m => ⟨fun none free => ?_, askCheck_of_held⟩, fun s => ⟨exec_checkBegin s,
    fun req rest held fill => ⟨fun engine => ?_, fun g c recheck corridor => ?_⟩, fun idle => ?_⟩⟩
  · rw [askCheck_of_free none free, beginWaiting_of_waiting rfl free, Check.start_checks]
    rfl
  · have free : s.env.mapBusy = false := congrArg Option.isSome fill
    refine ⟨beginCheck s.env s.mo req, ?_, rfl, rfl, rfl, rfl, rfl, rfl, rfl, rfl, rfl, rfl, rfl, rfl, rfl, rfl, rfl, rfl,
      rfl, fun x y path => ?_, fun h len theta path heading => ?_, fun path => ?_⟩
    · rw [exec_checkBegin, beginWaiting_of_waiting held free, Check.start_engine _ _ engine]
      rfl
    · simp only [beginCheck, path, CheckPath.geometry, and_self]
    · have value : h.value s.mo.pu.theta = theta := by
        subst heading
        cases h
        · rfl
        · rfl
        · exact wrapHeading_half _
      simp only [beginCheck, path, CheckPath.geometry, pathAlong, value, pointAlong, mul_comm, and_self]
    · simp only [beginCheck, path, CheckPath.geometry, and_self]
  · have free : s.env.mapBusy = false := congrArg Option.isSome fill
    refine ⟨beginRecheck s.mo c, ?_, rfl, rfl, rfl, rfl, rfl, rfl, rfl, rfl, rfl, rfl, rfl, rfl, rfl, rfl, rfl, rfl, rfl,
      rfl⟩
    rw [exec_checkBegin, beginWaiting_of_waiting held free, Check.start_recheck _ recheck corridor]
    rfl
  · rw [exec_checkBegin]
    obtain none | busy := idle
    · rw [beginWaiting_of_none none]
      rfl
    · rw [beginWaiting_of_busy (env := s.env) busy]
      rfl

/-! ## The transmitter and the receiver (R117, R120, R122, R123) -/

theorem makeFrame_eq (f : DriveFrame) (m : Motion) : makeFrame f m = { m with dp := m.dp.made f } := by
  unfold DrivePort.made
  obtain idle | ⟨g, busy⟩ := Option.eq_none_or_eq_some m.dp.txNow
  · rw [makeFrame_of_idle f m idle, if_pos idle]
  · rw [makeFrame_of_busy f g m busy, if_neg (by simp [busy])]

theorem DrivePort.made_grant (f : DriveFrame) (dp : DrivePort) (g : GrantRec) :
    { dp with grant := g }.made f = { dp.made f with grant := g } := by
  unfold DrivePort.made
  dsimp only
  split <;> rfl

section grants
variable {m : Motion}

theorem GrantState.openTo_iff (g : GrantState) : g.openTo = true ↔ g = .sent ∨ g = .active := by
  cases g <;> simp [GrantState.openTo]

theorem GrantState.not_openTo_iff (g : GrantState) : g.openTo = false ↔ g = .none ∨ g = .stopping := by
  cases g <;> simp [GrantState.openTo]

theorem askStop_eq (reason : StopReason) (h : m.dp.grant.state.openTo = true) : askStop reason m = m.stopped reason := by
  rw [askStop, if_pos h, makeFrame_eq]
  unfold dropCorridor dropTrims Motion.stopped DrivePort.made
  dsimp only
  split <;> rfl

theorem trimAmount_eq (n : Int) (h : m.dp.grant.state.openTo = true) : trimAmount n m =
    { m with
      dp := { m.dp.made (.trimAmount m.dp.grant.id n) with grant := { m.dp.grant with amount := n } }
      cu := { m.cu with corridor := m.cu.corridor.map fun c => { c with amount := n } } } := by
  rw [trimAmount, if_pos h, makeFrame_eq]
  unfold DrivePort.made
  split <;> rfl

theorem trimNudge_eq (n : Int) (h : m.dp.grant.state.openTo = true) :
    trimNudge n m = { m with dp := m.dp.made (.trimNudge m.dp.grant.id n) } := by
  rw [trimNudge, if_pos h, makeFrame_eq]

theorem trimAmount_of_closed (n : Int) (h : m.dp.grant.state.openTo = false) : trimAmount n m = m := by
  simp [trimAmount, h]

theorem trimNudge_of_closed (n : Int) (h : m.dp.grant.state.openTo = false) : trimNudge n m = m := by
  simp [trimNudge, h]

theorem nextFrame_eq (m : Motion) :
    nextFrame m = { m with dp := { m.dp with txNow := m.dp.txQueue.head?, txQueue := m.dp.txQueue.tail } } := by
  unfold nextFrame
  split
  · next h => simp [h]
  · next h => simp [h]

end grants

/-- What hunting leaves: a suffix that is empty or begins with a frame not to be discarded, behind bytes of which
every frame that began there was. -/
theorem huntFrame_spec (bs : List Byte) : ∃ junk, bs = junk ++ huntFrame bs ∧
    (∀ k, (huntFrame bs).head? = some k → k = 0xC3 ∧ judgeFrame (huntFrame bs).tail ≠ .bad) ∧
    ∀ (j : Nat) (rest : List Byte), junk.drop j = 0xC3 :: rest → judgeFrame (rest ++ huntFrame bs) = .bad := by
  induction bs with
  | nil =>
    refine ⟨[], rfl, ?_, ?_⟩
    · intro k h
      cases h
    · intro j rest h
      simp at h
  | cons b bs ih =>
    obtain ⟨junk, whole, head, began⟩ := ih
    have dropped (hunted : huntFrame (b :: bs) = huntFrame bs) (bad : b = 0xC3 → judgeFrame bs = .bad) :
        ∃ junk, b :: bs = junk ++ huntFrame (b :: bs) ∧
          (∀ k, (huntFrame (b :: bs)).head? = some k → k = 0xC3 ∧ judgeFrame (huntFrame (b :: bs)).tail ≠ .bad) ∧
          ∀ (j : Nat) (rest : List Byte), junk.drop j = 0xC3 :: rest →
            judgeFrame (rest ++ huntFrame (b :: bs)) = .bad := by
      rw [hunted]
      refine ⟨b :: junk, congrArg (b :: ·) whole, head, fun j rest h => ?_⟩
      cases j with
      | zero =>
        obtain ⟨sync, rfl⟩ := List.cons.inj h
        rw [← whole]
        exact bad sync
      | succ j => exact began j rest h
    by_cases sync : b = 0xC3
    · cases judged : judgeFrame bs with
      | bad => exact dropped (by rw [huntFrame, if_pos sync, judged]) fun _ => judged
      | partly =>
        have kept : huntFrame (b :: bs) = b :: bs := by rw [huntFrame, if_pos sync, judged]
        rw [kept]
        exact ⟨[], rfl, fun k h => ⟨(Option.some.inj h).symm.trans sync, by simp [judged]⟩, fun j rest h => by simp at h⟩
      | whole r =>
        have kept : huntFrame (b :: bs) = b :: bs := by rw [huntFrame, if_pos sync, judged]
        rw [kept]
        exact ⟨[], rfl, fun k h => ⟨(Option.some.inj h).symm.trans sync, by simp [judged]⟩, fun j rest h => by simp at h⟩
    · exact dropped (by rw [huntFrame, if_neg sync]) fun h => absurd h sync

theorem Report.frame_length (r : Report) : r.frame.length = 15 := rfl

/-- A report's frame at the front of the receiver stands there when the bytes are hunted again. -/
theorem huntFrame_frame (r : Report) (rest : List Byte) : huntFrame (r.frame ++ rest) = r.frame ++ rest := by
  change huntFrame (0xC3 :: (byte 1 :: byte 11 :: r.body ++ [crc8 (byte 1 :: byte 11 :: r.body)] ++ rest)) = _
  rw [huntFrame, if_pos rfl, judgeFrame_frame]
  rfl

theorem takeFrame_reportFrame (r : Report) (rest : List Byte) : takeFrame (r.frame ++ rest) = some (r, rest) := by
  rw [← huntFrame_frame]
  exact takeFrame_frame r rest

theorem DrivePort.gap_of_frame {dp : DrivePort} {r : Report} {rest : List Byte} (h : dp.rx = r.frame ++ rest) :
    dp.gap = { dp with rx := r.frame ++ (DrivePort.gap { dp with rx := huntFrame rest }).rx } := by
  have front : dp.rx.take 15 = r.frame := by
    rw [h, List.take_append_of_le_length (Nat.le_of_eq r.frame_length.symm), List.take_of_length_le (Nat.le_of_eq r.frame_length)]
  rw [DrivePort.gap_of_whole (r := r) (rest := rest) (by rw [h, takeFrame_reportFrame]), front]

theorem huntFrame_frames (rs : List Report) {cut : List Byte} (h : huntFrame cut = cut) :
    huntFrame (rs.flatMap Report.frame ++ cut) = rs.flatMap Report.frame ++ cut := by
  cases rs with
  | nil => exact h
  | cons r rs => rw [List.flatMap_cons, List.append_assoc, huntFrame_frame]

/-- A gap keeps the reports received whole and discards the frame cut short behind them (R117). -/
theorem DrivePort.gap_of_frames {rs : List Report} {cut : List Byte} (hunted : huntFrame cut = cut)
    (short : takeFrame cut = none) (dp : DrivePort) (h : dp.rx = rs.flatMap Report.frame ++ cut) :
    dp.gap = { dp with rx := rs.flatMap Report.frame } := by
  induction rs generalizing dp with
  | nil => exact DrivePort.gap_of_none (by rw [h]; exact short)
  | cons r rs ih =>
    have front : dp.rx = r.frame ++ (rs.flatMap Report.frame ++ cut) := by
      rw [h, List.flatMap_cons, List.append_assoc]
    rw [DrivePort.gap_of_frame front, huntFrame_frames rs hunted, ih { dp with rx := _ } rfl, List.flatMap_cons]

theorem exec_rxGapTimeout (s : State) :
    exec .rxGapTimeout s = .next { s with mo := { s.mo with dp := s.mo.dp.gap } } := rfl

/-- Settles O45. -/
theorem framesAreSentAndReceived : Obligations.FramesAreSentAndReceived := by
  refine ⟨fun f reason n m => ⟨makeFrame_eq f m, fun open' => ?_, fun closed => ?_⟩, fun bytes s => ⟨?_, ?_, fun short => ?_,
    fun r whole => ?_, fun r rest front => ?_, fun rs cut hunted short front => ?_⟩⟩
  · have h := (GrantState.openTo_iff _).2 open'
    exact ⟨askStop_eq reason h, trimAmount_eq n h, trimNudge_eq n h⟩
  · have h := (GrantState.not_openTo_iff _).2 closed
    exact ⟨askStop_of_closed reason m h, trimAmount_of_closed n h, trimNudge_of_closed n h⟩
  · exact congrArg (fun m => Host.Outcome.next { s with mo := m }) (nextFrame_eq s.mo)
  · obtain ⟨junk, whole, head, began⟩ := huntFrame_spec (s.mo.dp.rx ++ bytes)
    exact ⟨_, junk, rfl, whole, head, began, rfl⟩
  · rw [exec_rxGapTimeout, DrivePort.gap_of_none short]
  · rw [exec_rxGapTimeout, DrivePort.gap_of_frames (rs := [r]) (cut := []) rfl rfl _ (by simpa using whole)]
    rw [show [r].flatMap Report.frame = s.mo.dp.rx by simp [whole]]
  · exact ⟨_, rfl, by rw [exec_rxGapTimeout, DrivePort.gap_of_frame front]⟩
  · rw [exec_rxGapTimeout, DrivePort.gap_of_frames hunted short _ front]

end Sys2Proof.Machine
end

section
/-! The dock contact, the Pass Timer and PARK (sections 5.12, 8.4, 10.3 and 10.4). -/

namespace Sys2Proof.Machine
open Sys2Proof

/-! ## The contact (R155) -/

section contact
variable {s : State}

theorem exec_dckSample (level : Bool) (s : State) : exec (.dckSample level) s =
    .next { s with mo := { s.mo with du := s.mo.du.sampled s.tun.contactDebounce level } } := rfl

theorem contactOn_of_no_dock {env : Env} {m : Motion} (h : ∀ sr, m.re.seg = some sr → sr.seg.kind ≠ .dock) :
    contactOn env m = m := by
  unfold contactOn
  split
  · next sr hs => exact if_neg fun c => h sr hs c.1
  · rfl

theorem State.contactChange_of_not_due (h : s.mo.du.changeDue = false) : s.contactChange = s := by
  simp [State.contactChange, h]

/-- A change that is due to On is told to the Route Engine (R162). -/
theorem State.contactChange_of_on (due : s.mo.du.changeDue = true) (off : s.mo.du.contact = false) :
    s.contactChange = s.runs (contactOn s.env
      { s.mo with du := { s.mo.du with contact := true, run := 0, changeDue := false } }) := by
  unfold State.contactChange
  rw [if_pos due]
  simp only [DockUnit.flipped, off, Bool.not_false, if_true]
  rfl

/-- A change that is due to Off with no Dock segment in progress concerns the docked mark alone (R155). -/
theorem State.contactChange_of_off (due : s.mo.du.changeDue = true) (on : s.mo.du.contact = true)
    (dock : s.mo.re.docking = false) (q : State)
    (hq : q = { s with mo := { s.mo with du := { s.mo.du with contact := false, run := 0, changeDue := false } } }) :
    s.contactChange = if s.mo.du.docked then q.undock else q := by
  subst hq
  unfold State.contactChange
  rw [if_pos due]
  simp only [DockUnit.flipped, on, Bool.not_true, Bool.false_eq_true, if_false, dock]

theorem State.undock_of_run (run : s.mo.eu.device = .run) : s.undock =
    { s with mo := ({ s.mo with du := { s.mo.du with docked := false } } : Motion).raise .undocked } := by
  rw [State.undock, State.wakeIf_of_run _ _ s run]

end contact

/-- Settles O52. -/
theorem contactIsDebounced : Obligations.ContactIsDebounced := by
  refine ⟨fun s level due => ?_, fun s => ⟨fun quiet level => ⟨fun same => ?_, fun other => ?_⟩, fun quiet => ?_,
    fun due segs => ⟨fun m off hm => ?_, fun on docked => ?_, fun on docked run => ?_⟩⟩⟩
  · rw [exec_dckSample, DockUnit.sampled, if_pos due]
  · rw [exec_dckSample, DockUnit.sampled, if_neg (by rw [quiet]; decide), if_pos same]
  · rw [exec_dckSample, DockUnit.sampled, if_neg (by rw [quiet]; decide), if_neg other]
  · exact congrArg Host.Outcome.next (State.contactChange_of_not_due quiet)
  · have h : exec .contactChange s = .next (s.runs m) := by
      refine congrArg Host.Outcome.next ((State.contactChange_of_on due off).trans ?_)
      rw [hm, contactOn_of_no_dock]
      exact segs
    refine ⟨h, fun todo => h.trans ?_⟩
    rw [State.runs, runEngine_of_none _ _ _ (by rw [hm]; exact todo)]
    rfl
  · refine congrArg Host.Outcome.next ?_
    rw [State.contactChange_of_off due on (RouteEngine.docking_of_other segs) _ rfl, docked, if_neg Bool.false_ne_true]
  · refine congrArg Host.Outcome.next ?_
    rw [State.contactChange_of_off due on (RouteEngine.docking_of_other segs) _ rfl, if_pos docked]
    exact State.undock_of_run run

/-! ## Waking (R184) -/

theorem wakeWith_eu (c : WakeCause) (l : LineLevels) (s : State) : (s.wakeWith c l).mo.eu = s.mo.eu.wake c :=
  startWatch_eu _ s.env

theorem State.wake_eu (c : WakeCause) (s : State) : (s.wake c).mo.eu = s.mo.eu.wake c := wakeWith_eu c _ s

/-! ## The Pass Timer (R108, R180, R181) -/

theorem TimerRun.due_iff (t : TimerRun) : t.due = true ↔ t.state ≠ .stopped ∧ t.count = 0 := by simp [TimerRun.due]

theorem tickBaseOk_iff (t : Half) : tickBaseOk t = true ↔ t = 1 ∨ t = 10 ∨ t = 100 ∨ t = 1000 := by
  simp [tickBaseOk, or_assoc]

section timer
variable {s : State}

theorem serveSetPassTimer_of_badBase {base : Half} (h : base ≠ 1 ∧ base ≠ 10 ∧ base ≠ 100 ∧ base ≠ 1000)
    (i r c : Byte) : serveSetPassTimer base i r c s = (s, .invalid 2 0) := by
  obtain ⟨h1, h10, h100, h1000⟩ := h
  refine if_pos (Bool.eq_false_iff.2 fun ok => ?_)
  rcases (tickBaseOk_iff base).1 ok with h | h | h | h
  · exact h1 h
  · exact h10 h
  · exact h100 h
  · exact h1000 h

theorem serveSetPassTimer_of_goodBase {base : Half} (h : base = 1 ∨ base = 10 ∨ base = 100 ∨ base = 1000)
    (i r c : Byte) : serveSetPassTimer base i r c s = if r = 0 then (s, .invalid 4 0)
      else if s.mo.eu.timer.state = .pass then (s, .rejected .notIdle)
      else ({ s with mo := { s.mo with eu := { s.mo.eu with settings :=
        { tickBase := base.toNat, initial := i.toNat, reload := r.toNat, reloadCount := c.toNat } } } }, .done []) :=
  if_neg (by rw [(tickBaseOk_iff base).2 h]; simp)

theorem takeReload_of_not_due {t : TimerRun} (h : t.due = false) : t.takeReload = t := by simp [TimerRun.takeReload, h]

theorem takeReload_of_due {t : TimerRun} (h : t.due = true) (left : 0 < t.reloads) :
    t.takeReload = { t with count := t.reload, reloads := t.reloads - 1 } := by simp [TimerRun.takeReload, h, left]

theorem State.timerExpiry_of_not_due (h : s.mo.eu.timer.due = false) : s.timerExpiry = s := by
  simp [State.timerExpiry, h]

/-- The Pass Timer of a state is replaced. -/
def State.withTimer (t : TimerRun) (s : State) : State :=
  { s with mo := { s.mo with eu := { s.mo.eu with timer := t } } }

/-- The last expiry in PASS is the Route Engine's (R108). -/
theorem State.timerExpiry_of_pass (due : s.mo.eu.timer.due = true) (last : s.mo.eu.timer.reloads = 0)
    (pass : s.mo.eu.timer.state = .pass) :
    s.timerExpiry = s.runs (passExpired (s.withTimer .idle).mo) := by
  simp only [State.timerExpiry, due, last, pass, decide_true, Bool.and_self, if_true]
  rfl

/-- The last expiry in ALARM wakes the part (R183). -/
theorem State.timerExpiry_of_alarm (due : s.mo.eu.timer.due = true) (last : s.mo.eu.timer.reloads = 0)
    (alarm : s.mo.eu.timer.state = .alarm) : s.timerExpiry = (s.withTimer .idle).wakeIf true .timer := by
  simp only [State.timerExpiry, due, last, alarm, decide_true, Bool.and_self, if_true]
  rfl

theorem passExpired_of_wait {m : Motion} (wait : m.re.inPassWait = true) (main : m.re.active = some .main) :
    passExpired m = runList .main m := by simp [passExpired, wait, main]

theorem passExpired_of_suspended {m : Motion} (kept : m.re.suspended = some .passWait)
    (priority : m.re.active = some .priority) :
    passExpired m = { m with re := { m.re with keptExpiry := true } } := by simp [passExpired, kept, priority]

theorem passExpired_of_neither {m : Motion} (sub : m.re.sub ≠ .passWait) (kept : m.re.suspended ≠ some .passWait) :
    passExpired m = m := by simp [passExpired, RouteEngine.inPassWait, sub, kept]

end timer

/-- Settles O57. -/
theorem passTimerRunsOut : Obligations.PassTimerRunsOut := by
  refine fun s => ⟨fun hs base i r c bad => ?_, fun hs base i r c good zero => ?_, fun hs base i r c good reload =>
    ⟨fun pass => ?_, fun other => ?_⟩, fun early => ?_, fun run zero => ?_, fun pass zero last q hq => ?_⟩
  · exact exec_answers_same hs rfl rfl rfl (serveSetPassTimer_of_badBase bad i r c)
  · exact exec_answers_same hs rfl rfl rfl ((serveSetPassTimer_of_goodBase good i r c).trans (if_pos zero))
  · exact exec_answers_same hs rfl rfl rfl
      ((serveSetPassTimer_of_goodBase good i r c).trans ((if_neg reload).trans (if_pos pass)))
  · exact exec_leaves hs rfl rfl rfl
      ((serveSetPassTimer_of_goodBase good i r c).trans ((if_neg reload).trans (if_neg other)))
  · have quiet : s.mo.eu.timer.due = false := by
      rcases early with stopped | left
      · simp [TimerRun.due, stopped]
      · simp [TimerRun.due, Nat.ne_of_gt left]
    refine ⟨?_, congrArg Host.Outcome.next (State.timerExpiry_of_not_due quiet)⟩
    exact congrArg (fun t => Host.Outcome.next (s.withTimer t)) (takeReload_of_not_due quiet)
  · have due : s.mo.eu.timer.due = true := (TimerRun.due_iff _).2 ⟨run, zero⟩
    refine ⟨fun left => congrArg (fun t => Host.Outcome.next (s.withTimer t)) (takeReload_of_due due left), fun last =>
      ⟨s.timerExpiry, rfl, fun alarm parked => ?_, fun pass sub kept todo => ?_⟩⟩
    · have timer := State.wakeIf_of_parked (s := s.withTimer .idle) parked .timer
      rw [State.timerExpiry_of_alarm due last alarm, timer]
      obtain ⟨device, record, guard, map, engine, -⟩ := State.wake_leaves .timer (s.withTimer .idle)
      exact ⟨by rw [State.wake_eu]; rfl, device, record,
        by rw [State.wake_eu]; exact EventUnit.flagged_raise_same _ _, by rw [guard]; rfl, engine, map⟩
    · have same : passExpired (s.withTimer .idle).mo = (s.withTimer .idle).mo := passExpired_of_neither sub kept
      have still : runEngine s.env Config.engineMoves (s.withTimer .idle).mo = (s.withTimer .idle).mo :=
        runEngine_of_none _ _ _ todo
      rw [State.timerExpiry_of_pass due last pass, same, State.runs, still]
      exact ⟨rfl, rfl⟩
  · have due : s.mo.eu.timer.due = true := (TimerRun.due_iff _).2 ⟨by rw [pass]; decide, zero⟩
    have expired : exec .passTimerExpiry s = .next (s.runs (passExpired q)) := by
      rw [hq]
      exact congrArg Host.Outcome.next (State.timerExpiry_of_pass due last pass)
    refine ⟨fun runs sub main => expired.trans ?_, fun kept priority todo => expired.trans ?_⟩
    · rw [passExpired_of_wait (by rw [Motion.inPassWait_iff, hq]; exact ⟨runs, sub⟩) (by rw [hq]; exact main)]
      subst hq
      simp only [runList, main]
    · rw [passExpired_of_suspended (by rw [hq]; exact kept) (by rw [hq]; exact priority), State.runs,
        runEngine_of_none _ _ _ (by rw [hq]; exact todo)]
      subst hq
      rfl

/-! ## PARK (R115, R150, R182) -/

section park
variable {s : State}

theorem State.mayPark_iff (s : State) : s.mayPark = true ↔
    s.mo.re.state = .idle ∧ s.mo.dp.grant.state = .none ∧ s.fm.fill = none ∧ s.cs.burn = none := by
  simp [State.mayPark, State.filling, and_assoc]

theorem flagByte_le (b : Bool) : ¬1 < flagByte b := by cases b <;> decide

theorem servePark_of_good {alarm : Byte} (low : ¬1 < alarm) (set : ¬(alarm = 1 ∧ s.mo.eu.settings.initial = 0)) :
    servePark alarm s = if s.mayPark = false then (s, .rejected .notIdle)
      else ({ s with mo := s.mo.park (alarm = 1) }, .done []) := (if_neg low).trans (if_neg set)

/-- PARK's alarm runs from the settings when their initial count is above 0 (R180, R182). -/
theorem Motion.park_eq {alarm : Bool} {m : Motion} (h : alarm = true → 0 < m.eu.settings.initial) :
    m.park alarm = { m with
      hg := { m.hg with state := .off, fl := .reset, fr := .reset, sl := .reset, sr := .reset, window := none }
      dp := { m.dp with watch := none }
      eu := { m.eu with
        device := .parked
        timer := if alarm then
            { state := .alarm, count := m.eu.settings.initial, reloads := m.eu.settings.reloadCount,
              tickBase := m.eu.settings.tickBase, reload := m.eu.settings.reload, ms := 0 }
          else m.eu.timer } } := by
  cases alarm with
  | false => rfl
  | true =>
    have positive : m.eu.settings.initial ≠ 0 := Nat.ne_of_gt (h rfl)
    simp only [Motion.park, startTimer, if_true, if_neg positive]

end park

/-- Settles O58. -/
theorem parkStopsTheGuard : Obligations.ParkStopsTheGuard := by
  refine ⟨fun alarm s hs bad => ?_, fun alarm s hs initial => ?_⟩
  · refine exec_answers_same hs rfl rfl rfl ?_
    by_cases high : 1 < alarm
    · exact if_pos high
    · exact (if_neg high).trans (if_pos (bad.resolve_left high))
  · have served (n : Nat) := servePark_of_good (s := s.taken n) (flagByte_le alarm) fun h =>
      Nat.ne_of_gt (initial ((flagByte_eq_one alarm).symm.trans (decide_eq_true h.1))) h.2
    refine ⟨fun idle grant fill burn => ?_, fun refused => ?_⟩
    · have may : s.mayPark = true := s.mayPark_iff.2 ⟨idle, grant, fill, burn⟩
      have left : exec (.park (flagByte alarm)) s = .next (State.answered 4 (.done []) (s.withMotion (s.mo.park alarm))) := by
        refine exec_leaves hs rfl rfl rfl ((served 4).trans ((if_neg (Bool.not_eq_false _ ▸ may)).trans ?_))
        rw [flagByte_eq_one]
        rfl
      rw [Motion.park_eq initial] at left
      exact ⟨_, left, rfl, rfl⟩
    · have may : s.mayPark = false := by
        rw [Bool.eq_false_iff, ne_eq, s.mayPark_iff]
        tauto
      exact exec_answers_same hs rfl rfl rfl ((served 4).trans (if_pos may))

end Sys2Proof.Machine
end

section
/-! The calibration record and its one-time slots (sections 11.1 and 11.2). -/

namespace Sys2Proof.Machine
open Sys2Proof

/-! ## The fields and their ranges (R185) -/

/-- The first of a list of values that lies outside its range, counted from n. -/
def firstOff : Nat → List (Int × Int) → List Int → Option Nat
  | n, r :: rs, v :: vs => if v < r.1 ∨ r.2 < v then some n else firstOff (n + 1) rs vs
  | _, _, _ => none

section ranges
variable {rs : List (Int × Int)} {vs : List Int}

theorem firstOff_eq_none (n : Nat)
    (h : ∀ (k : Nat) (v : Int) (r : Int × Int), vs[k]? = some v → rs[k]? = some r → r.1 ≤ v ∧ v ≤ r.2) :
    firstOff n rs vs = none := by
  induction rs generalizing vs n with
  | nil => cases vs <;> rfl
  | cons r rs ih =>
    cases vs with
    | nil => rfl
    | cons v vs =>
      obtain ⟨lo, hi⟩ := h 0 v r rfl rfl
      rw [firstOff, if_neg (not_or.2 ⟨not_lt.2 lo, not_lt.2 hi⟩)]
      exact ih _ fun k => h (k + 1)

theorem firstOff_eq_some {k : Nat} {v : Int} {r : Int × Int} (n : Nat)
    (before : ∀ (j : Nat) (v : Int) (r : Int × Int), j < k → vs[j]? = some v → rs[j]? = some r → r.1 ≤ v ∧ v ≤ r.2)
    (hv : vs[k]? = some v) (hr : rs[k]? = some r) (bad : v < r.1 ∨ r.2 < v) : firstOff n rs vs = some (k + n) := by
  induction k generalizing n rs vs with
  | zero =>
    cases rs with
    | nil => cases hr
    | cons r' rs =>
      cases vs with
      | nil => cases hv
      | cons v' vs =>
        cases hr
        cases hv
        rw [firstOff, if_pos bad, Nat.zero_add]
  | succ k ih =>
    cases rs with
    | nil => cases hr
    | cons r' rs =>
      cases vs with
      | nil => cases hv
      | cons v' vs =>
        obtain ⟨lo, hi⟩ := before 0 v' r' k.succ_pos rfl rfl
        rw [firstOff, if_neg (not_or.2 ⟨not_lt.2 lo, not_lt.2 hi⟩),
          ih (n + 1) (fun j v r hj => before (j + 1) v r (Nat.succ_lt_succ hj)) hv hr, Nat.succ_add_eq_add_succ]

end ranges

theorem ite_some_or (p : Prop) [Decidable p] (n : Nat) (o : Option Nat) :
    (if p then some n else none).or o = if p then some n else o := by split <;> rfl

/-- The model's chain of range checks names the first field outside the table of section 11.1. -/
theorem calibrationOutside_eq (c : Calibration) :
    calibrationOutside c = firstOff 2 calibrationRanges (calibrationValues c) := by
  have ranges : calibrationRanges = [(1000, 65535), (120, 400), (100, 250), (-300, 300), (-300, 300), (-300, 300),
    (-300, 300), (-300, 300), (-300, 300), (-300, 300), (-300, 300)] := rfl
  have nat (lo hi v : Nat) : v < lo ∨ hi < v ↔ (v : Int) < lo ∨ (hi : Int) < v := by omega
  rw [ranges]
  unfold calibrationOutside
  simp only [ite_some_or, nat]
  rfl

theorem calibrationBytes_length (c : Calibration) : (calibrationBytes c).length = 21 := rfl

theorem calibrationFrame_envelope (code : Byte) (c : Calibration) :
    (Frame.mk' code (calibrationBytes c)).badEnvelope = false :=
  Frame.mk'_envelope _ _ (by rw [calibrationBytes_length]; decide)

section owner
variable {c : Calibration} {s : State}

theorem serveWriteCalibration_of_bad {n : Nat} (h : calibrationOutside c = some n) :
    serveWriteCalibration c s = (s, .invalid n 0) := by rw [serveWriteCalibration, h]

theorem serveWriteCalibration_of_good (h : calibrationOutside c = none) : serveWriteCalibration c s =
    if s.mo.re.state ≠ .idle then (s, .rejected .notIdle)
    else ({ s with cs := { s.cs with working := c } }, .done []) := by rw [serveWriteCalibration, h]

theorem burnSlot_of_none {cs : CalStore} (first : cs.first ≠ .blank) (second : cs.second ≠ .blank) :
    cs.burnSlot = none := by rw [CalStore.burnSlot, if_neg first, if_neg second]

theorem burnSlot_of_blank {cs : CalStore} (h : cs.first = .blank ∨ cs.second = .blank) :
    cs.burnSlot = some (if cs.first = .blank then .first else .second) := by
  unfold CalStore.burnSlot
  split
  · rfl
  · next first => rw [if_pos (h.resolve_left first)]

theorem serveBurn_of_burning (h : s.cs.burn.isSome = true) : serveBurnCalibration s = (s, .busy) := if_pos h

theorem serveBurn_of_running (h : s.cs.burn = none) (run : s.mo.re.state ≠ .idle) :
    serveBurnCalibration s = (s, .rejected .notIdle) := (if_neg (by rw [h]; decide)).trans (if_pos run)

theorem serveBurn_of_exhausted (h : s.cs.burn = none) (idle : s.mo.re.state = .idle) (slot : s.cs.burnSlot = none) :
    serveBurnCalibration s = (s, .rejected .slotsExhausted) := by
  simp [serveBurnCalibration, h, idle, slot]

theorem serveBurn_of_blank {k : SlotId} (h : s.cs.burn = none) (idle : s.mo.re.state = .idle)
    (slot : s.cs.burnSlot = some k) : serveBurnCalibration s =
      ({ s with cs := { s.cs with burn := some { slot := k, copy := s.cs.working, left := 40 } } }, .started) := by
  simp [serveBurnCalibration, h, idle, slot, Config.burnTime]

end owner

/-! ## The slots (R186, R187) -/

section slots
variable {cs : CalStore}

theorem CalStore.burnOk_iff (cs : CalStore) : cs.BurnOk ↔ ∀ b, cs.burn = some b → cs.slot b.slot = .blank := by
  unfold CalStore.BurnOk
  cases cs.burn with
  | none => simp
  | some b => cases h : b.slot <;> simp [h, CalStore.slot]

theorem CalStore.slot_setSlot_same (k : SlotId) (v : CalSlot) : (cs.setSlot k v).slot k = v := by cases k <;> rfl

theorem CalStore.slot_setSlot_other {k id : SlotId} (v : CalSlot) (h : id ≠ k) : (cs.setSlot k v).slot id = cs.slot id := by
  cases k <;> cases id <;> simp [CalStore.setSlot, CalStore.slot] at h ⊢

theorem CalStore.setSlot_eq (k : SlotId) (v : CalSlot) : cs.setSlot k v =
    { cs with first := if k = .first then v else cs.first, second := if k = .second then v else cs.second } := by
  cases k <;> rfl

theorem CalStore.load_frame (cs : CalStore) : cs.load = { cs with
    working := cs.load.working, source := cs.load.source, calDefault := cs.load.calDefault } := by
  unfold CalStore.load
  split <;> rfl

theorem CalStore.load_slot (cs : CalStore) (id : SlotId) : cs.load.slot id = cs.slot id := by
  rw [CalStore.load_frame]
  cases id <;> rfl

theorem CalStore.spoil_of_burn {b : Burn} (h : cs.burn = some b) :
    cs.spoil = { cs.setSlot b.slot .spoiled with burn := none } := by rw [CalStore.spoil, h]

theorem CalStore.spoil_of_none (h : cs.burn = none) : cs.spoil = cs := by rw [CalStore.spoil, h]

theorem CalStore.spoil_burn (cs : CalStore) : cs.spoil.burn = none := by
  cases h : cs.burn with
  | none => rw [CalStore.spoil_of_none h, h]
  | some b => rw [CalStore.spoil_of_burn h]

end slots

/-- What every command but POWER ON RESET and BURN DONE does to the slots: they stand, and a burn keeps a Blank slot
before it. -/
structure State.SlotsStand (s t : State) : Prop where
  slot : ∀ id, t.cs.slot id = s.cs.slot id
  burn : s.cs.BurnOk → t.cs.BurnOk

namespace State.SlotsStand
variable {s q t : State}

theorem of_eq (h : t.cs = s.cs) : s.SlotsStand t := ⟨fun _ => by rw [h], fun k => h ▸ k⟩

theorem refl : s.SlotsStand s := of_eq rfl

theorem trans (h : s.SlotsStand q) (k : q.SlotsStand t) : s.SlotsStand t :=
  ⟨fun id => (k.slot id).trans (h.slot id), fun b => k.burn (h.burn b)⟩

end State.SlotsStand

theorem State.writeByte_cs (b : Byte) (s : State) : (s.writeByte b).cs = s.cs := by
  unfold State.writeByte
  dsimp only
  split
  · exact State.plannerWrite_cs s true _ _
  · rfl

theorem writeBytes_cs (bs : List Byte) (n : Nat) (s : State) : (writeBytes bs n s).1.cs = s.cs := by
  induction bs generalizing n s with
  | nil => rfl
  | cons b bs ih => rw [writeBytes, ih, State.writeByte_cs]

namespace State.SlotsStand
variable {s t : State}

theorem burnCalibration (s : State) : s.SlotsStand (serveBurnCalibration s).1 := by
  unfold serveBurnCalibration
  split
  · exact refl
  · split
    · exact refl
    · split
      · exact refl
      · next k blank =>
        refine ⟨fun id => by cases id <;> rfl, fun _ => (CalStore.burnOk_iff _).2 fun b hb => ?_⟩
        cases hb
        unfold CalStore.burnSlot at blank
        split at blank
        · next first =>
          cases blank
          exact first
        · split at blank
          · next second =>
            cases blank
            exact second
          · cases blank

/-- Every owner leaves the slots; a burn begins on a Blank one (R187). -/
theorem serve (i : Instr) (s : State) : s.SlotsStand (serve i s).1 := by
  cases i
  case burnCalibration => exact burnCalibration s
  case writeCalibration c =>
    change s.SlotsStand (serveWriteCalibration c s).1
    unfold serveWriteCalibration
    split
    · exact refl
    · split
      · exact refl
      · exact ⟨fun id => by cases id <;> rfl, id⟩
  all_goals refine of_eq ?_; dsimp only [Machine.serve]
  case setWindow => unfold serveSetWindow; (repeat' split) <;> rfl
  case setCursor => unfold serveSetCursor; (repeat' split) <;> rfl
  case writeCells =>
    unfold serveWriteCells
    repeat' split
    · rfl
    · rfl
    · rfl
    · exact writeBytes_cs _ _ s
  case readCells => unfold serveReadCells; (repeat' split) <;> rfl
  case fillWindow => unfold serveFillWindow; (repeat' split) <;> rfl
  case releaseHazard => unfold serveReleaseHazard; dsimp only; (repeat' split) <;> simp
  case readSectors => unfold serveReadSectors; (repeat' split) <;> rfl
  case readChanges => unfold serveReadChanges; (repeat' split) <;> rfl
  case fixPose => unfold serveFixPose; (repeat' split) <;> simp
  case setDockPose => unfold serveSetDockPose serveSetDock serveClearDock; (repeat' split) <;> rfl
  case loadSegment => unfold serveLoadSegment; (repeat' split) <;> rfl
  case clearSegment => unfold serveClearSegment; (repeat' split) <;> rfl
  case loadList => unfold serveLoadList; (repeat' split) <;> rfl
  case readList => unfold serveReadList; split <;> rfl
  case startRoute => unfold serveStartRoute; (repeat' split) <;> rfl
  case stopRoute => unfold serveStopRoute; (repeat' split) <;> rfl
  case postPriority => unfold servePostPriority; (repeat' split) <;> rfl
  case acknowledge => unfold serveAcknowledge; (repeat' split) <;> rfl
  case writeTuning => unfold serveWriteTuning; split <;> rfl
  case armNotices => unfold serveArmNotices; split <;> rfl
  case armWake => unfold serveArmWake; (repeat' split) <;> rfl
  case setPassTimer => unfold serveSetPassTimer; (repeat' split) <;> rfl
  case park => unfold servePark; (repeat' split) <;> rfl
  case softReset => unfold serveSoftReset; split <;> rfl
  all_goals rfl

theorem dealWith (f : Frame) {owner : State → Answer} (h : ∀ q : State, q.SlotsStand (owner q).1) (s : State) :
    s.SlotsStand (dealWith f owner s).1 := by
  unfold Machine.dealWith
  split
  · exact refl
  · split
    · exact refl
    · exact h s

theorem serveFrame (f : Frame) (s : State) : s.SlotsStand (serveFrame f s).1 := by
  unfold Machine.serveFrame
  split
  · split <;> exact refl
  · exact dealWith f (fun _ => refl) s
  · exact dealWith f (serve _) s

theorem arrive (f : Frame) (s : State) : s.SlotsStand (s.arrive f) := by
  unfold State.arrive
  split
  · exact of_eq rfl
  · exact (of_eq (State.takeFrame_cs s)).trans ((serveFrame f _).trans (of_eq rfl))

theorem idle (s : State) : s.SlotsStand s.idle := by
  cases served : s.pp.serving with
  | none =>
    rw [State.idle_of_free served]
    exact of_eq rfl
  | some r =>
    rw [State.idle_of_serving served]
    cases waits : s.pp.buffer with
    | none =>
      rw [State.placeHeld_of_served served waits]
      exact of_eq rfl
    | some f =>
      rw [State.placeHeld_of_buffered served waits]
      exact trans (q := { s with pp := { s.pp with slot := some r, serving := none, buffer := none } }) (of_eq rfl)
        (arrive f _)

theorem request {i : Instr} (h : s.request i (Machine.serve i) = .next t) : s.SlotsStand t := by
  unfold State.request at h
  split at h
  · cases h
    exact refl
  · dsimp only at h
    split at h <;> cases h
    · exact of_eq rfl
    · exact (of_eq (by simp)).trans ((dealWith _ (serve i) _).trans (of_eq rfl))

end State.SlotsStand

/-! ### What the other occurrences leave -/

section store
variable (s : State)

theorem State.fillStep_cs : s.fillStep.cs = s.cs := by
  unfold State.fillStep
  split
  · rfl
  · exact State.plannerWrite_cs s false _ _

theorem State.fillSteps_cs (n : Nat) : (State.fillSteps n s).cs = s.cs := by
  induction n generalizing s with
  | zero => rfl
  | succ n ih => rw [State.fillSteps, ih, State.fillStep_cs]

theorem State.fillEnd_cs : s.fillEnd.cs = s.cs := by
  unfold State.fillEnd
  split <;> rfl

theorem State.trip_cs (o : SegOutcome) (k : Option SensedMark) : (s.trip o k).cs = s.cs := by
  unfold State.trip
  split
  · rfl
  · simp

theorem State.cliffSample_cs (k : CliffSensor) (level : Byte) : (s.cliffSample k level).cs = s.cs := by
  unfold State.cliffSample
  dsimp only
  split
  · rfl
  · split
    · exact State.trip_cs _ _ _
    · rfl

theorem State.closeWindow_cs (both : Bool) (w : BumpWindow) : (s.closeWindow both w).cs = s.cs := by
  simp [State.closeWindow]

theorem State.openWindow_cs (left : Bool) : (s.openWindow left).cs = s.cs := State.trip_cs _ _ _

theorem State.bumpTrip_cs (left : Bool) : (s.bumpTrip left).cs = s.cs := by
  unfold State.bumpTrip
  split
  · exact s.openWindow_cs left
  · split
    · exact (State.openWindow_cs _ left).trans (s.closeWindow_cs false _)
    · split
      · rfl
      · exact s.closeWindow_cs true _

theorem State.lineSample_cs (line : SwitchLine) (now : Bool) : (s.lineSample line now).cs = s.cs := by
  unfold State.lineSample
  dsimp only
  split
  · split
    · unfold State.lineWake
      split <;> rfl
    · cases line with
      | wl => exact State.trip_cs _ _ _
      | wr => exact State.trip_cs _ _ _
      | bl => exact State.bumpTrip_cs _ true
      | br => exact State.bumpTrip_cs _ false
  · rfl

theorem State.windowTimeout_cs : s.windowTimeout.cs = s.cs := by
  unfold State.windowTimeout
  split
  · split
    · exact s.closeWindow_cs false _
    · rfl
  · rfl

theorem State.contactChange_cs : s.contactChange.cs = s.cs := by
  unfold State.contactChange State.undock
  dsimp only
  repeat' split
  all_goals simp

theorem State.timerExpiry_cs : s.timerExpiry.cs = s.cs := by
  unfold State.timerExpiry
  dsimp only
  repeat' split
  all_goals simp

theorem State.takePose_cs (r : Report) : (s.takePose r).cs = s.cs := by
  unfold State.takePose State.movedWake
  dsimp only
  repeat' split
  all_goals simp [State.integrateReport]

theorem State.faultGrant_cs : s.faultGrant.cs = s.cs := rfl

theorem State.missReport_cs : s.missReport.cs = s.cs := by
  unfold State.missReport
  dsimp only
  split <;> rfl

theorem State.activeReport_cs (d : DriveState) : (s.activeReport d).cs = s.cs := by
  cases d with
  | stalled => simp [State.activeReport, State.stallReport]
  | _ => rfl

theorem State.settleReport_cs (d : DriveState) : (s.settleReport d).cs = s.cs := by
  unfold State.settleReport
  split
  · rfl
  · rfl
  · dsimp only
    split <;> rfl

theorem State.takeGrant_cs (r : Report) : (s.takeGrant r).cs = s.cs := by
  unfold State.takeGrant
  split
  · rfl
  · split
    · exact State.activeReport_cs _ _
    · exact s.missReport_cs
  · split
    · exact State.activeReport_cs _ _
    · exact s.missReport_cs
  · exact s.settleReport_cs _

theorem State.closeJudgement_cs : s.closeJudgement.cs = s.cs := by
  unfold State.closeJudgement
  split
  · split <;> rfl
  · rfl

theorem State.selfRelease_cs (d : DriveState) : (s.selfRelease d).cs = s.cs := by
  unfold State.selfRelease
  split <;> rfl

theorem State.takeBattery_cs (level : Nat) : (s.takeBattery level).cs = s.cs := by
  unfold State.takeBattery State.crossing
  dsimp only
  repeat' split
  all_goals simp

theorem State.takeReport_cs (r : Report) : (s.takeReport r).cs = s.cs := by
  rw [State.takeReport, State.takeSense_cs, State.takeBattery_cs, State.selfRelease_cs, State.closeJudgement_cs,
    State.takeGrant_cs, State.takePose_cs]
  rfl

theorem State.driveBytes_cs (bytes : List Byte) : (s.driveBytes bytes).cs = s.cs := by
  unfold State.driveBytes
  dsimp only
  split
  · exact State.takeReport_cs _ _
  · rfl

theorem State.watchExpiry_cs : s.watchExpiry.cs = s.cs := by
  unfold State.watchExpiry
  dsimp only
  repeat' split
  all_goals rfl

theorem State.checkResult_cs : s.checkResult.cs = s.cs := by
  unfold State.checkResult
  repeat' split
  all_goals rfl

theorem State.recheckResult_cs : s.recheckResult.cs = s.cs := by
  unfold State.recheckResult
  dsimp only
  repeat' split
  all_goals rfl

end store

namespace State.SlotsStand
variable {s t : State}

/-- A millisecond lowers a burn's count and leaves its slot (R187). -/
theorem tick (s : State) : s.SlotsStand s.tick := by
  refine ⟨fun id => by cases id <;> rfl, fun ok => (CalStore.burnOk_iff _).2 fun b hb => ?_⟩
  obtain ⟨b', hb', rfl⟩ := Option.map_eq_some_iff.1 hb
  exact (CalStore.burnOk_iff _).1 ok b' hb'

theorem transactionEnd {bytes : List Byte} (h : execTransactionEnd bytes s = .next t) : s.SlotsStand t := by
  unfold execTransactionEnd at h
  split at h <;> cases h
  · exact refl
  · exact of_eq (State.wakeIf_cs s true .frame)
  · exact of_eq rfl
  · exact trans (q := s.misoZeros bytes.length) (of_eq rfl) (arrive _ _)

theorem invalidFrame {code : Byte} {length : Half} {body : List Byte}
    (h : execInvalidFrame code length body s = .next t) : s.SlotsStand t := by
  simp only [execInvalidFrame] at h
  split at h <;> cases h
  · exact of_eq rfl
  · exact (of_eq (by simp)).trans ((serveFrame _ _).trans (of_eq rfl))

theorem of_next {q : State} (h : s.SlotsStand q) (e : (.next q : Result) = .next t) : s.SlotsStand t := by
  cases e
  exact h

/-- The commands that are no requests, but for the two that end a burn. -/
theorem event {i : Instr} (hf : requestFrame i = none) (reset : i ≠ .powerOnReset) (done : i ≠ .burnDone)
    (h : exec i s = .next t) : s.SlotsStand t := by
  cases i with
  | powerOnReset => exact absurd rfl reset
  | burnDone => exact absurd rfl done
  | mapSweepDone =>
    change execMapSweepDone s = .next t at h
    unfold execMapSweepDone at h
    split at h <;> cases h <;> exact of_eq rfl
  | timeBaseTick => exact of_next (tick s) h
  | transactionEnd bytes => exact transactionEnd h
  | fetch clocked => exact of_next (q := s.fetch clocked) (of_eq (State.wakeIf_cs s true .frame)) h
  | invalidFrame code length body => exact invalidFrame h
  | fillProgress count => exact of_next (of_eq (s.fillSteps_cs _)) h
  | fillDone =>
    change execFillDone s = .next t at h
    unfold execFillDone at h
    split at h <;> cases h
    · exact of_eq ((State.fillEnd_cs _).trans s.fillStep_cs)
    · exact refl
  | checkResult beacon => exact of_next (q := (s.setBeacon beacon).checkResult) (of_eq (State.checkResult_cs _)) h
  | recheckResult => exact of_next (of_eq s.recheckResult_cs) h
  | driveReport bytes beacon => exact of_next (q := (s.setBeacon beacon).driveBytes bytes) (of_eq (State.driveBytes_cs _ bytes)) h
  | driveWatchExpiry => exact of_next (of_eq s.watchExpiry_cs) h
  | cliffSample sensor level => exact of_next (of_eq (s.cliffSample_cs sensor level)) h
  | lineSample line asserted => exact of_next (of_eq (s.lineSample_cs line asserted)) h
  | bumpWindowTimeout => exact of_next (of_eq s.windowTimeout_cs) h
  | contactChange => exact of_next (of_eq s.contactChange_cs) h
  | passTimerExpiry => exact of_next (of_eq s.timerExpiry_cs) h
  | mapSweepProgress count => cases h; exact of_eq rfl
  | checkBegin => cases h; exact of_eq rfl
  | checkSample => cases h; exact of_eq rfl
  | heldGrantRelease => cases h; exact of_eq rfl
  | txFrameDone => cases h; exact of_eq rfl
  | rxFrameDiscard bytes => cases h; exact of_eq rfl
  | rxGapTimeout => cases h; exact of_eq rfl
  | dwellEnd => cases h; exact of_eq rfl
  | dckSample asserted => cases h; exact of_eq rfl
  | passTimerReload => cases h; exact of_eq rfl
  | _ => cases hf

theorem exec {i : Instr} (reset : i ≠ .powerOnReset) (done : i ≠ .burnDone) (h : exec i s = .next t) : s.SlotsStand t := by
  cases hf : requestFrame i with
  | none => exact event hf reset done h
  | some f =>
    rw [exec_of_request hf] at h
    exact request h

end State.SlotsStand

/-- A power-on reset spoils the slot of a burn it cuts short, and leaves the other (R186, R189). -/
theorem CalStore.spoil_slot {cs : CalStore} (id : SlotId) : cs.spoil.slot id = cs.slot id ∨
    ∃ b, cs.burn = some b ∧ b.slot = id ∧ cs.spoil.slot id = .spoiled := by
  cases h : cs.burn with
  | none => exact .inl (by rw [CalStore.spoil_of_none h])
  | some b =>
    rw [CalStore.spoil_of_burn h]
    by_cases same : id = b.slot
    · exact .inr ⟨b, rfl, same.symm, same ▸ CalStore.slot_setSlot_same _ _⟩
    · exact .inl (CalStore.slot_setSlot_other _ same)

theorem State.burnEnd_slot {s : State} {b : Burn} (h : s.cs.burn = some b) (zero : b.left = 0) :
    s.burnEnd.cs = { s.cs.setSlot b.slot (.written b.copy) with burn := none } := by
  simp [State.burnEnd, h, zero]

theorem State.burnEnd_of_none {s : State} (h : ∀ b, s.cs.burn = some b → b.left ≠ 0) : s.burnEnd = s := by
  unfold State.burnEnd
  split
  · next b hb => exact if_neg (h b hb)
  · rfl

theorem State.burnEnd_pending (s : State) (rest : List Instr) : ({ s with pending := rest } : State).burnEnd.cs = s.burnEnd.cs := by
  unfold State.burnEnd
  dsimp only
  split
  · split <;> rfl
  · rfl

theorem CalStore.burnOk_of_none {cs : CalStore} (h : cs.burn = none) : cs.BurnOk :=
  (CalStore.burnOk_iff cs).2 fun b hb => by rw [h] at hb; cases hb

/-- A slot is left otherwise by a step: it was the Blank slot of a burn that the step ends. -/
def State.SlotEnds (s t : State) (id : SlotId) : Prop :=
  ∃ b, s.cs.burn = some b ∧ b.slot = id ∧ s.cs.slot id = .blank ∧ t.cs.burn = none ∧
    ((s.pending.head? = some .burnDone ∧ b.left = 0 ∧ t.cs.slot id = .written b.copy) ∨
     (s.pending.head? = some .powerOnReset ∧ t.cs.slot id = .spoiled))

theorem State.SlotsStand.step {s t : State} (k : s.SlotsStand t) (ok : s.cs.BurnOk) :
    t.cs.BurnOk ∧ ∀ id, t.cs.slot id = s.cs.slot id ∨ s.SlotEnds t id := ⟨k.burn ok, fun id => .inl (k.slot id)⟩

theorem step_powerOnReset_slots {s t : State} {rest : List Instr} (ok : s.cs.BurnOk)
    (queue : s.pending = .powerOnReset :: rest) (h : t.cs = s.cs.spoil.load) :
    t.cs.BurnOk ∧ ∀ id, t.cs.slot id = s.cs.slot id ∨ s.SlotEnds t id := by
  have ended : t.cs.burn = none := by rw [h, CalStore.load_frame]; exact s.cs.spoil_burn
  refine ⟨CalStore.burnOk_of_none ended, fun id => ?_⟩
  rw [h, CalStore.load_slot]
  obtain same | ⟨b, hb, rfl, spoiled⟩ := s.cs.spoil_slot id
  · exact .inl same
  · exact .inr ⟨b, hb, rfl, (CalStore.burnOk_iff _).1 ok b hb, ended, .inr ⟨by rw [queue]; rfl,
      by rw [h, CalStore.load_slot, spoiled]⟩⟩

theorem step_burnDone_slots {s t : State} {rest : List Instr} (ok : s.cs.BurnOk) (queue : s.pending = .burnDone :: rest)
    (h : t.cs = s.burnEnd.cs) : t.cs.BurnOk ∧ ∀ id, t.cs.slot id = s.cs.slot id ∨ s.SlotEnds t id := by
  by_cases ends : ∃ b, s.cs.burn = some b ∧ b.left = 0
  · obtain ⟨b, hb, zero⟩ := ends
    rw [State.burnEnd_slot hb zero] at h
    have ended : t.cs.burn = none := by rw [h]
    refine ⟨CalStore.burnOk_of_none ended, fun id => ?_⟩
    have slot : t.cs.slot id = (s.cs.setSlot b.slot (.written b.copy)).slot id := by rw [h]; cases id <;> rfl
    by_cases same : id = b.slot
    · subst same
      exact .inr ⟨b, hb, rfl, (CalStore.burnOk_iff _).1 ok b hb, ended,
        .inl ⟨by rw [queue]; rfl, zero, slot.trans (CalStore.slot_setSlot_same _ _)⟩⟩
    · exact .inl (slot.trans (CalStore.slot_setSlot_other _ same))
  · rw [State.burnEnd_of_none fun b hb zero => ends ⟨b, hb, zero⟩] at h
    exact State.SlotsStand.step (.of_eq h) ok

/-- A slot changes at the end of the burn on it, or when a power-on reset cuts that short. -/
theorem step_slots {s t : State} (ok : s.cs.BurnOk) (h : step s = .next t) :
    t.cs.BurnOk ∧ ∀ id, t.cs.slot id = s.cs.slot id ∨ s.SlotEnds t id := by
  cases queue : s.pending with
  | nil =>
    rw [step_of_empty queue] at h
    cases h
    exact (State.SlotsStand.idle s).step ok
  | cons i rest =>
    rw [step, queue] at h
    by_cases reset : i = .powerOnReset
    · subst reset
      cases h
      exact step_powerOnReset_slots ok queue rfl
    · by_cases done : i = .burnDone
      · subst done
        cases h
        exact step_burnDone_slots ok queue (State.burnEnd_pending s rest)
      · have taken : s.SlotsStand { s with pending := rest } := .of_eq rfl
        exact (taken.trans (.exec reset done h)).step ok

/-- Settles O59. -/
theorem calibrationIsBurntOnce : Obligations.CalibrationIsBurntOnce := by
  refine ⟨fun s c hs => ⟨fun n before ⟨v, r, hv, hr, bad⟩ => ?_, fun good => ⟨fun run => ?_, fun idle => ?_⟩,
    fun burning => ?_, fun none run => ?_, fun none idle first second => ?_, fun none idle blank => ?_⟩,
    fun s => ⟨fun none => ?_, fun b burn => ⟨fun left => ?_, fun zero => ?_⟩⟩, fun s t ok h => ?_⟩
  · exact exec_answers_same hs rfl (calibrationFrame_envelope _ c) rfl
      (serveWriteCalibration_of_bad ((calibrationOutside_eq c).trans (firstOff_eq_some 2 before hv hr bad)))
  · exact exec_answers_same hs rfl (calibrationFrame_envelope _ c) rfl
      ((serveWriteCalibration_of_good ((calibrationOutside_eq c).trans (firstOff_eq_none 2 good))).trans (if_pos run))
  · exact exec_leaves hs rfl (calibrationFrame_envelope _ c) rfl
      ((serveWriteCalibration_of_good ((calibrationOutside_eq c).trans (firstOff_eq_none 2 good))).trans
        (if_neg (not_not_intro idle)))
  · exact exec_answers_same hs rfl rfl rfl (serveBurn_of_burning burning)
  · exact exec_answers_same hs rfl rfl rfl (serveBurn_of_running none run)
  · exact exec_answers_same hs rfl rfl rfl (serveBurn_of_exhausted none idle (burnSlot_of_none first second))
  · exact exec_leaves hs rfl rfl rfl (serveBurn_of_blank none idle (burnSlot_of_blank blank))
  · exact congrArg Host.Outcome.next (State.burnEnd_of_none fun b hb => by rw [none] at hb; cases hb)
  · refine congrArg Host.Outcome.next (State.burnEnd_of_none fun b' hb => ?_)
    rw [burn] at hb
    cases hb
    exact left
  · refine congrArg Host.Outcome.next ?_
    simp only [State.burnEnd, burn, if_pos zero, CalStore.setSlot_eq]
    rfl
  · exact step_slots ok h

end Sys2Proof.Machine
end

section
/-! The two resets and the map sweep (sections 11.2 to 11.5). -/

namespace Sys2Proof.Machine
open Sys2Proof

/-! ## SOFT RESET (R167) -/

theorem GrantState.outstanding_iff (g : GrantState) : g.outstanding = true ↔ g ≠ .none := by
  cases g <;> simp [GrantState.outstanding]

/-- What a soft reset leaves of the Drive Port but for its transmitter (R114, R115, R117, R124). -/
theorem softDrive_frame (m : Motion) : (softDrive m).dp = { m.dp with
    link := .offline, watch := none, rx := [], grant := { m.dp.grant with state := .none }
    txNow := (softDrive m).dp.txNow, txQueue := (softDrive m).dp.txQueue } := by
  unfold softDrive
  dsimp only
  split
  · rw [makeFrame_eq]
    unfold DrivePort.made
    split <;> rfl
  · rfl

theorem softDrive_of_none {m : Motion} (h : m.dp.grant.state = .none) :
    (softDrive m).dp.txNow = m.dp.txNow ∧ (softDrive m).dp.txQueue = [] := by
  simp [softDrive, setGrantState, h, GrantState.outstanding]

/-- The Cancel Stop of an outstanding grant (R132). -/
theorem softDrive_of_outstanding {m : Motion} (h : m.dp.grant.state ≠ .none) :
    (m.dp.txNow = none → (softDrive m).dp.txNow = some (.stop m.dp.grant.id .cancel) ∧ (softDrive m).dp.txQueue = []) ∧
    ∀ f, m.dp.txNow = some f →
      (softDrive m).dp.txNow = some f ∧ (softDrive m).dp.txQueue = [.stop m.dp.grant.id .cancel] := by
  have out := (GrantState.outstanding_iff _).2 h
  constructor
  · intro idle
    simp [softDrive, setGrantState, out, makeFrame_eq, DrivePort.made, idle]
  · intro f busy
    simp [softDrive, setGrantState, out, makeFrame_eq, DrivePort.made, busy]

/-- A descriptor after a soft reset (R82). -/
theorem Descriptor.soft_of_recorded {time : Word} {n : Nat} {alt : Bool} {d : Descriptor} (h : d.outcome ≠ .inProgress) :
    d.soft time n alt = d := if_neg h

theorem RouteEngine.altBegun_of_none {re : RouteEngine} (h : re.seg = none) : re.altBegun = false := by
  rw [RouteEngine.altBegun, h]

theorem RouteEngine.altBegun_of_some {re : RouteEngine} {sr : SegRun} (h : re.seg = some sr) : re.altBegun =
    decide (sr.seg.kind = .line ∧ sr.seg.alt.isSome = true ∧ sr.seg.retries + 1 < re.attempt) := by
  simp [RouteEngine.altBegun, h, Segment.altTry, Segment.hasAlt, Bool.and_assoc]

theorem EventUnit.attn_soft (eu : EventUnit) : eu.soft.attn = false := by
  simp [EventUnit.attn, EventUnit.asserting, EventUnit.soft, EventUnit.reset]

/-- Settles O60. -/
theorem softResetKeepsAndReturns : Obligations.SoftResetKeepsAndReturns := by
  refine ⟨fun s hs burn => exec_answers_same hs rfl rfl rfl (if_pos burn), fun s hs burn => ?_⟩
  have reset : exec .softReset s = .next (State.answered 3 (.done []) s.softReset) :=
    exec_leaves hs rfl rfl rfl (if_neg (by rw [show (s.taken 3).cs.burn = none from burn]; decide))
  have drive : s.softReset.mo.dp = (softDrive s.mo).dp := rfl
  have frame := drive.trans (softDrive_frame s.mo)
  refine ⟨_, reset, rfl, rfl, rfl, rfl, rfl, rfl, rfl, rfl, rfl, rfl, rfl, rfl, rfl, rfl, rfl, rfl, rfl, rfl, rfl, rfl, rfl,
    rfl, rfl, rfl, rfl, rfl, rfl, rfl, rfl, fun id => ?_, congrArg DrivePort.link frame, congrArg DrivePort.watch frame,
    congrArg DrivePort.rx frame, congrArg DrivePort.grant frame, (congrArg DrivePort.nextId frame :),
    softDrive_of_none, fun out => (softDrive_of_outstanding out).1, rfl, rfl, fun k => ?_, rfl, rfl, rfl, EventUnit.attn_soft _, rfl, rfl,
    rfl, rfl, (congrArg DrivePort.seq frame :), (congrArg DrivePort.battery frame :), rfl, rfl, rfl, rfl, rfl, rfl,
    fun f busy out => (softDrive_of_outstanding out).2 f busy⟩
  · have list : s.softReset.mo.re.list id = (s.mo.re.list id).soft s.mo.eu.time s.mo.re.attempt s.mo.re.altBegun := by
      cases id <;> rfl
    refine ⟨congrArg RunList.position list, (congrArg RunList.passes list :), congrArg RunList.passesDone list,
      (congrArg RunList.stopOnHazard list :), (congrArg RunList.homeOnLow list :),
      (congrArg (fun l => l.entries.length) list).trans (List.length_map _), fun j e e' he he' => ?_⟩
    have kept : e' = { e with desc := e.desc.soft s.mo.eu.time s.mo.re.attempt s.mo.re.altBegun } := by
      rw [show ((State.answered 3 (.done []) s.softReset).mo.re.list id) = _ from list] at he'
      rw [RunList.soft, List.getElem?_map, he] at he'
      exact (Option.some.inj he').symm
    refine ⟨(congrArg Entry.slot kept :), fun recorded => ?_, fun running => ?_⟩
    · rw [kept, Descriptor.soft_of_recorded recorded]
    · refine (congrArg Entry.desc kept).trans ((if_pos running).trans ?_)
      cases hseg : s.mo.re.seg with
      | none => rw [RouteEngine.altBegun_of_none hseg]
      | some sr => rw [RouteEngine.altBegun_of_some hseg]
  · cases k <;> rfl

/-! ## POWER ON RESET (R186, R188, R189) -/

section load
variable {cs : CalStore} {r : Calibration}

theorem CalStore.load_of_second (h : cs.second = .written r) :
    cs.load = { cs with working := r, source := .second, calDefault := false } := by simp [CalStore.load, h]

theorem CalStore.load_of_first (none : ∀ q, cs.second ≠ .written q) (h : cs.first = .written r) :
    cs.load = { cs with working := r, source := .first, calDefault := false } := by
  cases second : cs.second with
  | written q => exact absurd second (none q)
  | blank => simp [CalStore.load, second, h]
  | spoiled => simp [CalStore.load, second, h]

theorem CalStore.load_of_neither (none : ∀ q, cs.second ≠ .written q) (none' : ∀ q, cs.first ≠ .written q) :
    cs.load = { cs with working := Config.calibration, source := .defaults, calDefault := true } := by
  unfold CalStore.load
  split
  · next q hq => exact absurd hq (none q)
  · next written _ => exact absurd written (none' _)
  · rfl

end load

/-! ## The map sweep (R189) -/

namespace FloorMap
variable {fm : FloorMap} {a : Nat}

theorem sweepStep_of_some (h : fm.sweep = some a) (more : a < 65536) :
    fm.sweepStep = { fm.putCell (CellIx.ofAddr a) CellRec.swept with sweep := some (a + 1) } := by
  rw [sweepStep, h]
  exact if_pos more

theorem sweepStep_of_none (h : fm.sweep = none) : fm.sweepStep = fm := by rw [sweepStep, h]

theorem sweepSteps_of_none (h : fm.sweep = none) (n : Nat) : fm.sweepSteps n = fm := by
  induction n with
  | zero => rfl
  | succ n ih => rw [sweepSteps, sweepStep_of_none h, ih]

theorem addr_ofAddr (a : Nat) : (CellIx.ofAddr a).addr = a := Nat.div_add_mod' a 256

theorem recordAt_putCell_same (c : CellIx) (r : CellRec) (h : Memory.wf CellRec.swept fm.cells) :
    (fm.putCell c r).recordAt c.addr = r := cellAt_putCell_same c r fm h

theorem putCell_cells_wf (c : CellIx) (r : CellRec) (h : Memory.wf CellRec.swept fm.cells) :
    Memory.wf CellRec.swept (fm.putCell c r).cells := by
  unfold putCell
  split
  · exact h
  · exact Memory.wf_write _ _ _ _ h

/-- The sweep's next n cells are swept, and nothing else of the Floor Map but its counts changes. -/
theorem sweepSteps_spec (n : Nat) (h : fm.sweep = some a) (more : a + n ≤ 65536) (wf : Memory.wf CellRec.swept fm.cells) :
    (fm.sweepSteps n) = { fm with cells := (fm.sweepSteps n).cells, sectors := (fm.sweepSteps n).sectors
                                  sweep := some (a + n) } ∧
    ∀ k, (fm.sweepSteps n).recordAt k = if a ≤ k ∧ k < a + n then CellRec.swept else fm.recordAt k := by
  induction n generalizing a fm with
  | zero =>
    refine ⟨by rw [sweepSteps, Nat.add_zero, ← h], fun k => ?_⟩
    rw [sweepSteps, if_neg (by omega)]
  | succ n ih =>
    have stepped := sweepStep_of_some h (by omega)
    have cells : fm.sweepStep.cells = (fm.putCell (CellIx.ofAddr a) CellRec.swept).cells := by rw [stepped]
    obtain ⟨frame, reads⟩ := ih (fm := fm.sweepStep) (a := a + 1) (by rw [stepped]) (by omega)
      (cells ▸ putCell_cells_wf _ _ wf)
    constructor
    · rw [sweepSteps, frame, stepped, putCell_frame, Nat.succ_add_eq_add_succ]
    · intro k
      have first : fm.sweepStep.recordAt k = if k = a then CellRec.swept else fm.recordAt k := by
        rw [recordAt, cells]
        split
        · next same =>
          have read := recordAt_putCell_same (CellIx.ofAddr a) CellRec.swept wf
          rw [addr_ofAddr] at read
          rw [same]
          exact read
        · next other => exact read_putCell_other _ _ _ (by rw [addr_ofAddr]; exact other)
      rw [sweepSteps, reads k, first]
      by_cases later : a + 1 ≤ k ∧ k < a + 1 + n
      · rw [if_pos later, if_pos (by omega)]
      · by_cases here : k = a
        · rw [if_neg later, if_pos here, if_pos (by omega)]
        · rw [if_neg later, if_neg here, if_neg (by omega)]

end FloorMap

theorem exec_mapSweepDone_of_last {s : State} (h : s.fm.sweep = some 65536) :
    exec .mapSweepDone s = .next { s with fm := { s.fm with sweep := none } } :=
  if_pos (by rw [FloorMap.sweepOver, h]; rfl)

theorem exec_mapSweepDone_of_more {s : State} (h : s.fm.sweep ≠ some 65536) : exec .mapSweepDone s = .next s :=
  if_neg (by rw [FloorMap.sweepOver]; simpa using h)

/-- Settles O20. -/
theorem powerOnResetsAndSweeps : Obligations.PowerOnResetsAndSweeps := by
  intro s
  have cs : s.powerOn.cs = s.cs.spoil.load := rfl
  have slots := cs.trans s.cs.spoil.load_frame
  have first : s.powerOn.cs.first = s.cs.spoil.first := (congrArg CalStore.first slots :)
  have second : s.powerOn.cs.second = s.cs.spoil.second := (congrArg CalStore.second slots :)
  refine ⟨⟨s.powerOn, rfl, rfl, ?_, fun none => ?_, fun b burn => ⟨fun slot => ?_, fun slot => ?_⟩, fun r hr => ?_,
    fun r none hr => ?_, fun none none' => ?_⟩, fun n a sweep wf => ⟨fun more => ?_, fun last => ?_, fun more => ?_⟩,
    fun none => ⟨?_, fun n => ?_⟩⟩
  · exact (congrArg CalStore.burn slots).trans s.cs.spoil_burn
  · rw [first, second, CalStore.spoil_of_none none]
    exact ⟨rfl, rfl⟩
  · rw [first, second, CalStore.spoil_of_burn burn, slot]
    exact ⟨rfl, rfl⟩
  · rw [first, second, CalStore.spoil_of_burn burn, slot]
    exact ⟨rfl, rfl⟩
  · rw [cs, CalStore.load_of_second (second.symm.trans hr)]
    exact ⟨rfl, rfl, rfl⟩
  · rw [second] at none
    rw [cs, CalStore.load_of_first none (first.symm.trans hr)]
    exact ⟨rfl, rfl, rfl⟩
  · rw [second] at none
    rw [first] at none'
    rw [cs, CalStore.load_of_neither none none']
    exact ⟨rfl, rfl, rfl⟩
  · obtain ⟨frame, reads⟩ := FloorMap.sweepSteps_spec n sweep more wf
    refine ⟨_, rfl, congrArg FloorMap.sweep frame, fun k lo hi => ?_, fun k out => ?_,
      congrArg (fun fm => ({ s with fm := fm } : State)) frame⟩
    · exact (reads k).trans (if_pos ⟨lo, hi⟩)
    · exact (reads k).trans (if_neg (by omega))
  · exact exec_mapSweepDone_of_last (last ▸ sweep)
  · exact exec_mapSweepDone_of_more (by rw [sweep]; simpa using more)
  · exact exec_mapSweepDone_of_more (by rw [none]; simp)
  · exact congrArg (fun fm => Host.Outcome.next ({ s with fm := fm } : State)) (FloorMap.sweepSteps_of_none none n)

end Sys2Proof.Machine
end

section
/-! What a report leaves of a part that nothing else concerns, and its pose step (sections 2.2, 2.3 and 6.2). -/

namespace Sys2Proof.Machine
open Sys2Proof

/-! ## The report whole (R117, R119) -/

theorem startWatch_eq (env : Env) (m : Motion) : startWatch env m = { m with dp := { m.dp with
    watch := if m.dp.link = .online ∧ m.eu.device = .run then some env.tun.driveWatch else m.dp.watch } } := by
  unfold startWatch
  split <;> rfl

section report
variable {s q : State} {r : Report}

theorem State.takeLink_setBeacon (s : State) (b : Beacon) : (s.setBeacon b).takeLink = s.linked b := by
  unfold State.takeLink State.linked
  simp only [startWatch_eq, State.setBeacon, true_and]
  split <;> rfl

theorem State.posed_eq (s : State) (r : Report) (b : Beacon) : s.posed r b = (s.linked b).takePose r := by
  rw [State.posed, State.takeLink_setBeacon]

theorem DrivePort.receive_frame {dp : DrivePort} (h : dp.rx = []) (r : Report) :
    dp.receive r.frame = { dp with rx := r.frame } := by
  have whole := huntFrame_frame r []
  rw [List.append_nil] at whole
  rw [DrivePort.receive, h, List.nil_append, whole]

/-- Bytes that complete a report's frame on a receiver that hunts are that report taken. -/
theorem State.driveBytes_frame (h : s.mo.dp.rx = []) : s.driveBytes r.frame = s.takeReport r := by
  have whole := takeFrame_reportFrame r []
  rw [List.append_nil] at whole
  have same : ({ s.mo.dp with rx := [] } : DrivePort) = s.mo.dp := by rw [← h]
  simp only [State.driveBytes, DrivePort.receive_frame h, whole]
  exact congrArg (fun dp => State.takeReport r { s with mo := { s.mo with dp := dp } }) same

theorem exec_driveReport (b : Beacon) (h : s.mo.dp.rx = []) :
    exec (.driveReport r.frame b) s = .next (((s.posed r b).takeGrant r).reportEnds r) :=
  congrArg Host.Outcome.next (State.driveBytes_frame (s := s.setBeacon b) h)

/-! ### The steps a report passes by -/

theorem State.takeGrant_of_none (h : s.mo.dp.grant.state = .none) (r : Report) : s.takeGrant r = s := by
  rw [State.takeGrant, h]

theorem State.closeJudgement_of_none (h : s.mo.re.seg = none) : s.closeJudgement = s := by rw [State.closeJudgement, h]

theorem releaseGuard_of_other {m : Motion} (h : m.hg.state ≠ .tripped) : releaseGuard m = m := if_neg h

theorem State.selfRelease_of_other (h : s.mo.hg.state ≠ .tripped) (d : DriveState) : s.selfRelease d = s := by
  unfold State.selfRelease
  rw [releaseGuard_of_other h]
  split <;> rfl

theorem State.takeBattery_of_full (h : s.mo.re.latch = .above) {level : Nat} (full : s.tun.homeLevel ≤ level) :
    s.takeBattery level = s := by
  rw [State.takeBattery, h]
  exact if_neg (Nat.not_lt.2 full)

/-- A report that finds no segment, no grant, no trip and no battery crossing leaves its sense items (R119). -/
theorem State.reportEnds_of_quiet (seg : s.mo.re.seg = none) (guard : s.mo.hg.state ≠ .tripped)
    (latch : s.mo.re.latch = .above) (full : s.tun.homeLevel ≤ r.level) : s.reportEnds r = s.sensed r := by
  rw [State.reportEnds, State.closeJudgement_of_none seg, State.selfRelease_of_other guard, State.takeBattery_of_full latch full]
  rfl

/-- A quiet part takes a report's pose step and its sense items. -/
theorem exec_driveReport_of_quiet {b : Beacon} (h : s.QuietFor r) (tun : (s.posed r b).tun = s.tun)
    (re : (s.posed r b).mo.re = { s.mo.re with amountDone := (s.posed r b).mo.re.amountDone }) (dp : (s.posed r b).mo.dp.grant = s.mo.dp.grant)
    (hg : (s.posed r b).mo.hg = s.mo.hg) :
    exec (.driveReport r.frame b) s = .next ((s.posed r b).sensed r) := by
  rw [exec_driveReport b h.rx, State.takeGrant_of_none (dp ▸ h.grant),
    State.reportEnds_of_quiet (by rw [re]; exact h.still.seg) (by rw [hg]; exact h.guard) (by rw [re]; exact h.latch)
      (by rw [tun]; exact h.battery)]

end report

/-! ## Stage 1 and the kinds of a report (R33 to R35) -/

theorem countDelta_eq (new old : Half) : countDelta new old = (new - old).toInt := by
  unfold countDelta signed16
  rw [BitVec.toInt_eq_toNat_cond, BitVec.toNat_sub]
  have := new.isLt
  have := old.isLt
  split <;> split <;> omega

theorem Deltas.jump_iff (d : Deltas) : d.jump = true ↔ 2047 < d.left.natAbs ∨ 2047 < d.right.natAbs ∨ 4095 < d.yaw.natAbs := by
  simp [Deltas.jump, or_assoc]

theorem Baseline.deltas_eq (b : Baseline) (r : Report) : b.deltas r =
    { left := (r.left - b.left).toInt, right := (r.right - b.right).toInt, yaw := (r.yaw - b.yaw).toInt } := by
  simp only [Baseline.deltas, countDelta_eq]

section pose
variable {v : State} {r : Report}

theorem State.takePose_of_baseline (h : v.mo.pu.base.held = false ∨ r.restart = true) :
    v.takePose r = v.withPose (v.mo.pu.baselined r) := if_pos h

theorem State.takePose_of_held (held : v.mo.pu.base.held = true) (restart : r.restart = false) : v.takePose r =
    if (v.mo.pu.base.deltas r).jump then
      State.lostTest { v with mo := { v.mo with pu := v.mo.pu.jumped v.tun r, eu := v.mo.eu.raiseJump } }
    else ((v.integrateReport r (v.mo.pu.base.deltas r)).movedWake (v.mo.pu.base.deltas r)).lostTest :=
  if_neg (by rw [held, restart]; decide)

end pose

/-- Settles O23. -/
theorem baselineAndJumpReports : Obligations.BaselineAndJumpReports := by
  refine fun r b s v q => ⟨s.posed_eq r b, fun base hq => ?_, fun held restart far hq => ?_⟩
  · have posed : v.takePose r = q := (State.takePose_of_baseline base).trans hq.symm
    refine ⟨posed, fun quiet hv => ?_⟩
    have whole : s.posed r b = q := by rw [s.posed_eq, ← hv, posed]
    rw [← whole]
    refine exec_driveReport_of_quiet quiet ?_ ?_ ?_ ?_ <;> rw [whole, hq, hv] <;> rfl
  · have jump : (v.mo.pu.base.deltas r).jump = true := by rw [Deltas.jump_iff, Baseline.deltas_eq]; exact far
    have posed : v.takePose r = q.lostTest := by
      rw [State.takePose_of_held held restart, if_pos jump, hq]
      rfl
    refine ⟨posed, fun quiet hv => ?_⟩
    have re : q.mo.re = s.mo.re := by rw [hq, hv]; rfl
    have whole : s.posed r b = q := by
      rw [s.posed_eq, ← hv, posed]
      exact State.lostTest_of_still ⟨by rw [re]; exact quiet.still.seg, by rw [re]; exact quiet.still.todo⟩
    rw [← whole]
    refine exec_driveReport_of_quiet quiet ?_ ?_ ?_ ?_ <;> rw [whole, hq, hv] <;> rfl

end Sys2Proof.Machine
end

section
/-! An integrated report: the eleven stages (sections 2.3 and 2.4). -/

namespace Sys2Proof.Machine
open Sys2Proof

/-! ## Stages 2 to 9 (R36 to R43) -/

section stages
variable {tun : Tuning} {cal : Calibration} {d : Deltas} {pu : PoseUnit}

theorem Deltas.d2_eq (d : Deltas) (n : Nat) : d.d2 n = (d.left + d.right) * n := by rw [Deltas.d2]; ring

theorem headingIndex_mid {theta k : Nat} {turn : Int} (h : (k : Int) = (theta + turn / 2) % 65536 / 64) :
    headingIndex (midHeading theta turn) = k := by
  unfold headingIndex midHeading wrapHeading
  omega

theorem rugFactor_eq (tun : Tuning) (cls : CellClass) :
    (rugFactor tun cls : Int) = if cls = .rug then (tun.rugFactor : Int) else 256 := by
  unfold rugFactor
  split <;> rfl

theorem clampCoord_eq {v : Int} {n : Nat} (h : (n : Int) = max 0 (min 12799999 v)) : clampCoord v = n := by
  unfold clampCoord clampTo Config.mapMax
  omega

theorem outOfMap_iff (v : Int) : outOfMap v = true ↔ v < 0 ∨ 12799999 < v := by
  simp [outOfMap, Config.mapMax]

theorem outOfMap_or (a b : Int) : (outOfMap a || outOfMap b) =
    decide (a < 0 ∨ 12799999 < a ∨ b < 0 ∨ 12799999 < b) := by
  rw [Bool.eq_iff_iff, Bool.or_eq_true, outOfMap_iff, outOfMap_iff, decide_eq_true_eq, or_assoc]

theorem mismatch_eq (d : Deltas) (cal : Calibration) : mismatch d cal =
    (rhaz ((d.right - d.left) * cal.tickScale * 10430) (16000 * cal.wheelBase) - d.yaw).natAbs := by
  rw [mismatch, wheelTurn, ← sub_mul]

/-- A slip is declared once the counter reaches its limit (R43). -/
theorem slipTest_eq (tun : Tuning) (cal : Calibration) (d : Deltas) (slip : Nat) : slipTest tun cal d slip =
    (if 0 < tun.slipLimit ∧ tun.slipLimit < mismatch d cal ∧ slip + 1 < tun.slipReports then slip + 1 else 0,
     decide (0 < tun.slipLimit ∧ tun.slipLimit < mismatch d cal ∧ tun.slipReports ≤ slip + 1)) := by
  unfold slipTest
  by_cases off : tun.slipLimit = 0
  · simp [off]
  by_cases small : mismatch d cal ≤ tun.slipLimit
  · simp [off, small, Nat.not_lt.2 small]
  by_cases full : tun.slipReports ≤ slip + 1
  · simp [off, small, full, Nat.pos_of_ne_zero off, Nat.not_le.1 small, Nat.not_lt.2 full]
  · simp [off, small, full, Nat.pos_of_ne_zero off, Nat.not_le.1 small, Nat.not_le.1 full]

end stages

/-! ## The cell entered (R44) -/

namespace FloorMap
variable {fm : FloorMap} {old new : CellIx}

theorem enter_frame (old new : CellIx) (fm : FloorMap) :
    fm.enter old new = { fm with cells := (fm.enter old new).cells, sectors := (fm.enter old new).sectors } := by
  unfold enter
  split
  · exact putCell_frame _ _ _
  · rfl

theorem enter_of_seen (h : new = old ∨ (fm.cellAt new).visited = true) : fm.enter old new = fm := by
  unfold enter
  refine if_neg fun c => ?_
  obtain same | seen := h
  · exact c.1 same
  · rw [seen] at c
    exact absurd c.2 (by decide)

theorem cellAt_enter (h : new ≠ old) (wf : Memory.wf CellRec.swept fm.cells) :
    (fm.enter old new).cellAt new = { fm.cellAt new with visited := true } := by
  by_cases seen : (fm.cellAt new).visited = true
  · rw [enter_of_seen (.inr seen)]
    conv_rhs => rw [← seen]
  · rw [enter, if_pos ⟨h, Bool.eq_false_iff.2 seen⟩]
    exact cellAt_putCell_same _ _ _ wf

theorem read_enter {a : Nat} (h : new = old ∨ a ≠ new.addr) :
    Memory.read CellRec.swept (fm.enter old new).cells a = Memory.read CellRec.swept fm.cells a := by
  unfold enter
  split
  · next moved => exact read_putCell_other _ _ _ (h.resolve_left moved.1)
  · rfl

end FloorMap

theorem RouteEngine.credit_eq (g : GrantRec) (t : Nat) (turn : Int) (re : RouteEngine) : re.credit g t turn =
    { re with amountDone := re.amountDone + (if g.state = .none then 0
      else if g.kind = .rotate then turn else (t : Int)) } := by
  unfold RouteEngine.credit
  by_cases none : g.state = .none
  · simp [none, GrantState.outstanding]
  · rw [if_pos ((GrantState.outstanding_iff _).2 none), if_neg none]

theorem State.movedWake_of_wheels {s : State} {d : Deltas} (parked : s.mo.eu.device = .parked)
    (enabled : s.mo.eu.wakeHazard = true) (moved : d.left ≠ 0 ∨ d.right ≠ 0) : s.movedWake d = s.wake .moved := by
  have enable : (s.mo.eu.wakeHazard && (d.left ≠ 0 || d.right ≠ 0)) = true := by simpa [enabled] using moved
  rw [State.movedWake, enable, State.wakeIf_of_parked parked]

theorem State.movedWake_of_none {s : State} {d : Deltas}
    (h : s.mo.eu.device = .run ∨ s.mo.eu.wakeHazard = false ∨ d.left = 0 ∧ d.right = 0) : s.movedWake d = s := by
  refine if_neg fun c => ?_
  simp only [Bool.and_eq_true, State.parked, decide_eq_true_eq, Bool.or_eq_true] at c
  obtain ⟨parked, enabled, moved⟩ := c
  obtain run | clear | ⟨left, right⟩ := h
  · rw [run] at parked
    cases parked
  · rw [clear] at enabled
    cases enabled
  · exact moved.elim (· left) (· right)

theorem EventUnit.posed_device (p : PoseStep) (eu : EventUnit) : (eu.posed p).device = eu.device := by
  unfold EventUnit.posed
  dsimp only
  split <;> split <;> rfl

theorem EventUnit.posed_wakeHazard (p : PoseStep) (eu : EventUnit) : (eu.posed p).wakeHazard = eu.wakeHazard := by
  unfold EventUnit.posed
  dsimp only
  split <;> split <;> rfl

theorem State.integrateReport_frame (r : Report) (d : Deltas) (s : State) :
    (s.integrateReport r d).tun = s.tun ∧ (s.integrateReport r d).mo.dp = s.mo.dp ∧ (s.integrateReport r d).mo.hg = s.mo.hg ∧
      (s.integrateReport r d).mo.re = { s.mo.re with amountDone := (s.integrateReport r d).mo.re.amountDone } ∧
      (s.integrateReport r d).mo.eu.device = s.mo.eu.device ∧
      (s.integrateReport r d).mo.eu.wakeHazard = s.mo.eu.wakeHazard := by
  refine ⟨rfl, rfl, rfl, ?_, EventUnit.posed_device _ _, EventUnit.posed_wakeHazard _ _⟩
  simp only [State.integrateReport, RouteEngine.credit_eq]

theorem State.linked_wakes (s : State) (b : Beacon) :
    (s.linked b).mo.eu.device = s.mo.eu.device ∧ (s.linked b).mo.eu.wakeHazard = s.mo.eu.wakeHazard := by
  unfold State.linked
  dsimp only
  split <;> exact ⟨rfl, rfl⟩

/-- Settles O24. -/
theorem integratedReportMovesThePose : Obligations.IntegratedReportMovesThePose := by
  intro r v dL dR dG d2 f dx dy k x y theta travel grown mis held restart hL hR hG loL hiL loR hiR loG hiG hd2 hf hk hdx
    hdy hx hy htheta htravel hgrown hmis
  have deltas : v.mo.pu.base.deltas r = { left := dL, right := dR, yaw := dG } := by rw [Baseline.deltas_eq, hL, hR, hG]
  have quiet : ({ left := dL, right := dR, yaw := dG } : Deltas).jump = false := by
    rw [Bool.eq_false_iff, ne_eq, Deltas.jump_iff]
    dsimp only
    omega
  have posed : v.takePose r = ((v.integrateReport r { left := dL, right := dR, yaw := dG }).movedWake
      { left := dL, right := dR, yaw := dG }).lostTest := by
    rw [State.takePose_of_held held restart, deltas, if_neg (by rw [quiet]; decide)]
  have move : displacement (Deltas.d2 { left := dL, right := dR, yaw := dG } v.cs.working.tickScale)
      (rugFactor v.tun (v.fm.cellAt v.mo.pu.centre).cls) (midHeading v.mo.pu.theta dG) = (dx, dy) := by
    rw [Deltas.d2_eq, displacement, cosT, sinV, headingIndex_mid hk, rugFactor_eq, ← hf, ← hd2, ← hdx, ← hdy]
  have went : travelOf (Deltas.d2 { left := dL, right := dR, yaw := dG } v.cs.working.tickScale)
      (rugFactor v.tun (v.fm.cellAt v.mo.pu.centre).cls) = travel := by
    rw [Deltas.d2_eq, travelOf, rugFactor_eq, ← hf, ← hd2, htravel]
  have turned : wrapHeading (v.mo.pu.theta + dG) = theta := by
    unfold wrapHeading
    omega
  have missed : mismatch { left := dL, right := dR, yaw := dG } v.cs.working = mis := by rw [mismatch_eq, hmis]
  have stages : integrate v.tun v.cs.working (rugFactor v.tun (v.fm.cellAt v.mo.pu.centre).cls)
      { left := dL, right := dR, yaw := dG } v.mo.pu =
      { x := x, y := y, theta := theta
        u := if 0 < v.tun.slipLimit ∧ v.tun.slipLimit < mis ∧ v.tun.slipReports ≤ v.mo.pu.slip + 1
          then min 1000000 (grown + v.tun.slipPenalty) else grown
        slip := if 0 < v.tun.slipLimit ∧ v.tun.slipLimit < mis ∧ v.mo.pu.slip + 1 < v.tun.slipReports
          then v.mo.pu.slip + 1 else 0
        clamped := decide (v.mo.pu.x + dx < 0 ∨ 12799999 < v.mo.pu.x + dx ∨ v.mo.pu.y + dy < 0 ∨
          12799999 < v.mo.pu.y + dy)
        slipped := decide (0 < v.tun.slipLimit ∧ v.tun.slipLimit < mis ∧ v.tun.slipReports ≤ v.mo.pu.slip + 1)
        travel := travel } := by
    simp only [integrate, move, went, turned, slipTest_eq, missed, clampCoord_eq hx, clampCoord_eq hy, raiseU,
      hgrown, outOfMap_or, decide_eq_true_eq]
  obtain ⟨t, ht⟩ : ∃ t, t = v.integrateReport r { left := dL, right := dR, yaw := dG } := ⟨_, rfl⟩
  obtain ⟨tun, dp, hg, re, device, enable⟩ := State.integrateReport_frame r { left := dL, right := dR, yaw := dG } v
  rw [← ht] at posed tun dp hg re device enable
  rw [State.integrateReport, stages] at ht
  have map : t.fm = v.fm.enter v.mo.pu.centre { cx := x / 50000, cy := y / 50000 } := by rw [ht]; rfl
  have unmoved (h : v.mo.eu.device = .run ∨ v.mo.eu.wakeHazard = false ∨ dL = 0 ∧ dR = 0) : v.takePose r = t.lostTest := by
    rw [posed, State.movedWake_of_none (by rw [device, enable]; exact h)]
  refine ⟨t, _, _, rfl, rfl, fun seen => ?_, fun moved wf => ?_, fun a other => ?_, ?_, fun parked enabled moved => ?_,
    unmoved, fun s b calm hv => ?_⟩
  · exact map.trans (FloorMap.enter_of_seen seen)
  · rw [map]
    exact FloorMap.cellAt_enter moved wf
  · rw [map]
    exact FloorMap.read_enter other
  · refine ht.trans ?_
    rw [map, RouteEngine.credit_eq]
    simp only [EventUnit.posed, decide_eq_true_eq]
    exact congrArg (fun fm : FloorMap => ({ v with fm := fm, mo := _ } : State)) (FloorMap.enter_frame _ _ v.fm)
  · rw [posed, State.movedWake_of_wheels (device.trans parked) (enable.trans enabled) moved]
  · have still : t.mo.Still := ⟨by rw [re, hv]; exact calm.still.seg, by rw [re, hv]; exact calm.still.todo⟩
    obtain ⟨linked, linked'⟩ := s.linked_wakes b
    have asleep : v.mo.eu.device = .run ∨ v.mo.eu.wakeHazard = false ∨ dL = 0 ∧ dR = 0 := by
      rw [hv, linked, linked']
      cases parked : s.mo.eu.device with
      | run => exact .inl rfl
      | parked => exact .inr (.inl (calm.wake parked))
    have whole : s.posed r b = t := by rw [s.posed_eq, ← hv, unmoved asleep, State.lostTest_of_still still]
    rw [← whole]
    apply exec_driveReport_of_quiet calm <;> rw [whole]
    · rw [tun, hv]
      rfl
    · rw [re, hv]
      rfl
    · rw [dp, hv]
      rfl
    · rw [hg, hv]
      rfl

end Sys2Proof.Machine
end

section
/-! Waking, the end of a report, and what wakes a PARKED part (sections 5.15, 7.5 and 10.4). -/

namespace Sys2Proof.Machine
open Sys2Proof

/-! ## A wake (R184) -/

section wake
variable {s t : State} {c : WakeCause}

theorem State.wakeWith_frame (c : WakeCause) (l : LineLevels) (s : State) : s.wakeWith c l = { s with
    moments := s.moments + 1
    mo := { s.mo with
      hg := .armed l
      dp := { s.mo.dp with watch := if s.mo.dp.link = .online then some s.tun.driveWatch else s.mo.dp.watch }
      eu := s.mo.eu.wake c } } := by
  have run : (s.mo.eu.wake c).device = .run := rfl
  simp only [State.wakeWith, startWatch_eq, run, and_true]
  rfl

theorem State.woken_wakeWith (c : WakeCause) (l : LineLevels) (s : State) : s.Woken (s.wakeWith c l) c := by
  rw [State.wakeWith_frame]
  refine ⟨rfl, rfl, EventUnit.flagged_raise_same _ _, ?_, rfl, rfl, fun k => by cases k <;> rfl, fun online => if_pos online⟩
  change (if s.mo.eu.timer.state = .alarm then TimerRun.idle else s.mo.eu.timer).state ≠ .alarm
  split
  · exact nofun
  · next other => exact other

theorem State.woken_wake (c : WakeCause) (s : State) : s.Woken (s.wake c) c := s.woken_wakeWith c _

/-- What a wake leaves is not touched by what follows it in the same command. -/
theorem State.Woken.congr {q u : State} (h : q.Woken t c) (link : s.mo.dp.link = .online → q.mo.dp.link = .online)
    (tun : q.tun = s.tun)
    (eu : u.mo.eu.device = t.mo.eu.device ∧ u.mo.eu.woke = t.mo.eu.woke ∧ u.mo.eu.timer = t.mo.eu.timer ∧
      u.mo.eu.flagged .woke = t.mo.eu.flagged .woke) (hg : u.mo.hg = t.mo.hg) (watch : u.mo.dp.watch = t.mo.dp.watch) :
    s.Woken u c := by
  obtain ⟨device, woke, timer, flag⟩ := eu
  exact ⟨device.trans h.device, woke.trans h.record, flag.trans h.flag, by rw [timer]; exact h.timer,
    by rw [hg]; exact h.guard, by rw [hg]; exact h.window, fun k => by rw [hg]; exact h.cliffs k,
    fun online => by rw [watch, h.watch (link online), tun]⟩

end wake

/-! ## The end of a report (R112, R148) -/

section ends
variable {s : State} {r : Report}

theorem State.closeJudgement_of_other
    (h : ∀ sr, s.mo.re.seg = some sr → sr.phase ≠ .close ∨ s.mo.dp.grant.state ≠ .active) : s.closeJudgement = s := by
  unfold State.closeJudgement
  split
  · next sr hs =>
    refine if_neg fun c => ?_
    obtain ⟨close, -, active⟩ := c
    exact (h sr hs).elim (· close) (· active)
  · rfl

theorem DriveState.atRest_iff (d : DriveState) : d.atRest = true ↔ d = .idle ∨ d = .holding := by
  cases d <;> simp [DriveState.atRest]

theorem State.selfRelease_eq (d : DriveState) (s : State) : s.selfRelease d = s.withGuard { s.mo.hg with state :=
    if s.mo.hg.state = .tripped ∧ s.mo.re.seg = none ∧ (d = .idle ∨ d = .holding) ∧ s.mo.dp.grant.state = .none
    then .armed else s.mo.hg.state } := by
  unfold State.selfRelease releaseGuard
  simp only [DriveState.atRest_iff]
  by_cases free : s.mo.re.seg = none ∧ (d = .idle ∨ d = .holding) ∧ s.mo.dp.grant.state = .none
  · rw [if_pos free]
    by_cases trip : s.mo.hg.state = .tripped
    · rw [if_pos trip, if_pos ⟨trip, free⟩]
      rfl
    · rw [if_neg trip, if_neg fun h => trip h.1]
      rfl
  · rw [if_neg free, if_neg fun h => free h.2]
    rfl

theorem State.mayHome_iff (s : State) : s.mayHome = true ↔ s.mo.eu.device ≠ .parked ∧
    s.mo.re.priority.homeOnLow = true ∧ s.mo.re.priority.entries ≠ [] ∧ s.mo.re.switchPending = false ∧
    (s.mo.re.state = .idle ∨ s.mo.re.state = .running ∧ s.mo.re.active = some .main) := by
  simp [State.mayHome, State.parked]
  tauto

/-- The crossing of the battery's level on the state its wake leaves. -/
def State.crossed (w : State) : State :=
  { w with mo := { w.mo with re := { w.mo.re with latch := .below }, eu := w.mo.eu.raise .batteryLow } }

theorem State.crossing_eq (s : State) : s.crossing =
    if (s.wakeIf s.mo.eu.wakeBattery .batteryLow).crossed.mayHome then
      (s.wakeIf s.mo.eu.wakeBattery .batteryLow).crossed.runs
        (postList false (s.wakeIf s.mo.eu.wakeBattery .batteryLow).crossed.mo)
    else (s.wakeIf s.mo.eu.wakeBattery .batteryLow).crossed := rfl

theorem State.takeBattery_of_low (h : s.mo.re.latch = .above) {level : Nat} (low : level < s.tun.homeLevel) :
    s.takeBattery level = s.crossing := by
  rw [State.takeBattery, h]
  exact if_pos low

theorem State.takeBattery_of_below (h : s.mo.re.latch = .below) {level : Nat} (low : level < s.tun.homeLevel + 5) :
    s.takeBattery level = s := by
  rw [State.takeBattery, h]
  exact if_neg (Nat.not_le.2 low)

theorem State.takeBattery_of_charged (h : s.mo.re.latch = .below) {level : Nat} (full : s.tun.homeLevel + 5 ≤ level) :
    s.takeBattery level = { s with mo := s.mo.setLatch .above } := by
  rw [State.takeBattery, h]
  exact if_pos full

theorem State.wakeIf_of_idle {b : Bool} (c : WakeCause) (h : s.mo.eu.device = .run ∨ b = false) : s.wakeIf b c = s := by
  obtain run | rfl := h
  · exact s.wakeIf_of_run b c run
  · exact if_neg (by simp)

theorem State.wakeIf_re (b : Bool) (c : WakeCause) (s : State) : (s.wakeIf b c).mo.re = s.mo.re := by
  unfold State.wakeIf
  split
  · rw [State.wake, State.wakeWith_frame]
  · rfl

end ends

/-- Settles O48. -/
theorem batteryAndGuardRelease : Obligations.BatteryAndGuardRelease := by
  intro r s q level close hl hq
  subst hl
  have ends : s.reportEnds r = (q.takeBattery r.level).takeSense r := by
    rw [State.reportEnds, State.closeJudgement_of_other close, State.selfRelease_eq, ← hq]
  have re : q.mo.re = s.mo.re := by rw [hq]; rfl
  have tun : q.tun = s.tun := by rw [hq]; rfl
  have eu : q.mo.eu = s.mo.eu := by rw [hq]; rfl
  have link : q.mo.dp.link = s.mo.dp.link := by rw [hq]; rfl
  rw [ends]
  refine ⟨fun above full => ?_, fun below low => ?_, fun below full => ?_, fun above low => ?_⟩
  · rw [State.takeBattery_of_full (re ▸ above) (tun ▸ full)]
    rfl
  · rw [State.takeBattery_of_below (re ▸ below) (tun ▸ low)]
    rfl
  · rw [State.takeBattery_of_charged (re ▸ below) (tun ▸ full)]
    rfl
  · rw [State.takeBattery_of_low (re ▸ above) (tun ▸ low), State.crossing_eq]
    obtain ⟨w, hw⟩ : ∃ w, w = q.wakeIf q.mo.eu.wakeBattery .batteryLow := ⟨_, rfl⟩
    have run : w.mo.re = s.mo.re := by rw [hw, State.wakeIf_re, re]
    rw [← hw]
    refine ⟨w, w.crossed, fun awake => ?_, fun parked enabled => ?_, rfl, fun ⟨device, home, some', still, state⟩ => ?_,
      fun refused => ?_⟩
    · rw [hw, State.wakeIf_of_idle _ (eu ▸ awake)]
    · have woken : w = q.wake .batteryLow := by rw [hw, eu, enabled, State.wakeIf_of_parked (eu ▸ parked)]
      exact ⟨woken, (woken ▸ q.woken_wake .batteryLow).congr (fun online => link.trans online) tun ⟨rfl, rfl, rfl, rfl⟩ rfl rfl⟩
    · have may : w.crossed.mayHome = true := by
        rw [State.mayHome_iff]
        simp only [State.crossed, run]
        exact ⟨by change w.mo.eu.device ≠ _; rw [device]; decide, home, some', still, state⟩
      rw [if_pos may]
      rfl
    · have may : ¬w.crossed.mayHome = true := by
        rw [State.mayHome_iff]
        simp only [State.crossed, run]
        rintro ⟨awake, home, some', still, state⟩
        rcases refused with parked | noHome | empty | pending | halted | draining | ⟨running, other⟩
        · exact awake parked
        · exact Bool.false_ne_true (noHome.symm.trans home)
        · exact some' empty
        · exact Bool.false_ne_true (still.symm.trans pending)
        · simp [halted] at state
        · simp [draining] at state
        · simp [running, other] at state
      rw [if_neg may]
      rfl

/-! ## What wakes a PARKED part -/

section parked
variable {s q : State} {r : Report}

theorem LineLevels.get_set (l : LineLevels) (line : SwitchLine) (v : Bool) : (l.set line v).get line = v := by
  cases line <;> rfl

theorem exec_lineSample (line : SwitchLine) (now : Bool) (s : State) :
    exec (.lineSample line now) s = .next (s.lineSample line now) := rfl

/-- An assertion while the guard is OFF is a wake cause (R151). -/
theorem State.lineSample_of_off (off : s.mo.hg.state = .off) {line : SwitchLine} (free : s.mo.hg.lines.get line = false) :
    s.lineSample line true = (s.holdLine line true).lineWake line := by
  simp [State.lineSample, off, free]

/-- A frame's taking wakes a PARKED part (R166). -/
theorem exec_of_parked {i : Instr} {f : Frame} (parked : s.mo.eu.device = .parked) (hf : requestFrame i = some f)
    (free : s.pp.serving = none) : exec i s = exec i (s.wake .frame) := by
  have taken (n : Nat) : (s.misoZeros n).takeFrame = ((s.wake .frame).misoZeros n).takeFrame := by
    rw [State.takeFrame_of_run n (s.wake_leaves .frame).1]
    exact State.wakeIf_of_parked (s := s.taken n) parked .frame
  rw [exec_of_free hf free, exec_of_free hf (by rw [State.wake_pp]; exact free), taken]

/-- A report on a part with nothing under way leaves what its pose step does, and its sense items. -/
theorem exec_driveReport_of_still {b : Beacon} (rx : s.mo.dp.rx = []) (hq : s.posed r b = q) (seg : q.mo.re.seg = none)
    (grant : q.mo.dp.grant.state = .none) (guard : q.mo.hg.state ≠ .tripped) (latch : q.mo.re.latch = .above)
    (full : q.tun.homeLevel ≤ r.level) : exec (.driveReport r.frame b) s = .next (q.sensed r) := by
  rw [exec_driveReport b rx, hq, State.takeGrant_of_none grant, State.reportEnds_of_quiet seg guard latch full]

/-- A report with wheel travel on a PARKED part with nothing under way and its guard OFF. -/
structure State.ParkedFor (s : State) (r : Report) : Prop where
  parked  : s.mo.eu.device = .parked
  rx      : s.mo.dp.rx = []
  still   : s.mo.Still
  grant   : s.mo.dp.grant.state = .none
  off     : s.mo.hg.state = .off
  latch   : s.mo.re.latch = .above
  battery : s.tun.homeLevel ≤ r.level
  held    : s.mo.pu.base.held = true
  restart : r.restart = false
  near    : (s.mo.pu.base.deltas r).jump = false

/-- What the stages of the pose step leave of a part (R34 to R45), with the link step before them. -/
def State.integrated (s : State) (r : Report) (b : Beacon) : State :=
  (s.linked b).integrateReport r (s.mo.pu.base.deltas r)

theorem State.ParkedFor.posed (h : s.ParkedFor r) (b : Beacon) :
    s.posed r b = ((s.integrated r b).movedWake (s.mo.pu.base.deltas r)).lostTest := by
  rw [State.posed_eq, State.takePose_of_held (v := s.linked b) h.held h.restart]
  exact if_neg (by rw [show (s.linked b).mo.pu.base = s.mo.pu.base from rfl, h.near]; decide)

/-- What the pose step leaves of everything that the rest of a report looks at. -/
theorem State.integrated_frame (s : State) (r : Report) (b : Beacon) :
    (s.integrated r b).tun = s.tun ∧ (s.integrated r b).mo.dp = (s.linked b).mo.dp ∧
      (s.integrated r b).mo.hg = s.mo.hg ∧
      (s.integrated r b).mo.re = { s.mo.re with amountDone := (s.integrated r b).mo.re.amountDone } ∧
      (s.integrated r b).mo.eu.device = s.mo.eu.device ∧ (s.integrated r b).mo.eu.wakeHazard = s.mo.eu.wakeHazard := by
  obtain ⟨tun, dp, hg, re, device, enable⟩ := State.integrateReport_frame r (s.mo.pu.base.deltas r) (s.linked b)
  obtain ⟨linked, linked'⟩ := s.linked_wakes b
  exact ⟨tun, dp, hg, re, device.trans linked, enable.trans linked'⟩

/-- With its enable clear, or with no wheel travel, the report wakes nothing. -/
theorem State.ParkedFor.exec_asleep (h : s.ParkedFor r) (b : Beacon) (asleep : s.mo.eu.wakeHazard = false ∨
    (s.mo.pu.base.deltas r).left = 0 ∧ (s.mo.pu.base.deltas r).right = 0) :
    exec (.driveReport r.frame b) s = .next ((s.integrated r b).sensed r) := by
  obtain ⟨tun, dp, hg, re, device, enable⟩ := s.integrated_frame r b
  have seg : (s.integrated r b).mo.re.seg = none := by rw [re]; exact h.still.seg
  refine exec_driveReport_of_still h.rx ?_ seg (by rw [dp]; exact h.grant) (by rw [hg, h.off]; decide)
    (by rw [re]; exact h.latch) (by rw [tun]; exact h.battery)
  rw [h.posed, State.movedWake_of_none (.inr (enable ▸ asleep)),
    State.lostTest_of_still ⟨seg, by rw [re]; exact h.still.todo⟩]

/-- With its enable set and wheel travel, the report wakes the part (R45, R183). -/
theorem State.ParkedFor.exec_moved (h : s.ParkedFor r) (b : Beacon) (enabled : s.mo.eu.wakeHazard = true)
    (moved : (s.mo.pu.base.deltas r).left ≠ 0 ∨ (s.mo.pu.base.deltas r).right ≠ 0) :
    exec (.driveReport r.frame b) s = .next (((s.integrated r b).wake .moved).sensed r) := by
  obtain ⟨tun, dp, hg, re, device, enable⟩ := s.integrated_frame r b
  obtain ⟨-, -, guard, -, run, -⟩ := State.wake_leaves .moved (s.integrated r b)
  have grant : ((s.integrated r b).wake .moved).mo.dp.grant = (s.integrated r b).mo.dp.grant := by
    rw [State.wake, State.wakeWith_frame]
  have seg : ((s.integrated r b).wake .moved).mo.re.seg = none := by rw [run, re]; exact h.still.seg
  refine exec_driveReport_of_still h.rx ?_ seg (by rw [grant, dp]; exact h.grant) (by rw [guard]; exact nofun)
    (by rw [run, re]; exact h.latch) (by rw [State.wake_tun, tun]; exact h.battery)
  rw [h.posed, State.movedWake_of_wheels (device.trans h.parked) (enable.trans enabled) moved,
    State.lostTest_of_still ⟨seg, by rw [run, re]; exact h.still.todo⟩]

theorem countsMoved (a b : Half) : (a - b).toInt = 0 ↔ a = b := by
  rw [show (0 : Int) = (0#16).toInt from rfl, BitVec.toInt_inj]
  exact sub_eq_zero

theorem State.lineWake_of_enabled (parked : s.mo.eu.device = .parked) (enabled : s.mo.eu.wakeHazard = true)
    (line : SwitchLine) : s.lineWake line = s.wakeWith .line ((freeLevels s.moments).set line true) :=
  if_pos (by simp [State.parked, parked, enabled])

theorem State.lineWake_of_clear (clear : s.mo.eu.wakeHazard = false) (line : SwitchLine) : s.lineWake line = s :=
  if_neg (by simp [clear])

end parked

/-- Settles O6. -/
theorem wakesArmThePart : Obligations.WakesArmThePart := by
  refine fun s parked => ⟨fun c => ⟨s.woken_wake c, ?_⟩, fun n => ?_, fun i f hf free => exec_of_parked parked hf free,
    fun line off free => ⟨fun enabled => ?_, fun clear => ?_⟩,
    fun r b rx still grant off latch battery held restart enabled left right yaw => ?_,
    fun still due on docked => ⟨fun enabled => ?_, fun clear => ?_⟩⟩
  · conv_lhs => rw [State.wake, State.wakeWith_frame]
    conv_rhs => rw [State.wake, State.wakeWith_frame]
    rfl
  · rw [exec_fetch, State.fetch_of_parked parked, exec_fetch]
  · have woken := State.lineWake_of_enabled (s := s.holdLine line true) parked enabled line
    rw [exec_lineSample, State.lineSample_of_off off free, woken]
    refine ⟨_, rfl, (State.woken_wakeWith _ _ _).congr id rfl ⟨rfl, rfl, rfl, rfl⟩ rfl rfl, ?_⟩
    rw [State.wakeWith_frame]
    exact ⟨LineLevels.get_set _ _ _, rfl, rfl, rfl⟩
  · have same := State.lineWake_of_clear (s := s.holdLine line true) clear line
    rw [exec_lineSample, State.lineSample_of_off off free, same]
    rfl
  · have near : (s.mo.pu.base.deltas r).jump = false := by
      rw [Bool.eq_false_iff, ne_eq, Deltas.jump_iff, Baseline.deltas_eq]
      dsimp only
      omega
    have for' : s.ParkedFor r := ⟨parked, rx, still, grant, off, latch, battery, held, restart, near⟩
    refine ⟨fun stood => ?_, fun moved => ?_⟩
    · refine ⟨_, for'.exec_asleep b (.inr ?_), ?_⟩
      · rw [Baseline.deltas_eq]
        exact ⟨(countsMoved _ _).2 stood.1, (countsMoved _ _).2 stood.2⟩
      · exact (s.integrated_frame r b).2.2.2.2.1.trans parked
    · have wheels : (s.mo.pu.base.deltas r).left ≠ 0 ∨ (s.mo.pu.base.deltas r).right ≠ 0 := by
        rw [Baseline.deltas_eq]
        exact moved.imp (mt (countsMoved _ _).1) (mt (countsMoved _ _).1)
      have clear : State.ParkedFor { s with mo := { s.mo with eu := { s.mo.eu with wakeHazard := false } } } r :=
        ⟨parked, rx, ⟨still.seg, still.todo⟩, grant, off, latch, battery, held, restart, near⟩
      obtain ⟨tun, dp, -⟩ := s.integrated_frame r b
      have link : (s.integrated r b).mo.dp.link = .online := by rw [dp]; rfl
      refine ⟨_, _, for'.exec_moved b enabled wheels, ?_, ?_, clear.exec_asleep b (.inl rfl), ?_, ?_⟩
      · exact (State.woken_wake .moved _).congr (fun _ => link) tun ⟨rfl, rfl, rfl, rfl⟩ rfl rfl
      · rw [State.wake, State.wakeWith_frame, ← tun]
        exact if_pos (e := (s.integrated r b).mo.dp.watch) link
      · exact (State.integrated_frame _ r b).2.2.2.2.1.trans parked
      · rw [State.wake, State.wakeWith_frame]
        exact ⟨rfl, rfl, rfl⟩
  · have dock : s.mo.re.docking = false := RouteEngine.docking_of_other fun sr hs => by rw [still.seg] at hs; cases hs
    obtain ⟨q, hq⟩ : ∃ q : State, q = { s with mo := { s.mo with
      du := { s.mo.du with contact := false, run := 0, changeDue := false } } } := ⟨_, rfl⟩
    have woken : q.undock = { q.wake .undocked with mo := ({ (q.wake .undocked).mo with
        du := { (q.wake .undocked).mo.du with docked := false } } : Motion).raise .undocked } := by
      have enable : q.mo.eu.wakeUndocked = true := by rw [hq]; exact enabled
      rw [State.undock, enable, State.wakeIf_of_parked (by rw [hq]; exact parked)]
    refine ⟨q.undock, congrArg Host.Outcome.next ?_, ?_, ?_, ?_⟩
    · rw [State.contactChange_of_off due on dock q hq, if_pos docked]
    · rw [woken]
      refine (q.woken_wake .undocked).congr (fun online => by rw [hq]; exact online) (by rw [hq]) ⟨rfl, rfl, rfl, ?_⟩ rfl rfl
      rw [(q.woken_wake .undocked).flag]
      exact EventUnit.flagged_raise_of_flagged _ _ _ (q.woken_wake .undocked).flag
    · rw [woken]
      exact EventUnit.flagged_raise_same _ _
    · rw [woken, State.wake, State.wakeWith_frame, hq]
      exact ⟨rfl, rfl, rfl⟩
  · have dock : s.mo.re.docking = false := RouteEngine.docking_of_other fun sr hs => by rw [still.seg] at hs; cases hs
    refine congrArg Host.Outcome.next ?_
    rw [State.contactChange_of_off due on dock _ rfl, if_pos docked, State.undock, State.wakeIf_of_idle _ (.inr clear)]
    rfl

end Sys2Proof.Machine
end

section
/-! How lists, passes, runs and tries end (sections 5.7 to 5.14). -/

namespace Sys2Proof.Machine
open Sys2Proof

/-! ## Lists (R105 to R111) -/

section lists
variable {m : Motion}

theorem EventUnit.raise_raise (c : Cause) (eu : EventUnit) : (eu.raise c).raise c = eu.raise c := by
  simp [EventUnit.raise, BitVec.or_assoc]

/-- What remains of the passes once one has ended (R106). -/
theorem RunList.passesRemain_iff (l : RunList) : l.passesRemain = true ↔ l.passes = 0 ∨ l.passesDone < l.passes := by
  simp [RunList.passesRemain]

/-- The Main List with one more pass done. -/
def Motion.passDone (m : Motion) : RunList := { m.re.main with passesDone := min 255 (m.re.main.passesDone + 1) }

theorem countPass_eq (m : Motion) : countPass m = if m.passDone.passesRemain then
    { m with re := { m.re with main := { m.passDone with position := 0 } } }
    else { m with re := { m.re with main := m.passDone }, eu := m.eu.raise .listDone } := rfl

theorem countPass_remain (m : Motion) : (countPass m).re.main.passesRemain = m.passDone.passesRemain := by
  rw [countPass_eq]
  split <;> rfl

theorem countPass_of_remain (h : m.passDone.passesRemain = true) :
    countPass m = { m with re := { m.re with main := { m.passDone with position := 0 } } } := by
  rw [countPass_eq, if_pos h]

/-- Once no pass remains ListDone is raised already. -/
theorem countPass_raise (h : m.passDone.passesRemain = false) : (countPass m).raise .listDone = countPass m := by
  rw [countPass_eq, if_neg (by rw [h]; decide), Motion.raise, EventUnit.raise_raise]

theorem mainEnd_of_draining (h : m.re.state = .draining) : mainEnd m = becomeIdle ((countPass m).raise .listDone) := by
  unfold mainEnd
  dsimp only
  rw [if_pos h, countPass_remain]
  split
  · rfl
  · next none => rw [countPass_raise (Bool.eq_false_iff.2 none)]

theorem mainEnd_of_none (h : m.re.state ≠ .draining) (none : m.passDone.passesRemain = false) :
    mainEnd m = becomeIdle (countPass m) := by
  unfold mainEnd
  dsimp only
  rw [if_neg h, countPass_remain, none]
  rfl

theorem mainEnd_of_remain (h : m.re.state ≠ .draining) (remain : m.passDone.passesRemain = true) : mainEnd m =
    if m.eu.settings.initial = 0 then runList .main (countPass m)
    else startTimer .pass { countPass m with re := { (countPass m).re with sub := .passWait, seg := none, todo := .none } } := by
  unfold mainEnd
  dsimp only
  rw [if_neg h, countPass_remain, remain]
  rfl

theorem priorityEnd_of_idle {docked : Bool}
    (h : m.re.keptStop = true ∨ m.re.state = .draining ∨ docked = true ∨ m.re.suspended = none) :
    priorityEnd docked m = becomeIdle (m.raise .listDone) := by
  unfold priorityEnd
  dsimp only
  split
  · rfl
  · next go =>
    simp only [Bool.or_eq_true, decide_eq_true_eq, not_or] at go
    obtain ⟨⟨kept, draining⟩, docked'⟩ := go
    have suspended : m.re.suspended = none := by tauto
    rw [suspended]

theorem priorityEnd_of_suspended {docked : Bool} {sub : SubState} (kept : m.re.keptStop = false)
    (running : m.re.state ≠ .draining) (plain : docked = false) (suspended : m.re.suspended = some sub) :
    priorityEnd docked m = resumeMain sub (m.raise .listDone) := by
  unfold priorityEnd
  dsimp only
  rw [if_neg (by simp [kept, running, plain]), suspended]

theorem endRun_of_within {id : ListId} (h : (m.re.list id).position < (m.re.list id).entries.length) :
    endRun id m = becomeIdle m := by
  cases id <;> exact congrArg becomeIdle (if_neg (Nat.not_le.2 h))

theorem endRun_main_of_end (h : m.re.main.entries.length ≤ m.re.main.position) :
    endRun .main m = becomeIdle (finishPass m) := congrArg becomeIdle (if_pos h)

theorem endRun_priority_of_end (h : m.re.priority.entries.length ≤ m.re.priority.position) :
    endRun .priority m = becomeIdle (m.raise .listDone) := congrArg becomeIdle (if_pos h)

theorem finishPass_of_atPass (draining : m.re.state = .draining) (atPass : m.re.drain = .atPass) :
    finishPass m = (countPass m).raise .listDone := by
  unfold finishPass
  dsimp only
  rw [countPass_remain]
  cases h : m.passDone.passesRemain with
  | true => exact if_pos ⟨draining, atPass, rfl⟩
  | false => rw [countPass_raise h]; exact if_neg fun c => Bool.false_ne_true c.2.2

theorem finishPass_of_other (h : m.re.state ≠ .draining ∨ m.re.drain = .atSegment) : finishPass m = countPass m := by
  refine if_neg fun c => ?_
  obtain ⟨draining, atPass, -⟩ := c
  obtain running | segment := h
  · exact running draining
  · rw [atPass] at segment
    cases segment

end lists

/-- Settles O33. -/
theorem listsEnd : Obligations.ListsEnd := by
  intro m id docked l timer idle next hl htimer hidle hnext
  have hl' : l = m.passDone := hl
  have count : countPass m = next := by
    rw [hnext, hl', countPass_eq]
    simp only [RunList.passesRemain_iff]
  have spent (h : l.passes ≠ 0) (h' : l.passes ≤ l.passesDone) : m.passDone.passesRemain = false := by
    rw [Bool.eq_false_iff, ne_eq, RunList.passesRemain_iff, ← hl']
    omega
  refine ⟨fun o => ?_, ?_, rfl, fun kept sub => rfl, count, fun draining => ?_, fun running => ⟨fun h h' => ?_, fun remain =>
    ⟨fun zero => ?_, fun positive => ?_⟩⟩, fun h => priorityEnd_of_idle h, fun kept running plain =>
    ⟨fun hs => ?_, fun hs expired => ?_, fun hs waits => ?_⟩, endRun_of_within, fun ended => ⟨fun hid => ?_,
    fun hid draining atPass => ?_, fun hid h => ?_⟩⟩
  · rw [hidle, htimer]
    rfl
  · rw [hidle, htimer]
    rfl
  · rw [← count]
    exact mainEnd_of_draining draining
  · rw [← count]
    exact mainEnd_of_none running (spent h h')
  · rw [← count]
    exact (mainEnd_of_remain running (hl' ▸ l.passesRemain_iff.2 remain)).trans (if_pos zero)
  · have more : m.passDone.passesRemain = true := hl' ▸ l.passesRemain_iff.2 remain
    have started : listEnd .main docked m = _ := (mainEnd_of_remain running more).trans (if_neg positive)
    rw [started, ← count, countPass_of_remain more]
    exact if_neg positive
  · exact (priorityEnd_of_suspended kept running plain hs).trans rfl
  · refine (priorityEnd_of_suspended kept running plain hs).trans ?_
    exact if_pos expired
  · refine (priorityEnd_of_suspended kept running plain hs).trans ?_
    exact if_neg (by rw [show (m.raise .listDone).re = m.re from rfl, waits]; decide)
  · subst hid
    exact endRun_priority_of_end ended
  · subst hid
    rw [endRun_main_of_end ended, finishPass_of_atPass draining atPass, count]
  · subst hid
    rw [endRun_main_of_end ended, finishPass_of_other h, count]

/-! ## Tries (R98 to R101) -/

section tries
variable {m : Motion} {sr : SegRun}

theorem releaseGuard_eq (m : Motion) : releaseGuard m = m.released := by
  unfold releaseGuard Motion.released
  split <;> rfl

theorem setTodo_record {o : SegOutcome} {cell : Option CellIx} (h : m.re.seg = some sr) :
    m.setTodo (.record o cell) = m.toRecord o cell sr := by
  unfold Motion.setTodo Motion.toRecord
  rw [h]
  rfl

theorem updSeg_eq {f : SegRun → SegRun} (h : m.re.seg = some sr) : m.updSeg f = m.withSeg (f sr) := by
  unfold Motion.updSeg Motion.withSeg
  rw [h]
  rfl

theorem endTry_arrived (h : m.re.seg = some sr) : endTry .arrived none m = m.toArrive sr :=
  setTodo_record (m := m.reachStage 4) h

theorem endTry_of_fault {o : SegOutcome} (cell : Option CellIx) (h : m.re.seg = some sr) (fault : o.cls = .fault) :
    endTry o cell m = m.toRecord o cell sr := by
  simp only [endTry, fault]
  exact setTodo_record h

theorem endTry_of_hazard {o : SegOutcome} (cell : Option CellIx) (m : Motion) (hazard : o.cls = .hazard) :
    endTry o cell m = takeEffect o cell m := by
  simp only [endTry, hazard]

theorem Segment.tries_eq (seg : Segment) : seg.tries =
    if seg.kind = .line ∧ seg.alt.isSome = true then 2 * (seg.retries + 1) else seg.retries + 1 := by
  simp [Segment.tries, Segment.hasAlt]

theorem takeEffect_of_last {o : SegOutcome} (cell : Option CellIx) (h : m.re.seg = some sr)
    (last : sr.seg.tries ≤ m.re.attempt) : takeEffect o cell m = m.released.toRecord o cell sr := by
  simp only [takeEffect, h, if_neg (Nat.not_lt.2 last), releaseGuard_eq]
  exact setTodo_record (m := m.released) h

theorem takeEffect_of_full {o : SegOutcome} (cell : Option CellIx) (h : m.re.seg = some sr)
    (more : m.re.attempt < sr.seg.tries) (full : m.re.tally = 255) :
    takeEffect o cell m = m.released.toRecord .tallyFull none sr := by
  simp only [takeEffect, h, if_pos more, if_pos full, releaseGuard_eq]
  exact setTodo_record (m := m.released) h

theorem takeEffect_of_retry {o : SegOutcome} (cell : Option CellIx) (h : m.re.seg = some sr)
    (more : m.re.attempt < sr.seg.tries) (room : m.re.tally ≠ 255) :
    takeEffect o cell m = beginRetry sr m.released := by
  simp only [takeEffect, h, if_pos more, if_neg room, releaseGuard_eq]

theorem beginRetry_eq (sr : SegRun) (m : Motion) : beginRetry sr m = { m with
    du := { m.du with phase := .none }
    re := { m.re with
      tally := min 255 (m.re.tally + 1)
      progress := { m.re.progress with
        retryInUse := true
        altInUse := m.re.progress.altInUse || decide (sr.seg.kind = .line ∧ sr.seg.alt.isSome = true ∧
          m.re.attempt = sr.seg.retries + 1) }
      seg := some { sr with phase := .dwell, wait := .nothing, outcome := none, cell := none
                            inBackoff := false, ready := none, dwellLeft := sr.seg.dwell }
      attempt := if sr.seg.dwell = 0 then m.re.attempt + 1 else m.re.attempt
      todo := if sr.seg.dwell = 0 then .startTry else m.re.todo } } := by
  have alt : (sr.seg.hasAlt && decide (m.re.attempt = sr.seg.retries + 1)) = decide (sr.seg.kind = .line ∧
      sr.seg.alt.isSome = true ∧ m.re.attempt = sr.seg.retries + 1) := by
    simp [Segment.hasAlt, Bool.and_assoc]
  simp only [beginRetry, alt]
  split <;> rfl

end tries

/-- Settles O34. -/
theorem triesEnd : Obligations.TriesEnd := by
  intro m sr o cell tries hs ht
  rw [← Segment.tries_eq] at ht
  refine ⟨endTry_arrived hs, endTry_of_fault cell hs, endTry_of_hazard cell m, fun last => ?_, fun more full => ?_,
    fun more room => ?_⟩
  · exact takeEffect_of_last cell hs (ht ▸ last)
  · exact takeEffect_of_full cell hs (ht ▸ more) full
  · rw [takeEffect_of_retry cell hs (ht ▸ more) room, beginRetry_eq]
    rfl

end Sys2Proof.Machine
end

section
/-! How a segment and a try begin (sections 5.3 to 5.7). -/

namespace Sys2Proof.Machine
open Sys2Proof

/-! ## The segment to begin (R87, R110) -/

section begin
variable {env : Env} {m : Motion} {id : ListId}

theorem setTodo_of_none (t : Todo) (none : m.re.seg = none) :
    m.setTodo t = { m with re := { m.re with todo := t } } := by
  have same (f : SegRun → SegRun) : m.re.seg.map f = m.re.seg := by rw [none, Option.map_none]
  unfold Motion.setTodo
  rw [same]

theorem engineMove_of_begin (h : m.re.todo = .begin) (none : m.re.seg = none) :
    engineMove env m = beginSegment env { m with re := { m.re with todo := .none } } := by
  unfold engineMove
  rw [h, ← setTodo_of_none _ none]

theorem beginSegment_of_switch (active : m.re.active = some .main) (pending : m.re.switchPending = true) :
    beginSegment env m = switchList (m.re.state = .draining) .segment m := by
  unfold beginSegment
  rw [active]
  exact if_pos ⟨rfl, pending⟩

theorem beginSegment_of_end (active : m.re.active = some id) (stays : id = .priority ∨ m.re.switchPending = false)
    (past : (m.re.list id).entries.length ≤ (m.re.list id).position) : beginSegment env m = listEnd id false m := by
  have stay : ¬ (id = .main ∧ m.re.switchPending = true) := by
    rintro ⟨rfl, pending⟩
    simp [pending] at stays
  simp only [beginSegment, active, if_neg stay, List.getElem?_eq_none past]

theorem beginSegment_of_entry {e : Entry} (active : m.re.active = some id)
    (stays : id = .priority ∨ m.re.switchPending = false)
    (entry : (m.re.list id).entries[(m.re.list id).position]? = some e) : beginSegment env m =
      if env.tun.lostLimit ≤ m.pu.u then haltEngine .lost m else fetchSegment env id e m := by
  have stay : ¬ (id = .main ∧ m.re.switchPending = true) := by
    rintro ⟨rfl, pending⟩
    simp [pending] at stays
  simp only [beginSegment, active, if_neg stay, entry]

/-- A descriptor is changed where its entry stands. -/
theorem RunList.updDesc_eq {l : RunList} {e : Entry} (f : Descriptor → Descriptor)
    (h : l.entries[l.position]? = some e) :
    l.updDesc l.position f = { l with entries := l.entries.set l.position { e with desc := f e.desc } } := by
  unfold RunList.updDesc
  rw [List.modify_eq_set_getElem?, h]
  rfl

theorem fetchSegment_eq {e : Entry} (entry : (m.re.list id).entries[(m.re.list id).position]? = some e) :
    fetchSegment env id e m = { m.released with re := {
        m.re.setList id { m.re.list id with
          entries := (m.re.list id).entries.set (m.re.list id).position { e with desc := openedDesc m.eu.time } } with
        poolIndex := some e.slot, attempt := 1, sub := .segment, progress := .reset
        seg := some (SegRun.fresh e.slot ((m.re.slotAt e.slot).getD Segment.blank))
        todo := if fetchInvalid env m (m.re.slotAt e.slot) then .record .invalid none else .startTry } } := by
  simp only [fetchSegment, RunList.updDesc_eq _ entry, releaseGuard_eq]
  rfl

theorem fetchInvalid_of_dock {seg : Segment} (dock : seg.kind = .dock) (h : m.du.pose = none ∨ env.dockTotal = 0) :
    fetchInvalid env m (some seg) = true := by
  obtain none | none := h <;> simp [fetchInvalid, dock, none]

theorem fetchInvalid_of_fit {seg : Segment} (h : seg.kind ≠ .dock ∨ m.du.pose ≠ none ∧ env.dockTotal ≠ 0) :
    fetchInvalid env m (some seg) = false := by
  obtain other | ⟨set, cells⟩ := h
  · simp [fetchInvalid, other]
  · simp [fetchInvalid, Option.isSome_iff_ne_none.2 set, cells]

end begin

/-! ## A try (R91, R92, R97, R99, R157) -/

section tries
variable {env : Env} {m : Motion} {sr : SegRun}

theorem askInPhase_eq (phase : Phase) (req : CheckReq) (h : m.re.seg = some sr) :
    askInPhase env phase req m = askCheck env req (m.withSeg (sr.at phase .check)) := by
  unfold askInPhase
  rw [updSeg_eq h]
  rfl

/-- The goal of a Line's try (R91, R99). -/
theorem SegRun.goal_of_line {gx gy : Nat} (line : sr.seg.kind = .line)
    (alternate : ∀ p, sr.seg.alt = some p → sr.seg.retries + 1 < m.re.attempt → (gx, gy) = p)
    (primary : sr.seg.alt = none ∨ m.re.attempt ≤ sr.seg.retries + 1 → (gx, gy) = (sr.seg.targetX, sr.seg.targetY)) :
    sr.goal m = (gx, gy) := by
  have goal : sr.goal m = if sr.seg.altTry m.re.attempt then sr.seg.alt.getD (0, 0)
      else (sr.seg.targetX, sr.seg.targetY) := by
    simp only [SegRun.goal, line]
  rw [goal]
  cases hp : sr.seg.alt with
  | none => exact (if_neg (by simp [Segment.altTry, Segment.hasAlt, hp])).trans (primary (.inl hp)).symm
  | some p =>
    rcases Nat.lt_or_ge (sr.seg.retries + 1) m.re.attempt with later | early
    · exact (if_pos (by simp [Segment.altTry, Segment.hasAlt, line, hp, later])).trans (alternate p hp later).symm
    · exact (if_neg (by simp [Segment.altTry, early])).trans (primary (.inr early)).symm

theorem SegRun.goal_of_dock {d : DockPose} (dock : sr.seg.kind = .dock) (h : m.du.pose = some d) :
    sr.goal m = (d.sx, d.sy) := by
  simp only [SegRun.goal, dock, h]

/-- The segment as a try of it begins (R99). -/
def SegRun.tried (theta : Nat) (sr : SegRun) : SegRun :=
  { sr with outcome := none, cell := none, inBackoff := false, rotCorr := 0, fullDone := 0
            wait := .nothing, ready := none, revHeading := (theta + 32768) % 65536
            distLeft := sr.seg.reverseDist * 1000 }

/-- The motion blocks as a try begins: stage 0, and no move is left to make (R88, R99). -/
def Motion.tried (sr : SegRun) (m : Motion) : Motion :=
  { m with re := { m.re with todo := .none, seg := some (sr.tried m.pu.theta)
                             progress := { m.re.progress with stage := 0 } } }

theorem engineMove_of_startTry (h : m.re.todo = .startTry) (hs : m.re.seg = some sr) : engineMove env m =
    startTry env { m with re := { m.re with todo := .none, seg := some { sr with wait := .nothing } } } := by
  unfold engineMove Motion.setTodo
  rw [h, hs]
  rfl

section kinds
variable (h : m.re.todo = .startTry) (hs : m.re.seg = some sr)
include h hs

theorem engineMove_of_line (line : sr.seg.kind = .line) :
    engineMove env m = askLine env .vet (sr.tried m.pu.theta) (m.tried sr) := by
  rw [engineMove_of_startTry h hs]
  simp only [startTry, line, wrapHeading_half]
  rfl

theorem engineMove_of_rotate (rotate : sr.seg.kind = .rotate) : engineMove env m =
    beginTurn env .rotate (sr.seg.heading.getD 0) (sr.tried m.pu.theta) (m.tried sr) := by
  rw [engineMove_of_startTry h hs]
  simp only [startTry, rotate, wrapHeading_half]
  rfl

theorem engineMove_of_reverse (reverse : sr.seg.kind = .reverse) :
    engineMove env m = askReverse env (sr.tried m.pu.theta) (m.tried sr) := by
  rw [engineMove_of_startTry h hs]
  simp only [startTry, reverse, wrapHeading_half]
  rfl

theorem engineMove_of_dock (dock : sr.seg.kind = .dock) :
    engineMove env m = beginDock env (sr.tried m.pu.theta) (m.tried sr) := by
  rw [engineMove_of_startTry h hs]
  simp only [startTry, dock, wrapHeading_half]
  rfl

end kinds

theorem aligned_iff (turn : Int) : aligned env turn = true ↔ turn.natAbs ≤ env.tun.alignTolerance := by
  simp [aligned]

theorem askLine_eq (phase : Phase) (sr' : SegRun) (h : m.re.seg = some sr) : askLine env phase sr' m =
    askCheck env (sr'.request .line (.target (sr'.goal m).1 (sr'.goal m).2) sr'.seg.speed)
      (m.withSeg (sr.at phase .check)) := askInPhase_eq _ _ h

theorem beginRotate_eq (phase : Phase) (wanted : Nat) (sr' : SegRun) (h : m.re.seg = some sr) :
    beginRotate env phase wanted sr' m = askCheck env (sr'.request .rotate .spot sr'.seg.speed)
      (m.withSeg ({ sr with rotWanted := wanted, rotTurn := turnTo m.pu.theta wanted, rotCorr := 0 }.at phase
        .check)) := by
  unfold beginRotate
  rw [updSeg_eq h]
  exact askInPhase_eq _ _ rfl

end tries

theorem runEngine_succ (env : Env) (n : Nat) (m : Motion) (h : m.re.todo ≠ .none) :
    runEngine env (n + 1) m = runEngine env n (engineMove env m) := if_neg h

/-- Settles O31. -/
theorem segmentsAndTriesBegin : Obligations.SegmentsAndTriesBegin := by
  refine ⟨fun _ _ => rfl, fun env n m => ⟨rfl, fun h => if_pos h, runEngine_succ env n m⟩, ?_, ?_⟩
  · intro env m id l begin none active hl
    subst hl
    rw [engineMove_of_begin begin none]
    obtain ⟨q, hq⟩ : ∃ q, q = { m with re := { m.re with todo := .none } } := ⟨_, rfl⟩
    have same (id : ListId) : q.re.list id = m.re.list id := by subst hq; cases id <;> rfl
    have slot (n : Nat) : q.re.slotAt n = m.re.slotAt n := by subst hq; rfl
    have active' : q.re.active = some id := by subst hq; exact active
    rw [← hq]
    refine ⟨fun main pending => ?_, fun stays => ⟨fun past => ?_, fun within lost => ?_, fun e entry known => ?_⟩⟩
    · subst hq main
      exact beginSegment_of_switch active pending
    · exact beginSegment_of_end active' (by subst hq; exact stays) (by rw [same]; exact past)
    · rw [beginSegment_of_entry (e := (m.re.list id).entries[(m.re.list id).position]) active' (by subst hq; exact stays)
        (by rw [same]; exact List.getElem?_eq_getElem within)]
      subst hq
      exact if_pos lost
    · have entry' : (q.re.list id).entries[(q.re.list id).position]? = some e := by rw [same]; exact entry
      rw [beginSegment_of_entry active' (by subst hq; exact stays) entry', if_neg (by subst hq; exact Nat.not_le.2 known),
        fetchSegment_eq entry', same id, slot]
      subst hq
      refine ⟨if fetchInvalid env m (m.re.slotAt e.slot) then .record .invalid .none else .startTry, ?_, fun empty => ?_,
        fun seg stored => ⟨fun dock unfit => ?_, fun fit => ?_⟩⟩
      · cases id <;> cases m.re.slotAt e.slot <;> rfl
      · rw [empty]
        rfl
      · rw [stored, if_pos (fetchInvalid_of_dock dock unfit)]
      · rw [stored, fetchInvalid_of_fit fit]
        rfl
  · intro env m q sr0 sr begin hs hsr hq
    have hsr' : sr = sr0.tried m.pu.theta := hsr
    have hq' : q = m.tried sr0 := by rw [hq, hsr']; rfl
    have seg : q.re.seg = some sr := by rw [hq', hsr']; rfl
    have seg0 : sr0.seg = sr.seg := by rw [hsr']; rfl
    refine ⟨fun gx gy line alternate primary => ?_, fun h turn rotate heading hturn => ?_, fun reverse => ?_,
      fun du dock hdu => ⟨fun contact => ?_, fun d contact pose => ?_⟩⟩
    · rw [engineMove_of_line begin hs (seg0 ▸ line), ← hq', ← hsr', askLine_eq _ _ seg,
        SegRun.goal_of_line line (by rw [hq]; exact alternate) (by rw [hq]; exact primary)]
    · rw [engineMove_of_rotate begin hs (seg0 ▸ rotate), ← hq', ← hsr', seg0, heading]
      have turns : turnTo q.pu.theta h = turn := by rw [hq, hturn]; rfl
      refine ⟨fun near => ?_, fun far => ?_⟩
      · have ends : beginTurn env .rotate h sr q = turnReached env sr q := if_pos (by rw [turns]; exact aligned_iff _ |>.2 near)
        refine ends.trans ?_
        simp only [turnReached, rotate]
        exact endTry_arrived seg
      · have turned : beginTurn env .rotate h sr q = beginRotate env .rotate h sr q :=
          if_neg (by rw [turns, aligned_iff]; omega)
        refine turned.trans ?_
        rw [beginRotate_eq _ _ _ seg, turns, hsr]
    · rw [engineMove_of_reverse begin hs (seg0 ▸ reverse), ← hq', ← hsr']
      exact askInPhase_eq _ _ seg
    · rw [engineMove_of_dock begin hs (seg0 ▸ dock), ← hq', ← hsr', hdu]
      have contact' : q.du.contact = true := by rw [hq]; exact contact
      refine (if_pos contact').trans ?_
      rw [hq]
    · rw [engineMove_of_dock begin hs (seg0 ▸ dock), ← hq', ← hsr']
      have contact' : ¬ q.du.contact = true := by rw [hq, contact]; decide
      refine (if_neg contact').trans ?_
      have du' : { q.du with seekTurn := 0, lossCount := 0, losses := 0, closeTravel := 0 } = du := by rw [hdu, hq]
      rw [du', askLine_eq (m := setDockPhase .approach { q with du := du }) (sr := sr) _ _ seg,
        SegRun.goal_of_dock (d := d) dock (by rw [hdu]; exact pose)]
      rfl

end Sys2Proof.Machine
end

section
/-! Recording and where the engine goes on (sections 4.4 and 5.11). -/

namespace Sys2Proof.Machine
open Sys2Proof

/-! ## The integer square root (R81) -/

theorem sqrtBits_spec {n : Nat} : ∀ {b r : Nat}, r ^ 2 ≤ n → n < (r + 2 ^ b) ^ 2 →
    sqrtBits n b r ^ 2 ≤ n ∧ n < (sqrtBits n b r + 1) ^ 2
  | 0, _, low, high => ⟨low, high⟩
  | b + 1, r, low, high => by
    unfold sqrtBits
    split
    · next fits => exact sqrtBits_spec fits (by rw [Nat.add_assoc, ← Nat.two_mul, ← Nat.pow_succ']; exact high)
    · next exceeds => exact sqrtBits_spec low (Nat.lt_of_not_le exceeds)

theorem isqrt_spec {n : Nat} (h : n < 2 ^ 64) : isqrt n ^ 2 ≤ n ∧ n < (isqrt n + 1) ^ 2 :=
  sqrtBits_spec (Nat.zero_le n) (by rw [Nat.zero_add, ← Nat.pow_mul]; exact h)

/-- The root of a squared distance in µm, rounded to mm with halves up (R81). -/
theorem isqrt_mm {n : Nat} (h : n < 2 ^ 64) :
    ((isqrt n + 500) / 1000 = 0 ∨ (1000 * ((isqrt n + 500) / 1000) - 500) ^ 2 ≤ n) ∧
    n < (1000 * ((isqrt n + 500) / 1000) + 500) ^ 2 := by
  obtain ⟨low, high⟩ := isqrt_spec h
  exact ⟨.inr ((Nat.pow_le_pow_left (by omega) 2).trans low), high.trans_le (Nat.pow_le_pow_left (by omega) 2)⟩

theorem dist2_of_sq {ax ay bx by_ : Int} {n : Nat} (h : (n : Int) = (ax - bx) ^ 2 + (ay - by_) ^ 2) :
    dist2 ax ay bx by_ = n := by
  unfold dist2
  rw [← pow_two, ← pow_two, ← h, Int.toNat_natCast]

theorem endError_of_turn {sr : SegRun} (m : Motion) (h : sr.seg.kind = .rotate ∨ sr.seg.kind = .reverse) :
    endError sr m = 0 := by
  obtain kind | kind := h <;> simp only [endError, kind]

theorem endError_of_goal {sr : SegRun} {m : Motion} {gx gy : Nat} (h : sr.seg.kind = .line ∧ (gx, gy) = sr.goal m ∨
    sr.seg.kind = .dock ∧ ∃ d, m.du.pose = some d ∧ (gx, gy) = (d.x, d.y)) :
    endError sr m = min 65535 ((isqrt (dist2 m.pu.x m.pu.y gx gy) + 500) / 1000) := by
  obtain ⟨line, goal⟩ | ⟨dock, d, pose, goal⟩ := h
  · simp only [endError, line, ← goal]
  · cases goal
    simp only [endError, dock, pose]

/-! ## RECORD (R80, R105) -/

section record
variable {env : Env} {m : Motion} {sr : SegRun} {id : ListId} {o : SegOutcome} {cell : Option CellIx}

/-- What RECORD leaves before the engine goes on, at an entry of the list that runs. -/
def Motion.recorded (o : SegOutcome) (cell : Option CellIx) (sr : SegRun) (id : ListId) (e : Entry) (m : Motion) :
    Motion :=
  { m with
    re := { m.re.setList id { m.re.list id with
        position := if o.cls = .fault then (m.re.list id).position else (m.re.list id).position + 1
        entries := (m.re.list id).entries.set (m.re.list id).position
          { e with desc := recordedDesc o cell sr m e.desc } } with
      lastOutcome := some o, seg := none
      lastBlocking := if o = .blocked then cell else m.re.lastBlocking }
    du := { m.du with phase := .none }
    eu := if sr.seg.notify then m.eu.raise .segmentDone else m.eu }

theorem writeRecord_eq {e : Entry} (hs : m.re.seg = some sr) (active : m.re.active = some id)
    (entry : (m.re.list id).entries[(m.re.list id).position]? = some e) : writeRecord o cell m = { m with
      re := { m.re.setList id { m.re.list id with
          entries := (m.re.list id).entries.set (m.re.list id).position
            { e with desc := recordedDesc o cell sr m e.desc } } with
        lastOutcome := some o, seg := none
        lastBlocking := if o = .blocked then cell else m.re.lastBlocking }
      du := { m.du with phase := .none }
      eu := if sr.seg.notify then m.eu.raise .segmentDone else m.eu } := by
  simp only [writeRecord, hs, active, RunList.updDesc_eq _ entry]
  split <;> rfl

theorem advance_writeRecord {e : Entry} (hs : m.re.seg = some sr) (active : m.re.active = some id)
    (entry : (m.re.list id).entries[(m.re.list id).position]? = some e) (keeps : o.cls ≠ .cancel) :
    advance id o (writeRecord o cell m) = m.recorded o cell sr id e := by
  rw [writeRecord_eq hs active entry]
  unfold advance Motion.recorded
  cases h : o.cls with
  | fault => cases id <;> rfl
  | done => cases id <;> rfl
  | hazard => cases id <;> rfl
  | cancel => exact absurd h keeps

theorem engineMove_of_record {e : Entry} (todo : m.re.todo = .record o cell) (hs : m.re.seg = some sr)
    (active : m.re.active = some id) (entry : (m.re.list id).entries[(m.re.list id).position]? = some e)
    (keeps : o.cls ≠ .cancel) : engineMove env m = goOn id o (sr.seg.kind = .dock && o = .arrived) (tallyHalt o m)
      ((m.setTodo .none).recorded o cell sr id e) := by
  have seg : (m.setTodo .none).re.seg = some { sr with wait := .nothing } := by rw [Motion.setTodo, hs]; rfl
  have lists : (m.setTodo .none).re.list id = m.re.list id := by cases id <;> rfl
  have recorded := advance_writeRecord (o := o) (cell := cell) seg (id := id) active (by rw [lists]; exact entry) keeps
  unfold engineMove recordSegment
  simp only [todo, seg, show (m.setTodo .none).re.active = some id from active, recorded]
  rfl

end record

section goOn
variable {m : Motion} {id : ListId} {o : SegOutcome} {docked halt : Bool}

theorem goOn_of_fault (fault : o.cls = .fault) : goOn id o docked halt m = haltEngine o m := if_pos fault

theorem goOn_of_full (plain : o.cls ≠ .fault) : goOn id o docked true m = haltEngine .tallyFull m := if_neg plain

theorem goOn_of_stop (hazard : o.cls = .hazard) (stop : (m.re.list id).stopOnHazard = true) :
    goOn id o docked false m = if id = .main ∧ m.re.switchPending = true then
        switchList true .segment (if (m.re.list id).entries.length ≤ (m.re.list id).position then countPass m else m)
      else endRun id m := by
  simp [goOn, hazard, stop]

theorem goOn_of_go (h : o.cls = .done ∨ o.cls = .hazard ∧ (m.re.list id).stopOnHazard = false) :
    goOn id o docked false m = if id = .main ∧ m.re.switchPending = true then
        switchList (m.re.state = .draining) .segment m
      else if m.re.state = .draining ∧ m.re.drain = .atSegment then endRun id m
      else if (m.re.list id).entries.length ≤ (m.re.list id).position then listEnd id docked m
      else m.setTodo .begin := by
  obtain done | ⟨hazard, stop⟩ := h
  · simp [goOn, done]
  · simp [goOn, hazard, stop]

theorem tallyHalt_iff : tallyHalt o m = true ↔
    m.re.tally = 255 ∧ (o.cls = .hazard ∨ o.cls = .done ∧ 1 < m.re.attempt) := by
  simp [tallyHalt]

end goOn

/-- Settles O32. -/
theorem recordingMovesOn : Obligations.RecordingMovesOn := by
  refine ⟨fun o => by cases o <;> decide, fun env m sr id l e o cell todo keeps hs active hl entry => ?_⟩
  subst hl
  have move := engineMove_of_record (env := env) todo hs active entry keeps
  obtain ⟨r, hr⟩ : ∃ r, r = (m.setTodo .none).recorded o cell sr id e := ⟨_, rfl⟩
  have list : r.re.list id = { m.re.list id with
      position := if o.cls = .fault then (m.re.list id).position else (m.re.list id).position + 1
      entries := (m.re.list id).entries.set (m.re.list id).position
        { e with desc := recordedDesc o cell sr m e.desc } } := by
    subst hr
    cases id <;> rfl
  have state : r.re.state = m.re.state := by subst hr; cases id <;> rfl
  have drain : r.re.drain = m.re.drain := by subst hr; cases id <;> rfl
  have pending : r.re.switchPending = m.re.switchPending := by subst hr; cases id <;> rfl
  have seg : r.re.seg = none := by subst hr; cases id <;> rfl
  have stays (h : id = .priority ∨ m.re.switchPending = false) : ¬ (id = .main ∧ r.re.switchPending = true) := by
    rintro ⟨rfl, set⟩
    simp [← pending, set] at h
  have past (plain : o.cls ≠ .fault) : (r.re.list id).entries.length ≤ (r.re.list id).position ↔
      (m.re.list id).entries.length ≤ (m.re.list id).position + 1 := by
    rw [list]
    simp only [if_neg plain, List.length_set]
  rw [move, ← hr]
  refine ⟨r, endError sr m, ?_, endError_of_turn m, fun gx gy d2 goal sq small =>
    ⟨(isqrt d2 + 500) / 1000, ?_, (isqrt_mm small).1, (isqrt_mm small).2⟩, goOn_of_fault, fun full due => ?_,
    fun spare => ?_⟩
  · have alternate : sr.seg.altTry m.re.attempt = decide (sr.seg.kind = .line ∧ sr.seg.alt.isSome = true ∧
        sr.seg.retries + 1 < m.re.attempt) := by
      simp [Segment.altTry, Segment.hasAlt, Bool.and_assoc]
    rw [hr, ← alternate]
    cases id <;> rfl
  · rw [endError_of_goal goal, dist2_of_sq sq]
  · rw [tallyHalt_iff.2 ⟨full, due⟩]
    exact goOn_of_full (by rintro h; simp [h] at due)
  · have none : tallyHalt o m = false := by
      rw [Bool.eq_false_iff, ne_eq, tallyHalt_iff]
      rintro ⟨full, hazard | ⟨done, later⟩⟩
      · obtain h | ⟨h, -⟩ := spare
        · exact h full
        · rw [h] at hazard
          cases hazard
      · obtain h | ⟨-, h⟩ := spare
        · exact h full
        · omega
    rw [none]
    refine ⟨fun hazard stop => ?_, fun goes => ?_⟩
    · have plain : o.cls ≠ .fault := by rw [hazard]; decide
      rw [goOn_of_stop hazard (by rw [list]; exact stop)]
      refine ⟨fun main set => ?_, fun h => if_neg (stays h)⟩
      rw [if_pos ⟨main, pending.trans set⟩]
      simp only [past plain]
    · have plain : o.cls ≠ .fault := by obtain h | ⟨h, -⟩ := goes <;> rw [h] <;> decide
      rw [goOn_of_go (by rw [list]; exact goes)]
      refine ⟨fun main set => ?_, fun h => ?_⟩
      · rw [if_pos ⟨main, pending.trans set⟩, state]
      · rw [if_neg (stays h), state, drain]
        refine ⟨fun draining atSegment => if_pos ⟨draining, atSegment⟩, fun goes => ?_⟩
        have runs : ¬ (m.re.state = .draining ∧ m.re.drain = .atSegment) := by
          rintro ⟨draining, atSegment⟩
          simp [draining, atSegment] at goes
        rw [if_neg runs]
        refine ⟨fun last => ?_, fun more => ?_⟩
        · rw [if_pos ((past plain).2 last)]
          simp only [Bool.decide_and]
        · rw [if_neg (by rw [past plain]; omega)]
          exact setTodo_of_none _ seg

end Sys2Proof.Machine
end

section
/-! START ROUTE (section 5.2). -/

namespace Sys2Proof.Machine
open Sys2Proof

section start
variable {s : State} {mode : Byte}

theorem serveStartRoute_of_mode (h : 1 < mode.toNat) : serveStartRoute mode s = (s, .invalid 2 0) := if_pos h

theorem serveStartRoute_of_refused {r : Reason} (h : mode.toNat ≤ 1) (refused : s.startRefusal = some r) :
    serveStartRoute mode s = (s, .rejected r) := by
  unfold serveStartRoute
  rw [if_neg (show ¬ 1 < mode from Nat.not_lt.2 h), refused]

theorem serveStartRoute_of_ready (h : mode.toNat ≤ 1) (ready : s.startRefusal = none) :
    serveStartRoute mode s = (s.runs (startMain (mode = 0) s.mo), .done []) := by
  unfold serveStartRoute
  rw [if_neg (show ¬ 1 < mode from Nat.not_lt.2 h), ready]
  rfl

theorem startRefusal_of_halted (h : s.mo.re.state = .halted) : s.startRefusal = some .halted := if_pos h

theorem startRefusal_of_busy (h : s.mo.re.state = .running ∨ s.mo.re.state = .draining) :
    s.startRefusal = some .notIdle := by
  unfold State.startRefusal
  obtain state | state := h <;> rw [state] <;> rfl

theorem startRefusal_of_idle (h : s.mo.re.state = .idle) : s.startRefusal =
    if s.mo.re.main.entries = [] then some .listEmpty
    else if s.mo.dp.link ≠ .online then some .driveOffline
    else if s.tun.lostLimit ≤ s.mo.pu.u then some .notLocalised else none := by
  unfold State.startRefusal
  rw [h]
  rfl

/-- The Main List as START ROUTE sets it up, in both modes (R86). -/
theorem startMain_eq (mode : Byte) (m : Motion) : startMain (mode = 0) m = { m with re := { m.re with
    state := .running, active := some .main, sub := .segment, suspended := none, seg := none
    todo := .begin
    main := { m.re.main with
      position := if mode = 0 ∨ m.re.suspended = none ∧ m.re.main.position = m.re.main.entries.length then 0
        else m.re.main.position
      passesDone := if mode = 0 then 0 else m.re.main.passesDone } } } := by
  have list : (if decide (mode = 0) = true then m.re.main.fromStart
      else m.re.main.resumed m.re.suspended.isSome) = { m.re.main with
        position := if mode = 0 ∨ m.re.suspended = none ∧ m.re.main.position = m.re.main.entries.length then 0
          else m.re.main.position
        passesDone := if mode = 0 then 0 else m.re.main.passesDone } := by
    by_cases fresh : mode = 0
    · simp only [fresh, decide_true, if_true, true_or]
      rfl
    · simp only [fresh, decide_false, if_false, false_or, RunList.resumed, Bool.false_eq_true,
        Option.isSome_eq_false_iff, Option.isNone_iff_eq_none]
      split <;> rfl
  unfold startMain
  dsimp only
  rw [list]
  rfl

end start

theorem runEngine_two {env : Env} {m : Motion} (n : Nat) (first : m.re.todo ≠ .none)
    (second : (engineMove env m).re.todo ≠ .none) (rest : (engineMove env (engineMove env m)).re.todo = .none) :
    runEngine env (n + 2) m = engineMove env (engineMove env m) := by
  rw [runEngine_succ _ _ _ first, runEngine_succ _ _ _ second]
  exact runEngine_of_none env n _ rest

/-- A Line at the list's position: the engine opens it and asks for the check of its first try, which begins
sampling (R79, R87, R91). -/
theorem runEngine_begin_line {env : Env} {m : Motion} {e : Entry} {seg : Segment} {req : CheckReq}
    (begin : m.re.todo = .begin) (fresh : m.re.seg = none) (active : m.re.active = some .main)
    (stays : m.re.switchPending = false) (entry : m.re.main.entries[m.re.main.position]? = some e)
    (known : m.pu.u < env.tun.lostLimit) (stored : m.re.slotAt e.slot = some seg) (line : seg.kind = .line)
    (free : env.mapBusy = false) (none : m.cu.checks = [])
    (hreq : req = { owner := .engine, path := .target seg.targetX seg.targetY, column := .line,
                    allowUnknown := seg.allowUnknown, avoidRug := seg.avoidRug, speed := seg.speed }) :
    ∃ sr, sr.seg = seg ∧ sr.phase = .vet ∧ sr.wait = .check ∧
      runEngine env Config.engineMoves m = { m.released with
        re := { m.re with
          main := { m.re.main with entries := m.re.main.entries.set m.re.main.position { e with desc := {
            outcome := .inProgress, start := m.eu.time, finish := 0, attempts := 0, altUsed := false,
            blocking := .none, endError := 0 } } }
          poolIndex := some e.slot, attempt := 1, sub := .segment
          progress := { stage := 0, retryInUse := false, altInUse := false, guardTrip := false,
                        unknownSeen := false }
          seg := some sr, todo := .none }
        cu := { m.cu with checks := [{ req := req, run := some (beginCheck env m req) }] } } := by
  obtain ⟨-, -, fetches, tries⟩ := segmentsAndTriesBegin
  obtain ⟨todo, move, -, fit⟩ := (((fetches env m .main _ begin fresh active rfl).2 (.inr stays)).2.2) e entry known
  obtain ⟨-, fit⟩ := fit seg stored
  have starts : todo = .startTry := fit (.inl (by rw [line]; decide))
  obtain ⟨m2, hm2⟩ : ∃ m2, m2 = engineMove env m := ⟨_, rfl⟩
  rw [stored, starts] at move
  obtain ⟨sr, hsr⟩ : ∃ sr, sr = (SegRun.fresh e.slot seg).tried m2.pu.theta := ⟨_, rfl⟩
  have seg2 : m2.re.seg = some (SegRun.fresh e.slot seg) := by rw [hm2, move]
  have todo2 : m2.re.todo = .startTry := by rw [hm2, move]
  have attempt2 : m2.re.attempt = 1 := by rw [hm2, move]
  have kind : sr.seg.kind = .line := by rw [hsr]; exact line
  obtain ⟨asks, -⟩ := tries env m2 (m2.tried (SegRun.fresh e.slot seg)) _ sr todo2 seg2 hsr (by rw [hsr]; rfl)
  have move2 := asks seg.targetX seg.targetY kind (fun p _ later => by rw [attempt2] at later; omega)
    (fun _ => by rw [hsr]; rfl)
  rw [askCheck_of_free (by rw [hm2, move]; exact none) free, Check.start_engine _ _ rfl] at move2
  refine ⟨sr.at .vet .check, by rw [hsr]; rfl, rfl, rfl, ?_⟩
  have ran : runEngine env Config.engineMoves m = engineMove env (engineMove env m) :=
    runEngine_two 398 (by rw [begin]; decide) (by rw [← hm2, todo2]; decide) (by rw [← hm2, move2]; rfl)
  rw [ran, ← hm2, move2, hreq, hm2, move, hsr, hm2, move]
  rfl

/-- Settles O30. -/
theorem startRouteBeginsALine : Obligations.StartRouteBeginsALine := by
  intro mode s hs
  have refused {r : Reason} (h : mode.toNat ≤ 1) (why : s.startRefusal = some r) :
      exec (.startRoute mode) s = .next (s.answered 4 (.rejected r)) :=
    exec_answers_same hs rfl rfl rfl (serveStartRoute_of_refused (s := s.taken 4) h why)
  refine ⟨fun h => exec_answers_same hs rfl rfl rfl (serveStartRoute_of_mode h), fun h => ⟨fun halted =>
    refused h (startRefusal_of_halted halted), fun busy => refused h (startRefusal_of_busy busy), fun idle empty => ?_,
    fun idle listed offline => ?_, fun idle listed online lost => ?_, fun idle listed online known p hp => ?_⟩⟩
  · exact refused h ((startRefusal_of_idle idle).trans (if_pos empty))
  · exact refused h ((startRefusal_of_idle idle).trans ((if_neg listed).trans (if_pos offline)))
  · exact refused h ((startRefusal_of_idle idle).trans
      ((if_neg listed).trans ((if_neg (not_not.2 online)).trans (if_pos lost))))
  · have ready : s.startRefusal = none := (startRefusal_of_idle idle).trans
      ((if_neg listed).trans ((if_neg (not_not.2 online)).trans (if_neg (Nat.not_le.2 known))))
    have started : exec (.startRoute mode) s = .next (State.answered 4 (.done [])
        (s.runs (startMain (mode = 0) s.mo))) :=
      exec_leaves hs rfl rfl rfl (serveStartRoute_of_ready (s := s.taken 4) h ready)
    rw [startMain_eq, ← hp] at started
    refine ⟨started, fun e seg req stays free none entry stored line hreq => ?_⟩
    obtain ⟨sr, hseg, phase, wait, ran⟩ := runEngine_begin_line (env := s.env)
      (m := { s.mo with re := { s.mo.re with
          state := .running, active := some .main, sub := .segment, suspended := .none, seg := .none
          todo := .begin
          main := { s.mo.re.main with
            position := p
            passesDone := if mode = 0 then 0 else s.mo.re.main.passesDone } } })
      rfl rfl rfl stays entry known stored line (by unfold State.env; rw [free]; rfl) none hreq
    refine ⟨_, sr, started, ?_⟩
    simp only [State.runs, ran]
    exact ⟨rfl, rfl, rfl, rfl, rfl, rfl, rfl, rfl, rfl, rfl, rfl, rfl, hseg, phase, wait, rfl, rfl, rfl, rfl, rfl⟩

end Sys2Proof.Machine
end

section
/-! Results of checks and re-checks, SETTLE and BACKOFF (sections 3.5, 5.4 and 5.9). -/

namespace Sys2Proof.Machine
open Sys2Proof

/-! ## The ended check (R57, R59) -/

section ended
variable {s : State} {b : Beacon} {req : CheckReq} {sp : Sampling} {rest : List Check}

theorem ClearanceUnit.ended_of_finished {cu : ClearanceUnit} (h : cu.checks = { req := req, run := some sp } :: rest)
    (finished : sp.finished = true) : cu.ended = some ({ req := req, run := some sp }, sp, rest) := by
  simp only [ClearanceUnit.ended, h, finished, if_true]

theorem ClearanceUnit.of_ended {cu : ClearanceUnit} {k : Check} (h : cu.ended = some (k, sp, rest)) :
    cu.checks = { req := k.req, run := some sp } :: rest ∧ sp.finished = true := by
  unfold ClearanceUnit.ended at h
  split at h
  · next checks =>
    split at h
    · next finished =>
      cases h
      exact ⟨checks, finished⟩
    · cases h
  · cases h

theorem Check.ofEngine_iff (k : Check) : k.ofEngine = true ↔ k.req.owner = .engine := by
  unfold Check.ofEngine
  split
  · next h => simp [h]
  · next h => simp [h]

theorem exec_checkResult (b : Beacon) (s : State) : exec (.checkResult b) s = .next (s.setBeacon b).checkResult := rfl

theorem exec_recheckResult (s : State) : exec .recheckResult s = .next s.recheckResult := rfl

theorem exec_checkResult_of_ended (h : s.mo.cu.checks = { req := req, run := some sp } :: rest)
    (owner : req.owner = .engine) (finished : sp.finished = true) : exec (.checkResult b) s =
      .next ((s.setBeacon b).runs (checkHanded s.env (sp.result req) ((s.setBeacon b).mo.dropFront rest))) := by
  have ended : (s.setBeacon b).mo.cu.ended = _ := ClearanceUnit.ended_of_finished (cu := s.mo.cu) h finished
  rw [exec_checkResult]
  unfold State.checkResult
  simp only [ended, (Check.ofEngine_iff { req := req, run := some sp }).2 owner, if_true]
  rfl

theorem exec_checkResult_of_other (h : ∀ (req : CheckReq) (sp : Sampling) (rest : List Check),
    s.mo.cu.checks = { req := req, run := some sp } :: rest → sp.finished = true → req.owner ≠ .engine) :
    exec (.checkResult b) s = .next (s.setBeacon b) := by
  rw [exec_checkResult]
  unfold State.checkResult
  split
  · next k sp rest ended =>
    obtain ⟨checks, finished⟩ := ClearanceUnit.of_ended ended
    exact congrArg _ (if_neg fun engine => h _ _ _ checks finished ((Check.ofEngine_iff k).1 engine))
  · rfl

theorem exec_recheckResult_of_other (h : ∀ (req : CheckReq) (sp : Sampling) (rest : List Check),
    s.mo.cu.checks = { req := req, run := some sp } :: rest → sp.finished = true → req.owner = .engine) :
    exec .recheckResult s = .next s := by
  rw [exec_recheckResult]
  unfold State.recheckResult
  split
  · next k sp rest ended =>
    obtain ⟨checks, finished⟩ := ClearanceUnit.of_ended ended
    exact congrArg _ (if_pos ((Check.ofEngine_iff k).2 (h _ _ _ checks finished)))
  · rfl

section recheck
variable {g : Nat} (h : s.mo.cu.checks = { req := req, run := some sp } :: rest) (owner : req.owner = .recheck g)
  (finished : sp.finished = true)
include h owner finished

theorem exec_recheckResult_of_clear (clear : sp.blocked = none) :
    exec .recheckResult s = .next (s.withMotion (s.mo.dropFront rest)) := by
  rw [exec_recheckResult]
  unfold State.recheckResult
  simp only [ClearanceUnit.ended_of_finished h finished, Check.ofEngine, owner, clear]
  rfl

theorem exec_recheckResult_of_blocked {k : Nat} {cell : BlockCell} (blocked : sp.blocked = some (k, cell)) :
    exec .recheckResult s = .next (s.runs (recheckHands s.env sp cell.held (s.mo.dropFront rest))) := by
  rw [exec_recheckResult]
  unfold State.recheckResult
  simp only [ClearanceUnit.ended_of_finished h finished, Check.ofEngine, owner, blocked]
  rfl

end recheck

end ended

/-- With no move of its own left the engine makes none. -/
theorem State.runs_of_none (s : State) {m : Motion} (h : m.re.todo = .none) : s.runs m = s.withMotion m :=
  congrArg (fun m => s.withMotion m) (runEngine_of_none s.env Config.engineMoves m h)

/-! ## A check's result by phase (R57, R88) -/

section handed
variable {env : Env} {m : Motion} {sr : SegRun} {req : CheckReq} {sp : Sampling} {rest : List Check}
  (hs : m.re.seg = some sr) (wait : sr.wait = .check)

theorem handed_eq (hs : m.re.seg = some sr) : m.handed sp rest sr =
    (let q := ((m.dropFront rest).reachStage 1).updSeg fun r => { r with wait := .nothing }
     { q with re := { q.re with progress := { q.re.progress with
        unknownSeen := q.re.progress.unknownSeen || sp.unknownSeen } } }) := by
  unfold Motion.updSeg
  rw [show ((m.dropFront rest).reachStage 1).re.seg = some sr from hs]
  rfl

include hs wait

theorem checkHanded_vet (h : sr.phase = .vet) : checkHanded env (sp.result req) (m.dropFront rest) =
    vetResult env sr (sp.result req) (m.handed sp rest sr) := by
  unfold checkHanded
  simp only [show (m.dropFront rest).re.seg = some sr from hs, wait, h, handed_eq hs]
  rfl

theorem checkHanded_travel (h : sr.phase = .travel) : checkHanded env (sp.result req) (m.dropFront rest) =
    judgeTravel env sr (sp.result req) (m.handed sp rest sr) := by
  unfold checkHanded
  simp only [show (m.dropFront rest).re.seg = some sr from hs, wait, h, handed_eq hs]
  rfl

theorem checkHanded_reverse (h : sr.phase = .reverse) : checkHanded env (sp.result req) (m.dropFront rest) =
    reverseResult env sr (sp.result req) (m.handed sp rest sr) := by
  unfold checkHanded
  simp only [show (m.dropFront rest).re.seg = some sr from hs, wait, h, handed_eq hs]
  rfl

theorem checkHanded_seek (h : sr.phase = .seek) : checkHanded env (sp.result req) (m.dropFront rest) =
    seekResult env (sp.result req) (m.handed sp rest sr) := by
  unfold checkHanded
  simp only [show (m.dropFront rest).re.seg = some sr from hs, wait, h, handed_eq hs]
  rfl

theorem checkHanded_close (h : sr.phase = .close) : checkHanded env (sp.result req) (m.dropFront rest) =
    issueCreep env 100000 (sp.result req) (m.handed sp rest sr) := by
  unfold checkHanded
  simp only [show (m.dropFront rest).re.seg = some sr from hs, wait, h, handed_eq hs]
  rfl

theorem checkHanded_mate (h : sr.phase = .mate) : checkHanded env (sp.result req) (m.dropFront rest) =
    issueCreep env (env.tun.mateLimit * 1000) (sp.result req) (m.handed sp rest sr) := by
  unfold checkHanded
  simp only [show (m.dropFront rest).re.seg = some sr from hs, wait, h, handed_eq hs]
  rfl

theorem checkHanded_backoff (h : sr.phase = .backoff) : checkHanded env (sp.result req) (m.dropFront rest) =
    backoffResult env sr (sp.result req) (m.handed sp rest sr) := by
  unfold checkHanded
  simp only [show (m.dropFront rest).re.seg = some sr from hs, wait, h, handed_eq hs]
  rfl

theorem checkHanded_turn (h : sr.phase = .rotate ∨ sr.phase = .align ∨ sr.phase = .turn) :
    checkHanded env (sp.result req) (m.dropFront rest) = rotateResult sr (sp.result req) (m.handed sp rest sr) := by
  unfold checkHanded
  obtain h | h | h := h <;> simp only [show (m.dropFront rest).re.seg = some sr from hs, wait, h, handed_eq hs] <;> rfl

end handed

theorem tooSmall_iff {env : Env} (a : Int) : tooSmall env a = true ↔ a ≤ (env.tun.minPiece * 1000 : Nat) := by
  simp [tooSmall]

/-! ## SETTLE and BACKOFF (R90, R102) -/

section settle
variable {env : Env} {m : Motion} {sr : SegRun} {o : SegOutcome}

theorem endSettle_of_fault (hs : m.re.seg = some sr) (ho : sr.outcome = some o) (fault : o.cls = .fault) :
    endSettle env sr m = m.toRecord o none sr := by
  simp only [endSettle, ho, fault, if_true]
  exact setTodo_record hs

theorem endSettle_of_backoff (ho : sr.outcome = some o) (plain : o.cls ≠ .fault) (back : sr.inBackoff = true) :
    endSettle env sr m = takeEffect o sr.cell m := by
  simp only [endSettle, ho, if_neg plain, back, if_true, endBackoff]

theorem endSettle_of_hazard (ho : sr.outcome = some o) (plain : o.cls ≠ .fault) (fresh : sr.inBackoff = false) :
    endSettle env sr m = if o.backsOff = true ∧ 0 < env.tun.backoffDistance then beginBackoff env sr m
      else takeEffect o sr.cell m := by
  simp only [endSettle, ho, if_neg plain, fresh, if_false, Bool.false_eq_true]

theorem backsOff_iff : o.backsOff = true ↔ o = .cliffStop ∨ o = .bumpStop ∨ o = .stall := by
  cases o <;> decide

theorem beginBackoff_eq (hs : m.re.seg = some sr) : beginBackoff env sr m = askCheck env
    (sr.request .reverse (.heading .reversed ((env.tun.backoffDistance + env.tun.stopMargin) * 1000)) sr.seg.speed)
    (Motion.withSeg (sr.at .backoff .check) { m with du := { m.du with phase := .none } }) :=
  askInPhase_eq _ _ hs

theorem endBackoff_eq (ho : sr.outcome = some o) : endBackoff sr m = takeEffect o sr.cell m := by
  simp only [endBackoff, ho]

theorem pieceStopped_of_backoff {o : SegOutcome} {cell : Option CellIx} (hs : m.re.seg = some sr)
    (wait : sr.wait = .grant) (h : sr.phase = .backoff) : pieceStopped o cell m =
      m.withSeg { sr with phase := .settle, wait := .nothing, inBackoff := true } := by
  simp only [pieceStopped, hs, wait, h, updSeg_eq hs, ne_eq, not_true_eq_false, if_false, if_true]

theorem pieceStopped_of_other {o : SegOutcome} {cell : Option CellIx} (hs : m.re.seg = some sr)
    (wait : sr.wait = .grant) (h : sr.phase ≠ .backoff) :
    pieceStopped o cell m = m.withSeg (sr.settling o cell) := by
  simp only [pieceStopped, hs, wait, if_neg h, enterSettle, updSeg_eq hs]
  rfl

theorem pieceTrimmed_eq (cell : Option CellIx) (hs : m.re.seg = some sr) (wait : sr.wait = .grant) :
    pieceTrimmed cell m = m.withSeg { sr with pieceCut := true, pieceCell := cell } := by
  unfold pieceTrimmed
  rw [updSeg_eq hs, if_pos wait]

theorem Sampling.clear_of_blocked {sp : Sampling} {k : Nat} {cell : BlockCell} (h : sp.blocked = some (k, cell)) :
    sp.clear = (k - 1) * 25000 := by
  simp only [Sampling.clear, h]

end settle

section recheck
variable {env : Env} {m : Motion} {sp : Sampling} {k : Nat} {cell : BlockCell}

theorem recheckHands_stop (h : sp.blocked = some (k, cell))
    (small : (((k - 1) * 25000 : Nat) : Int) - (env.tun.stopMargin * 1000 : Nat) ≤ (env.tun.minPiece * 1000 : Nat))
    (c : CellIx) : recheckHands env sp c m = pieceStopped .blocked (some c) (askStop .hazard m) := by
  refine if_pos ((tooSmall_iff _).2 ?_)
  unfold newAllowance
  rw [Sampling.clear_of_blocked h]
  exact small

theorem recheckHands_trim (h : sp.blocked = some (k, cell)) {a : Int}
    (ha : a = (((k - 1) * 25000 : Nat) : Int) - (env.tun.stopMargin * 1000 : Nat))
    (large : ((env.tun.minPiece * 1000 : Nat) : Int) < a) (c : CellIx) :
    recheckHands env sp c m = pieceTrimmed (some c) (trimAmount (sp.doneAtStart + a) m) := by
  have allowance : newAllowance env sp = a := by
    unfold newAllowance
    rw [Sampling.clear_of_blocked h, ha]
  unfold recheckHands
  rw [allowance, if_neg (by rw [tooSmall_iff]; omega)]

end recheck

/-- Settles O35. -/
theorem settlesAndBackoffs : Obligations.SettlesAndBackoffs := by
  refine ⟨fun env m sr o hs ho => ⟨endSettle_of_fault hs ho, endSettle_of_backoff ho, fun fresh backs positive => ?_,
    fun plain fresh stays => ?_⟩, ?_, ?_⟩
  · have plain : o.cls ≠ .fault := by obtain h | h | h := backs <;> rw [h] <;> decide
    rw [endSettle_of_hazard ho plain fresh, if_pos ⟨backsOff_iff.2 backs, positive⟩]
    exact beginBackoff_eq hs
  · rw [endSettle_of_hazard ho plain fresh]
    refine if_neg ?_
    rintro ⟨backs, positive⟩
    rw [backsOff_iff] at backs
    obtain zero | other := stays
    · omega
    · tauto
  · intro b s req sp rest sr o q a checks owner finished hs wait backoff ho hq ha
    have handed : checkHanded s.env (sp.result req) ((s.setBeacon b).mo.dropFront rest) =
        backoffResult s.env sr (sp.result req) q := by
      rw [hq]
      exact checkHanded_backoff (m := (s.setBeacon b).mo) hs wait backoff
    have allow : allowance s.env (sp.result req) = a := ha.symm
    rw [exec_checkResult_of_ended checks owner finished, handed]
    unfold backoffResult
    rw [allow]
    refine ⟨fun small => ?_, fun large => ?_⟩
    · rw [if_pos ((tooSmall_iff (env := s.env) a).2 small), endBackoff_eq ho]
    · have large' : ¬ tooSmall s.env a = true := mt (tooSmall_iff (env := s.env) a).1 (not_le_of_gt large)
      rw [if_neg large']
      rfl
  · intro req sp rest g k cell sr s checks owner finished todo blocked small isOpen hs wait backoff
    rw [exec_recheckResult_of_blocked checks owner finished blocked, recheckHands_stop (env := s.env) blocked small,
      askStop_eq (m := s.mo.dropFront rest) _ ((GrantState.openTo_iff _).2 isOpen),
      pieceStopped_of_backoff (m := Motion.stopped .hazard (s.mo.dropFront rest)) hs wait backoff]
    refine congrArg _ (s.runs_of_none ?_)
    exact todo

/-- Settles O43. -/
theorem recheckTrimsOrStops : Obligations.RecheckTrimsOrStops := by
  refine ⟨fun s h => exec_recheckResult_of_other h, fun req sp rest g s checks owner finished todo =>
    ⟨fun clear => exec_recheckResult_of_clear checks owner finished clear,
     fun k cell sr a blocked ha isOpen hs wait other => ?_⟩⟩
  have isOpen' : (s.mo.dropFront rest).dp.grant.state.openTo = true := (GrantState.openTo_iff _).2 isOpen
  rw [exec_recheckResult_of_blocked checks owner finished blocked]
  refine ⟨fun large => ?_, fun small => ?_⟩
  · rw [recheckHands_trim (env := s.env) blocked ha large, trimAmount_eq _ isOpen', pieceTrimmed_eq (sr := sr) _ (by exact hs) wait]
    refine congrArg _ (s.runs_of_none ?_)
    exact todo
  · rw [recheckHands_stop (env := s.env) blocked (ha ▸ small), askStop_eq _ isOpen',
      pieceStopped_of_other (m := Motion.stopped .hazard (s.mo.dropFront rest)) hs wait other]
    refine congrArg _ (s.runs_of_none ?_)
    exact todo

end Sys2Proof.Machine
end

section
/-! STOP ROUTE, POST PRIORITY and ACKNOWLEDGE (sections 5.13, 5.14 and 5.16). -/

namespace Sys2Proof.Machine
open Sys2Proof

theorem mode_cases {mode : Byte} (h : mode ≤ 2) : mode = 0 ∨ mode = 1 ∨ mode = 2 := by
  have h' : mode.toNat ≤ 2 := h
  have : mode.toNat = 0 ∨ mode.toNat = 1 ∨ mode.toNat = 2 := by omega
  exact this.imp BitVec.eq_of_toNat_eq (Or.imp BitVec.eq_of_toNat_eq BitVec.eq_of_toNat_eq)

section engine
variable {env : Env} {m : Motion} {sr : SegRun}

theorem RouteEngine.active?_iff (re : RouteEngine) :
    re.active? = true ↔ re.state = .running ∨ re.state = .draining := by
  simp [RouteEngine.active?]

theorem RouteEngine.inPassWait_eq {re : RouteEngine} (h : re.state = .running ∨ re.state = .draining) :
    re.inPassWait = decide (re.sub = .passWait) := by
  obtain h | h := h <;> simp [RouteEngine.inPassWait, h]

theorem stopLater_of_segment (mode : DrainMode) (runs : m.re.state = .running ∨ m.re.state = .draining)
    (sub : m.re.sub = .segment) : stopLater mode m = beginDrain mode m :=
  if_neg (by rw [RouteEngine.inPassWait_eq runs, sub]; decide)

theorem stopLater_of_passWait (runs : m.re.state = .running ∨ m.re.state = .draining) (sub : m.re.sub = .passWait) :
    stopLater .atSegment m = becomeIdle m ∧ stopLater .atPass m = becomeIdle (m.raise .listDone) :=
  have waits : m.re.inPassWait = true := by rw [RouteEngine.inPassWait_eq runs, sub]; rfl
  ⟨if_pos waits, if_pos waits⟩

theorem beginDrain_atSegment (m : Motion) :
    beginDrain .atSegment m = { m with re := { m.re with state := .draining, drain := .atSegment } } :=
  if_neg fun c => nomatch c.2

theorem beginDrain_atPass (m : Motion) : beginDrain .atPass m = { m with re := { m.re with
    state := .draining, drain := if m.re.state = .draining then m.re.drain else .atPass } } := by
  unfold beginDrain
  by_cases h : m.re.state = .draining
  · rw [if_pos ⟨h, rfl⟩, if_pos h, ← h]
  · rw [if_neg (fun c => h c.1), if_neg h]

theorem stopNow_of_none (h : m.re.seg = none) : stopNow env m = becomeIdle m := by
  simp only [stopNow, h]

theorem stopNow_of_some (hs : m.re.seg = some sr) (plain : sr.faulted = false) :
    stopNow env m = becomeIdle (cancelSegment m) := by
  simp [stopNow, hs, plain]

theorem stopNow_of_fault (hs : m.re.seg = some sr) (fault : sr.faulted = true) : stopNow env m =
    if m.dp.grant.state = .none then
      endSettle env sr { m with re := { m.re with state := .running, switchPending := false, keptStop := false } }
    else { m with re := { m.re with state := .running, switchPending := false, keptStop := false } } := by
  simp [stopNow, hs, fault]

/-- Whether a Stop is made is told by the record alone (R123). -/
theorem askStop_state (reason : StopReason) (m : Motion) : (askStop reason m).dp.grant.state =
    if m.dp.grant.state = .sent ∨ m.dp.grant.state = .active then .stopping else m.dp.grant.state := by
  cases h : m.dp.grant.state.openTo with
  | true =>
    rw [askStop_eq reason h, if_pos ((GrantState.openTo_iff _).1 h)]
    rfl
  | false => rw [askStop_of_closed reason m h, if_neg (by rw [← GrantState.openTo_iff, h]; decide)]

theorem askStop_txNow (reason : StopReason) (h : m.dp.grant.state = .sent ∨ m.dp.grant.state = .active)
    (idle : m.dp.txNow = none) : (askStop reason m).dp.txNow = some (.stop m.dp.grant.id reason) := by
  rw [askStop_eq reason ((GrantState.openTo_iff _).2 h)]
  simp [Motion.stopped, DrivePort.made, idle]

theorem withdrawCheck_checks : ∀ k ∈ (withdrawCheck m).cu.checks, k.req.owner ≠ .engine := by
  intro k hk
  have other := (List.mem_filter.1 hk).2
  intro engine
  rw [(Check.ofEngine_iff k).2 engine] at other
  cases other

end engine

section stop
variable {s : State} {mode : Byte}

theorem serveStopRoute_of_still (h : mode ≤ 2) (still : s.mo.re.active? = false) :
    serveStopRoute mode s = (s, .done []) := by
  unfold serveStopRoute
  rw [if_neg (show ¬ 2 < mode from Nat.not_lt.2 h), still]
  rfl

theorem serveStopRoute_of_active (h : mode ≤ 2) (runs : s.mo.re.state = .running ∨ s.mo.re.state = .draining) :
    serveStopRoute mode s = (s.runs (stopRoute s.env mode.toNat s.mo), .done []) := by
  unfold serveStopRoute
  rw [if_neg (show ¬ 2 < mode from Nat.not_lt.2 h), if_pos ((RouteEngine.active?_iff _).2 runs)]
  rfl

theorem exec_stopRoute (hs : s.Ready) (h : mode ≤ 2) (runs : s.mo.re.state = .running ∨ s.mo.re.state = .draining) :
    exec (.stopRoute mode) s = .next (State.answered 4 (.done []) (s.runs (stopRoute s.env mode.toNat s.mo))) :=
  exec_leaves hs rfl rfl rfl (serveStopRoute_of_active (s := s.taken 4) h runs)

end stop

/-- Settles O36. -/
theorem stopRouteDrainsOrCancels : Obligations.StopRouteDrainsOrCancels := by
  intro s hs
  refine ⟨fun mode h => ?_, fun mode h still => ?_, fun todo runs sub => ⟨?_, ?_⟩, fun mode h runs sub none => ?_,
    fun sr q runs seg fault hq => ?_, fun sr id e runs sub seg plain active entry => ?_⟩
  · exact exec_answers_same hs rfl rfl rfl (if_pos h)
  · refine exec_answers_same hs rfl rfl rfl (serveStopRoute_of_still (s := s.taken 4) h ?_)
    show s.mo.re.active? = false
    rw [Bool.eq_false_iff, ne_eq, RouteEngine.active?_iff]
    obtain state | state := still <;> rw [state] <;> decide
  · rw [exec_stopRoute hs (by decide) runs]
    show Host.Outcome.next (State.answered 4 _ (s.runs (stopLater .atSegment s.mo))) = _
    rw [stopLater_of_segment _ runs sub, beginDrain_atSegment, s.runs_of_none (by exact todo)]
    rfl
  · rw [exec_stopRoute hs (by decide) runs]
    show Host.Outcome.next (State.answered 4 _ (s.runs (stopLater .atPass s.mo))) = _
    rw [stopLater_of_segment _ runs sub, beginDrain_atPass, s.runs_of_none (by exact todo)]
    rfl
  · rw [exec_stopRoute hs h runs]
    obtain ⟨atSegment, atPass⟩ := stopLater_of_passWait runs sub
    have ends : stopRoute s.env mode.toNat s.mo =
        becomeIdle (if mode = 1 then s.mo.raise .listDone else s.mo) := by
      obtain rfl | rfl | rfl := mode_cases h
      · exact atSegment
      · exact atPass
      · exact stopNow_of_none none
    rw [ends, s.runs_of_none rfl]
  · have stops := stopNow_of_fault (env := s.env) seg fault
    rw [← hq] at stops
    rw [exec_stopRoute hs (by decide) runs]
    show (_ → Host.Outcome.next (State.answered 4 _ (s.runs (stopNow s.env s.mo))) = _) ∧
      (_ → Host.Outcome.next (State.answered 4 _ (s.runs (stopNow s.env s.mo))) = _)
    rw [stops]
    exact ⟨fun h => by rw [if_neg h], fun h => by rw [if_pos h]⟩
  · obtain ⟨n, hn⟩ : ∃ n, n = withdrawCheck (askStop .cancel s.mo) := ⟨_, rfl⟩
    have re : n.re = s.mo.re := by simp [hn]
    have record := writeRecord_eq (m := n) (o := .cancelled) (cell := .none) (re ▸ seg) (re ▸ active)
      (by rw [re]; exact entry)
    have stops : stopRoute s.env 2 s.mo = becomeIdle (writeRecord .cancelled .none n) := by
      rw [hn]
      exact stopNow_of_some seg plain
    have ran := exec_stopRoute (mode := 2) hs (by decide) runs
    rw [show (2 : Byte).toNat = 2 from rfl, stops, s.runs_of_none rfl, record, re] at ran
    refine ⟨_, recordedDesc .cancelled .none sr n e.desc, ran, rfl, rfl, rfl, rfl, ?_, ?_, rfl, ?_, rfl, ?_, rfl, ?_,
      fun isOpen idle => ?_, ?_, ?_, rfl⟩
    · cases id <;> rfl
    · cases id <;> rfl
    · simp [recordedDesc, hn]
    · rw [← re]
      rfl
    · rw [← askStop_state .cancel, hn]
      rfl
    · rw [← askStop_txNow .cancel isOpen idle, hn]
      rfl
    · rw [hn]
      exact withdrawCheck_checks
    · simp [hn, State.answered, State.withMotion, becomeIdle]

/-! ## POST PRIORITY (R110) -/

section post
variable {env : Env} {m : Motion} {re : RouteEngine}

theorem postRefusal_of_empty (h : re.priority.entries = []) : re.postRefusal = some .listEmpty := if_pos h

theorem postRefusal_of_halted (h : re.priority.entries ≠ []) (halted : re.state = .halted) :
    re.postRefusal = some .halted := (if_neg h).trans (if_pos halted)

theorem postRefusal_of_active (h : re.priority.entries ≠ []) (live : re.state ≠ .halted)
    (busy : (re.state = .running ∨ re.state = .draining) ∧ re.active = some .priority ∨ re.switchPending = true) :
    re.postRefusal = some .priorityActive := by
  refine (if_neg h).trans ((if_neg live).trans (if_pos ?_))
  simpa [RouteEngine.active?_iff] using busy

theorem postRefusal_of_free (h : re.priority.entries ≠ []) (live : re.state ≠ .halted)
    (main : (re.state = .running ∨ re.state = .draining) → re.active = some .main) (spare : re.switchPending = false) :
    re.postRefusal = none := by
  refine (if_neg h).trans ((if_neg live).trans (if_neg ?_))
  simp only [Bool.or_eq_true, Bool.and_eq_true, decide_eq_true_eq, RouteEngine.active?_iff, spare]
  rintro (⟨runs, priority⟩ | set)
  · rw [main runs] at priority
    cases priority
  · cases set

/-- The Priority List posted: its position is 0. -/
def Motion.posted (m : Motion) : Motion :=
  { m with re := { m.re with priority := { m.re.priority with position := 0 } } }

theorem postList_of_idle (urgent : Bool) (idle : m.re.state = .idle) : postList urgent m = runList .priority m.posted :=
  if_pos idle

theorem postList_of_passWait (urgent : Bool) (runs : m.re.state = .running ∨ m.re.state = .draining)
    (sub : m.re.sub = .passWait) :
    postList urgent m = switchList (m.re.state = .draining) .passWait m.posted := by
  have live : m.posted.re.state ≠ .idle := by
    show m.re.state ≠ .idle
    obtain h | h := runs <;> rw [h] <;> decide
  have waits : m.posted.re.inPassWait = true := by
    rw [RouteEngine.inPassWait_eq (re := m.posted.re) runs]
    exact decide_eq_true sub
  exact (if_neg live).trans (if_pos waits)

theorem postList_of_segment (urgent : Bool) (runs : m.re.state = .running ∨ m.re.state = .draining)
    (sub : m.re.sub = .segment) : postList urgent m =
      if urgent = true ∧ m.re.seg.isSome = true ∧ m.re.faultPending = false then
        switchList (m.re.state = .draining) .segment (cancelSegment m.posted)
      else { m.posted with re := { m.posted.re with switchPending := true } } := by
  have live : m.posted.re.state ≠ .idle := by
    show m.re.state ≠ .idle
    obtain h | h := runs <;> rw [h] <;> decide
  have within : ¬ m.posted.re.inPassWait = true := by
    rw [RouteEngine.inPassWait_eq (re := m.posted.re) runs, show m.posted.re.sub = .segment from sub]
    decide
  refine (if_neg live).trans ((if_neg within).trans ?_)
  simp only [Bool.and_eq_true, Bool.not_eq_true', and_assoc]
  rfl

theorem faultPending_of_none (h : re.seg = none) : re.faultPending = false := by
  simp only [RouteEngine.faultPending, h]

theorem faultPending_of_some {sr : SegRun} (h : re.seg = some sr) : re.faultPending = sr.faulted := by
  simp only [RouteEngine.faultPending, h]

theorem postPriority_of_plain {urgent : Bool} (h : urgent = false ∨ m.re.faultPending = false) :
    postPriority urgent env m = postList urgent m := by
  refine if_neg ?_
  obtain h | h := h <;> simp [h]

theorem postPriority_of_fault (h : m.re.faultPending = true) : postPriority true env m = postUrgentFault env m :=
  if_pos (by simp [h])

end post

section exec
variable {s : State} {urgent : Byte}

theorem servePostPriority_of_refused {r : Reason} (h : urgent.toNat ≤ 1) (refused : s.mo.re.postRefusal = some r) :
    servePostPriority urgent s = (s, .rejected r) := by
  unfold servePostPriority
  rw [if_neg (show ¬ 1 < urgent from Nat.not_lt.2 h), refused]

theorem servePostPriority_of_free (h : urgent.toNat ≤ 1) (free : s.mo.re.postRefusal = none) :
    servePostPriority urgent s = (s.runs (postPriority (urgent = 1) s.env s.mo), .done []) := by
  unfold servePostPriority
  rw [if_neg (show ¬ 1 < urgent from Nat.not_lt.2 h), free]
  rfl

theorem exec_postPriority_of_refused {r : Reason} (hs : s.Ready) (h : urgent.toNat ≤ 1)
    (refused : s.mo.re.postRefusal = some r) :
    exec (.postPriority urgent) s = .next (s.answered 4 (.rejected r)) :=
  exec_answers_same hs rfl rfl rfl (servePostPriority_of_refused (s := s.taken 4) h refused)

theorem exec_postPriority (hs : s.Ready) (h : urgent.toNat ≤ 1) (free : s.mo.re.postRefusal = none) :
    exec (.postPriority urgent) s =
      .next (State.answered 4 (.done []) (s.runs (postPriority (urgent = 1) s.env s.mo))) :=
  exec_leaves hs rfl rfl rfl (servePostPriority_of_free (s := s.taken 4) h free)

end exec

/-- Settles O37. -/
theorem postingsAndAcknowledgements : Obligations.PostingsAndAcknowledgements := by
  intro s hs
  refine ⟨fun urgent h => exec_answers_same hs rfl rfl rfl (if_pos h), fun urgent h =>
    ⟨fun empty => exec_postPriority_of_refused hs h (postRefusal_of_empty empty),
     fun listed halted => exec_postPriority_of_refused hs h (postRefusal_of_halted listed halted),
     fun listed live busy => exec_postPriority_of_refused hs h (postRefusal_of_active listed live busy),
     fun m listed spare hm => ?_⟩, fun live => ?_, fun halted located => ?_, fun halted lost far => ?_⟩
  · have posted : m = s.mo.posted := hm
    rw [posted]
    refine ⟨fun idle none => ?_, fun runs main => ?_⟩
    · have live : s.mo.re.state ≠ .halted := by rw [idle]; decide
      have free := postRefusal_of_free listed live (by rw [idle]; rintro (h | h) <;> cases h) spare
      rw [exec_postPriority hs h free, postPriority_of_plain (.inr (faultPending_of_none none)),
        postList_of_idle _ idle]
    · have live : s.mo.re.state ≠ .halted := by obtain h | h := runs <;> rw [h] <;> decide
      have free := postRefusal_of_free listed live (fun _ => main) spare
      rw [exec_postPriority hs h free]
      refine ⟨fun sub none => ?_, fun sub => ⟨fun mild => ?_, fun sr harsh seg => ⟨fun plain => ?_, fun fault q hq => ?_⟩⟩⟩
      · rw [postPriority_of_plain (.inr (faultPending_of_none none)), postList_of_passWait _ runs sub]
      · have calm : decide (urgent = 1) = false ∨ s.mo.re.faultPending = false :=
          mild.imp (fun h => by rw [h]; decide) faultPending_of_none
        rw [postPriority_of_plain calm, postList_of_segment _ runs sub, if_neg]
        rintro ⟨harsh, held, -⟩
        obtain h | h := mild
        · rw [h] at harsh
          exact absurd harsh (by decide)
        · rw [h] at held
          cases held
      · rw [postPriority_of_plain (.inr ((faultPending_of_some seg).trans plain)), postList_of_segment _ runs sub, if_pos]
        exact ⟨decide_eq_true harsh, by rw [seg]; rfl, (faultPending_of_some seg).trans plain⟩
      · have stops := stopNow_of_fault (env := s.env) seg fault
        have hq' : q = { s.mo with re := { s.mo.re with state := .running, switchPending := false, keptStop := false } } := by
          rw [hq, ← spare]
        obtain ⟨o, settles⟩ := Motion.Reacts.endSettle_of_faulted (env := s.env) fault q
        rw [← hq'] at stops
        rw [decide_eq_true harsh, postPriority_of_fault ((faultPending_of_some seg).trans fault)]
        unfold postUrgentFault
        dsimp only
        rw [stops]
        split
        · rw [settles, hq]
          rfl
        · rw [hq]
  · exact exec_answers_same hs rfl rfl rfl (if_pos live)
  · refine exec_leaves (t := s.withEngine _) hs rfl rfl rfl ?_
    refine (if_neg (not_not.2 halted)).trans (if_neg ?_)
    rintro ⟨lost, far⟩
    exact absurd (located lost) (Nat.not_lt.2 far)
  · exact exec_answers_same hs rfl rfl rfl ((if_neg (not_not.2 halted)).trans (if_pos ⟨lost, far⟩))

end Sys2Proof.Machine
end

section
/-! The pieces of a segment: the travel loop, what a check's result sends, and what a Done leads to (section 5.4). -/

namespace Sys2Proof.Machine
open Sys2Proof

/-! ## Grants issued (R89, R121) -/

section issue
variable {m : Motion} {sr : SegRun} {g : ReadyGrant}

theorem issueGrant_of_offline (g : ReadyGrant) (hs : m.re.seg = some sr) (link : m.dp.link ≠ .online) :
    issueGrant g m = m.toRecord .driveLost none sr := (if_pos link).trans (setTodo_record hs)

theorem issueGrant_of_held (g : ReadyGrant) (hs : m.re.seg = some sr) (link : m.dp.link = .online)
    (busy : m.dp.grant.state ≠ .none) :
    issueGrant g m = m.withSeg { sr with wait := .held, pieceCut := false, ready := some g } :=
  (if_neg (not_not.2 link)).trans ((if_neg busy).trans (updSeg_eq hs))

theorem sendGrant_eq (g : ReadyGrant) (m : Motion) : sendGrant g m = { m with
    cu := { m.cu with corridor := g.corridor.map fun c => { c with grant := m.dp.nextId } }
    re := { m.re with amountDone := 0 }
    dp := { DrivePort.made (.grant m.dp.nextId g.kind g.amount g.cap) m.dp with
      nextId := if m.dp.nextId = 255 then 1 else m.dp.nextId + 1
      grant := { state := .sent, id := m.dp.nextId, kind := g.kind, amount := g.amount, cap := g.cap
                 miss := 0, settle := 0 } } } := by
  unfold sendGrant
  simp only [makeFrame_eq]
  rfl

theorem issueGrant_of_free (g : ReadyGrant) (hs : m.re.seg = some sr) (link : m.dp.link = .online)
    (free : m.dp.grant.state = .none) : issueGrant g m =
      Motion.withSeg { sr with wait := .grant, pieceCut := false, ready := none } (sendGrant g m) := by
  have seg : (sendGrant g m).re.seg = some sr := by rw [sendGrant_eq]; exact hs
  exact (if_neg (not_not.2 link)).trans ((if_pos free).trans (updSeg_eq seg))

theorem DrivePort.made_txNow (f : DriveFrame) (dp : DrivePort) :
    (dp.txNow = none → (dp.made f).txNow = some f ∧ (dp.made f).txQueue = dp.txQueue) ∧
    (dp.txNow ≠ none → (dp.made f).txNow = dp.txNow ∧ (dp.made f).txQueue = dp.txQueue ++ [f]) := by
  unfold DrivePort.made
  exact ⟨fun idle => by rw [if_pos idle]; exact ⟨rfl, rfl⟩, fun busy => by rw [if_neg busy]; exact ⟨rfl, rfl⟩⟩

theorem DrivePort.made_link (f : DriveFrame) (dp : DrivePort) : (dp.made f).link = dp.link := by
  unfold DrivePort.made
  split <;> rfl

/-- A grant handed over with the record NONE (R121, R124). -/
theorem sent_sendGrant {m0 : Motion} (port : m.dp = m0.dp) (sr : SegRun) (link : m.dp.link = .online)
    (todo : m.re.todo = .none) : m0.Sent (Motion.withSeg sr (sendGrant g m)) g.kind g.amount g.cap := by
  rw [sendGrant_eq]
  refine ⟨?_, ?_, ?_, rfl, ?_, todo⟩
  · rw [← port]; rfl
  · rw [← port]; rfl
  · rw [← port]
    exact DrivePort.made_txNow _ _
  · exact (DrivePort.made_link _ _).trans link

end issue

/-! ## The travel loop (R91 to R95) -/

section travel
variable {env : Env} {m : Motion} {sq : SegRun}

theorem issueTravel_eq (a : Int) (full : Bool) (res : CheckResult) (hs : m.re.seg = some sq) :
    issueTravel a full res m = issueGrant (pieceGrant .travel a res)
      (m.withSeg { sq with phase := .travel, pieceFull := full }) := by
  unfold issueTravel
  rw [updSeg_eq hs]

section judge
variable {res : CheckResult} {a piece small : Int} (sr : SegRun) (hs : m.re.seg = some sq)
  (ha : allowance env res = a) (hp : pieceMax env = piece) (hsmall : small = (env.tun.minPiece * 1000 : Nat))
include hs ha hp hsmall

theorem judgeTravel_of_blocked (blocked : res.blocked.isSome = true) :
    (min a piece ≤ small → judgeTravel env sr res m = takeEffect .blocked res.cell m) ∧
    (small < min a piece → judgeTravel env sr res m = issueGrant (pieceGrant .travel (min a piece) res)
      (m.withSeg { sq with phase := .travel, pieceFull := false })) := by
  unfold judgeTravel
  dsimp only
  rw [if_pos blocked, ha, hp, hsmall]
  exact ⟨fun le => by rw [if_pos ((tooSmall_iff _).2 le), endTry_of_hazard _ _ rfl],
    fun lt => by rw [if_neg (mt (tooSmall_iff _).1 (not_le_of_gt lt)), issueTravel_eq _ _ _ hs]⟩

theorem judgeTravel_of_clear (clear : res.blocked = none)
    (far : (env.tun.stopMargin + env.tun.arriveTolerance) * 1000 < res.d) :
    (min a piece ≤ small ∨ a ≤ piece ∧ 3 ≤ sr.fullDone → judgeTravel env sr res m = takeEffect .short none m) ∧
    (small < a → a ≤ piece → sr.fullDone < 3 → judgeTravel env sr res m = issueGrant (pieceGrant .travel a res)
      (m.withSeg { sq with phase := .travel, pieceFull := true })) ∧
    (small < piece → piece < a → judgeTravel env sr res m = issueGrant (pieceGrant .travel piece res)
      (m.withSeg { sq with phase := .travel, pieceFull := false })) := by
  unfold judgeTravel
  dsimp only
  rw [if_neg (by rw [clear]; decide), if_neg (Nat.not_le.2 far), ha, hp]
  rw [endTry_of_hazard .none m (o := .short) rfl]
  simp only [tooSmall_iff, ← hsmall]
  refine ⟨fun ends => ?_, fun large within few => ?_, fun large over' => ?_⟩
  · obtain le | ⟨within, three⟩ := ends
    · rw [if_pos le]
    · rw [min_eq_left within]
      simp only [if_true, if_pos three, ite_self]
  · rw [min_eq_left within, if_neg (not_le_of_gt large), if_pos rfl, if_neg (Nat.not_le.2 few), issueTravel_eq _ _ _ hs]
  · rw [min_eq_right over'.le, if_neg (not_le_of_gt large), if_neg over'.ne, issueTravel_eq _ _ _ hs]

end judge

theorem judgeTravel_of_reached {res : CheckResult} (sr : SegRun) (clear : res.blocked = none)
    (near : res.d ≤ (env.tun.stopMargin + env.tun.arriveTolerance) * 1000) :
    judgeTravel env sr res m = travelReached env sr m :=
  (if_neg (by rw [clear]; decide)).trans (if_pos near)

section loop
variable {sr : SegRun} {gx gy : Nat} (goal : (gx, gy) = sr.goal m)
include goal

theorem travelLoop_of_near (vet : Option CheckResult)
    (near : distance m.pu.x m.pu.y gx gy ≤ env.tun.arriveTolerance * 1000) :
    travelLoop env vet sr m = travelReached env sr m :=
  if_pos (by unfold goalDistance; rw [← goal]; exact near)

section far
variable (far : env.tun.arriveTolerance * 1000 < distance m.pu.x m.pu.y gx gy)
include far

theorem goalDistance_far : ¬ goalDistance sr m ≤ env.tun.arriveTolerance * 1000 := by
  unfold goalDistance
  rw [← goal]
  exact Nat.not_le.2 far

theorem travelLoop_of_askew (vet : Option CheckResult) (askew : env.tun.alignTolerance <
      (turnTo m.pu.theta (bearing ((gx : Int) - m.pu.x) ((gy : Int) - m.pu.y))).natAbs) : travelLoop env vet sr m =
    beginRotate env .align (bearing ((gx : Int) - m.pu.x) ((gy : Int) - m.pu.y)) sr m := by
  refine (if_neg (goalDistance_far goal far)).trans ?_
  unfold goalBearing
  rw [← goal]
  exact if_pos (by rw [Bool.not_eq_true', Bool.eq_false_iff, ne_eq, aligned_iff]; exact Nat.not_le.2 askew)

variable (straight : (turnTo m.pu.theta (bearing ((gx : Int) - m.pu.x) ((gy : Int) - m.pu.y))).natAbs ≤
  env.tun.alignTolerance)

omit far in
include straight in
theorem goalBearing_aligned : ¬ (!aligned env (turnTo m.pu.theta (goalBearing sr m))) = true := by
  unfold goalBearing
  rw [← goal, (aligned_iff _).2 straight]
  decide

include straight in
theorem travelLoop_of_aligned : travelLoop env none sr m = askLine env .travel sr m :=
  (if_neg (goalDistance_far goal far)).trans (if_neg (goalBearing_aligned goal straight))

include straight in
theorem travelLoop_of_vetted (res : CheckResult) : travelLoop env (some res) sr m = judgeTravel env sr res m :=
  (if_neg (goalDistance_far goal far)).trans (if_neg (goalBearing_aligned goal straight))

end far

end loop

theorem turnReached_eq (sr : SegRun) (hs : m.re.seg = some sq) : turnReached env sr m =
    if sr.seg.kind = .dock then judgeSeek env sr m else m.toArrive sq := by
  unfold turnReached
  cases sr.seg.kind
  case dock => rfl
  all_goals exact endTry_arrived hs

theorem beginTurn_of_aligned {phase : Phase} {wanted : Nat} (sr : SegRun)
    (near : (turnTo m.pu.theta wanted).natAbs ≤ env.tun.alignTolerance) :
    beginTurn env phase wanted sr m = turnReached env sr m := if_pos ((aligned_iff _).2 near)

theorem beginTurn_of_askew {phase : Phase} {wanted : Nat} (sr : SegRun)
    (far : env.tun.alignTolerance < (turnTo m.pu.theta wanted).natAbs) :
    beginTurn env phase wanted sr m = beginRotate env phase wanted sr m :=
  if_neg (mt (aligned_iff _).1 (Nat.not_le.2 far))

theorem travelReached_of_turn {sr : SegRun} {h : Nat} (wants : sr.seg.kind = .line ∧ sr.seg.heading = some h ∨
    sr.seg.kind = .dock ∧ ∃ d, m.du.pose = some d ∧ h = d.theta) :
    travelReached env sr m = beginTurn env .turn h sr m := by
  obtain ⟨line, heading⟩ | ⟨dock, d, pose, rfl⟩ := wants
  · simp only [travelReached, line, heading]
  · simp only [travelReached, dock, pose]

theorem travelReached_of_line {sr : SegRun} (hs : m.re.seg = some sq) (line : sr.seg.kind = .line)
    (free : sr.seg.heading = none) : travelReached env sr m = m.toArrive sq := by
  simp only [travelReached, line, free]
  exact endTry_arrived hs

/-! ## Done (R90, R92, R97) -/

section done
variable {sr : SegRun} (hs : m.re.seg = some sr) (wait : sr.wait = .grant)
include hs wait

theorem pieceDone_turn (h : sr.phase = .align ∨ sr.phase = .turn ∨ sr.phase = .rotate) :
    pieceDone env m = rotateDone env sr (m.withSeg { sr with wait := .nothing }) := by
  unfold pieceDone
  obtain h | h | h := h <;> simp [hs, wait, h, updSeg_eq hs]

theorem pieceDone_travel (h : sr.phase = .travel) : pieceDone env m =
    travelLoop env none
      { sr with fullDone := if sr.pieceFull = true ∧ sr.pieceCut = false then sr.fullDone + 1 else sr.fullDone }
      (m.withSeg { sr with wait := .nothing, fullDone :=
        if sr.pieceFull = true ∧ sr.pieceCut = false then sr.fullDone + 1 else sr.fullDone }) := by
  unfold pieceDone
  simp [hs, wait, h, updSeg_eq hs]
  rfl

theorem pieceDone_reverse (h : sr.phase = .reverse) :
    pieceDone env m = reverseDone env sr (m.withSeg { sr with wait := .nothing }) := by
  simp [pieceDone, hs, wait, h, updSeg_eq hs]

theorem pieceDone_seek (h : sr.phase = .seek) :
    pieceDone env m = judgeSeek env sr (m.withSeg { sr with wait := .nothing }) := by
  simp [pieceDone, hs, wait, h, updSeg_eq hs]

theorem pieceDone_close (h : sr.phase = .close) :
    pieceDone env m = closeDone env sr (m.withSeg { sr with wait := .nothing }) := by
  simp [pieceDone, hs, wait, h, updSeg_eq hs]

theorem pieceDone_mate (h : sr.phase = .mate) :
    pieceDone env m = mateDone env sr (m.withSeg { sr with wait := .nothing }) := by
  simp [pieceDone, hs, wait, h, updSeg_eq hs]

theorem pieceDone_backoff (h : sr.phase = .backoff) :
    pieceDone env m = endBackoff sr (m.withSeg { sr with wait := .nothing }) := by
  simp [pieceDone, hs, wait, h, updSeg_eq hs]

end done

section rotate
variable {sr : SegRun} (hs : m.re.seg = some sq)
include hs

theorem rotateDone_of_aligned (near : (turnTo m.pu.theta sr.rotWanted).natAbs ≤ env.tun.alignTolerance) :
    rotateDone env sr m = if sr.phase = .align then travelLoop env none sr m
      else if sr.seg.kind = .dock then judgeSeek env sr m else m.toArrive sq := by
  unfold rotateDone
  dsimp only
  rw [if_pos ((aligned_iff _).2 near)]
  cases sr.phase
  case align => rfl
  all_goals exact turnReached_eq sr hs

theorem rotateDone_of_askew (far : env.tun.alignTolerance < (turnTo m.pu.theta sr.rotWanted).natAbs) :
    rotateDone env sr m = if 2 ≤ sr.rotCorr then takeEffect .short none m
      else askCheck env (sr.request .rotate .spot sr.seg.speed) (m.withSeg ({ sq with
        rotTurn := turnTo m.pu.theta sr.rotWanted, rotCorr := sr.rotCorr + 1 }.at sr.phase .check)) := by
  unfold rotateDone
  dsimp only
  rw [if_neg (mt (aligned_iff _).1 (Nat.not_le.2 far)), endTry_of_hazard none m (o := .short) rfl, updSeg_eq hs]
  exact congrArg _ (askInPhase_eq _ _ rfl)

theorem reverseDone_eq : reverseDone env sr m =
    if sr.pieceLimited = true ∨ sr.pieceCut = true then takeEffect .blocked sr.pieceCell m
    else if sr.distLeft - m.dp.grant.amount.toNat = 0 then m.toArrive sq
    else askCheck env (sr.request .reverse (.heading (.fixed sr.revHeading)
        (sr.distLeft - m.dp.grant.amount.toNat + env.tun.stopMargin * 1000)) sr.seg.speed)
      (m.withSeg ({ sq with distLeft := sr.distLeft - m.dp.grant.amount.toNat }.at .reverse .check)) := by
  unfold reverseDone
  dsimp only
  rw [endTry_of_hazard sr.pieceCell m (o := .blocked) rfl, endTry_arrived hs, updSeg_eq hs]
  simp only [Bool.or_eq_true]
  exact congrArg _ (congrArg _ (askInPhase_eq _ _ rfl))

end rotate

theorem beamPattern_centre (b : Beacon) : beamPattern b = .centre ↔ b.centre = true := by
  unfold beamPattern
  cases b.centre with
  | true => simp
  | false => cases b.left <;> cases b.right <;> decide

/-- A SEEK judgement (R158). -/
theorem judgeSeek_of_centre (sr : SegRun) (centre : m.du.beacon.centre = true) :
    judgeSeek env sr m = beginClose env sr m := if_pos ((beamPattern_centre _).2 centre)

theorem judgeSeek_of_step {sr : SegRun} (hs : m.re.seg = some sq) (dark : m.du.beacon.centre = false)
    (more : m.du.seekTurn < 65536) : judgeSeek env sr m = askCheck env (sr.request .rotate .spot sr.seg.speed)
      (Motion.withSeg (sq.at .seek .check) { m with du := { m.du with phase := .seek } }) := by
  refine (if_neg (mt (beamPattern_centre _).1 ?_)).trans ((if_pos more).trans ?_)
  · exact Bool.eq_false_iff.1 dark
  · exact askInPhase_eq (m := setDockPhase .seek m) _ _ hs

theorem judgeSeek_of_spent (sr : SegRun) (dark : m.du.beacon.centre = false) (spent : 65536 ≤ m.du.seekTurn) :
    judgeSeek env sr m = takeEffect .dockNotFound none { m with du := { m.du with phase := .seek } } := by
  refine (if_neg (mt (beamPattern_centre _).1 ?_)).trans ((if_neg (Nat.not_lt.2 spent)).trans ?_)
  · exact Bool.eq_false_iff.1 dark
  · exact endTry_of_hazard _ _ rfl

end travel

/-- Settles O42. -/
theorem piecesAreJudged : Obligations.PiecesAreJudged := by
  intro env m sr sq turn rotate hrotate
  subst hrotate
  refine ⟨fun hs => ⟨fun gx gy vet goal hturn => ⟨travelLoop_of_near goal vet, fun far => ⟨fun askew => ?_, fun straight =>
      ⟨?_, fun res a piece small ha hp hsmall => ?_⟩⟩⟩, travelReached_of_line hs, fun h wants hturn => ?_⟩,
    fun hs wait hsq => ?_⟩
  · subst hturn
    rw [travelLoop_of_askew goal far vet askew]
    exact beginRotate_eq _ _ _ hs
  · subst hturn
    rw [travelLoop_of_aligned goal far straight, askLine_eq _ _ hs, ← goal]
  · subst hturn
    rw [travelLoop_of_vetted goal far straight res]
    exact ⟨judgeTravel_of_blocked sr hs ha.symm hp.symm hsmall, fun clear => ⟨judgeTravel_of_reached sr clear,
      judgeTravel_of_clear sr hs ha.symm hp.symm hsmall clear⟩⟩
  · subst hturn
    rw [travelReached_of_turn wants]
    refine ⟨fun near => ?_, fun askew => ?_⟩
    · exact (beginTurn_of_aligned sr near).trans (turnReached_eq sr hs)
    · exact (beginTurn_of_askew sr askew).trans (beginRotate_eq _ _ _ hs)
  · subst hsq
    have seg : (m.withSeg { sr with wait := .nothing }).re.seg = some { sr with wait := .nothing } := rfl
    refine ⟨fun phase hturn => ?_, fun n phase hn => ?_, fun left phase hleft => ?_, fun n phase hn => ?_,
      fun o phase ho => ?_⟩
    · subst hturn
      rw [pieceDone_turn hs wait phase]
      refine ⟨fun near => rotateDone_of_aligned seg near, fun askew spent => ?_, fun askew more => ?_⟩
      · exact (rotateDone_of_askew seg askew).trans (if_pos spent)
      · exact (rotateDone_of_askew seg askew).trans (if_neg (Nat.not_le.2 more))
    · rw [pieceDone_travel hs wait phase, ← hn]
    · rw [pieceDone_reverse hs wait phase, reverseDone_eq seg]
      subst hleft
      refine ⟨fun cut => if_pos cut, fun free whole => ?_⟩
      rw [if_neg (by simp [free, whole])]
      refine ⟨fun done => if_pos done, fun more => (if_neg more).trans ?_⟩
      rw [← phase]
      rfl
    · subst hn
      rw [pieceDone_seek hs wait phase]
      refine ⟨fun centre => judgeSeek_of_centre sr centre, fun dark more => ?_, fun dark spent =>
        judgeSeek_of_spent sr dark spent⟩
      rw [judgeSeek_of_step seg dark more, ← phase]
      rfl
    · rw [pieceDone_backoff hs wait phase, endBackoff_eq ho]

/-! ## A check's result (R57, R91 to R93, R97) -/

theorem CheckResult.cell_of_blocked {r : CheckResult} {k : Nat} {c : BlockCell} (h : r.blocked = some (k, c)) :
    r.cell = some c.held := by
  unfold CheckResult.cell
  rw [h]
  rfl

section results
variable {env : Env} {m : Motion} {sr sq : SegRun} {res : CheckResult}

theorem rotateResult_of_blocked (sr : SegRun) {k : Nat} {c : BlockCell} (h : res.blocked = some (k, c)) :
    rotateResult sr res m = takeEffect .blocked (some c.held) m := by
  unfold rotateResult
  rw [if_pos (by rw [h]; rfl), endTry_of_hazard _ _ rfl, CheckResult.cell_of_blocked h]

theorem rotateResult_of_clear (sr : SegRun) (h : res.blocked = none) :
    rotateResult sr res m = issueGrant (rotateGrant sr.rotTurn res) m := if_neg (by rw [h]; decide)

theorem vetResult_of_blocked (sr : SegRun) {k : Nat} {c : BlockCell} (h : res.blocked = some (k, c))
    (near : min (allowance env res) (pieceMax env) ≤ (env.tun.minPiece * 1000 : Nat)) :
    vetResult env sr res m = takeEffect .blocked (some c.held) m := by
  refine (if_pos ⟨by rw [h]; rfl, (tooSmall_iff _).2 near⟩).trans ?_
  rw [endTry_of_hazard _ _ rfl, CheckResult.cell_of_blocked h]

theorem vetResult_of_far (sr : SegRun)
    (h : res.blocked = none ∨ ((env.tun.minPiece * 1000 : Nat) : Int) < min (allowance env res) (pieceMax env)) :
    vetResult env sr res m = travelLoop env (some res) sr m := by
  refine if_neg ?_
  rintro ⟨blocked, near⟩
  obtain clear | far := h
  · rw [clear] at blocked
    cases blocked
  · exact not_le_of_gt far ((tooSmall_iff _).1 near)

theorem reverseResult_eq (hs : m.re.seg = some sq) (sr : SegRun) (res : CheckResult) : reverseResult env sr res m =
    if min (sr.distLeft : Int) (min (allowance env res) (pieceMax env)) ≤ (env.tun.minPiece * 1000 : Nat) then
      takeEffect .blocked res.cell m
    else issueGrant (pieceGrant .reverse (min (sr.distLeft : Int) (min (allowance env res) (pieceMax env))) res)
      (m.withSeg { sq with pieceLimited := decide (allowance env res < min (sr.distLeft : Int) (pieceMax env))
                           pieceCell := res.cell }) := by
  unfold reverseResult
  dsimp only
  rw [endTry_of_hazard _ _ rfl, updSeg_eq hs]
  simp only [tooSmall_iff]

end results

/-- Settles O40. -/
theorem checkResultsAreJudged : Obligations.CheckResultsAreJudged := by
  intro b s u hu
  subst hu
  refine ⟨fun req sp rest sr sq q res a piece small checks owner finished hs wait hsq hq hres ha hp hsmall => ?_,
    exec_checkResult_of_other⟩
  have seg : (s.setBeacon b).mo.re.seg = some sr := hs
  have seg' : q.re.seg = some sq := by rw [hq, hsq]; rfl
  have blocks : res.blocked = sp.blocked := by rw [hres]; rfl
  have allow : allowance s.env res = a := by rw [hres, ha]; rfl
  have max : pieceMax s.env = piece := hp.symm
  have small' : small = ((s.env.tun.minPiece * 1000 : Nat) : Int) := hsmall
  have ran := exec_checkResult_of_ended (b := b) checks owner finished
  rw [← hres] at ran
  refine ⟨fun kind n => by rw [hres]; rfl, fun phase => ?_, fun phase => ?_, fun phase => ?_, fun n phase hn => ?_,
    fun clear phase todo link free => ?_⟩
  · have judged := checkHanded_turn (env := s.env) (req := req) (sp := sp) (rest := rest) seg wait phase
    rw [← hres, ← hq] at judged
    rw [ran, judged]
    refine ⟨fun k cell blocked => ?_, fun clear => ?_⟩
    · rw [rotateResult_of_blocked sr (blocks.trans blocked)]
      rfl
    · rw [rotateResult_of_clear sr (blocks.trans clear), hres]
      rfl
  · have judged := checkHanded_vet (env := s.env) (req := req) (sp := sp) (rest := rest) seg wait phase
    rw [← hres, ← hq] at judged
    rw [ran, judged]
    refine ⟨fun k cell blocked near => ?_, fun far => ?_⟩
    · rw [vetResult_of_blocked sr (blocks.trans blocked) (by rw [allow, max, ← small']; exact near)]
    · rw [vetResult_of_far sr (by rw [allow, max, blocks, ← small']; exact far)]
  · have judged := checkHanded_travel (env := s.env) (req := req) (sp := sp) (rest := rest) seg wait phase
    rw [← hres, ← hq] at judged
    rw [ran, judged]
    have travels (full : Bool) : { sq with phase := .travel, pieceFull := full } = { sq with pieceFull := full } := by
      rw [hsq, ← phase]
    refine ⟨fun k cell blocked => ?_, fun clear => ⟨fun near => ?_, fun far => ?_⟩⟩
    · obtain ⟨ends, sends⟩ := judgeTravel_of_blocked sr seg' allow max small' (by rw [blocks, blocked]; rfl)
      rw [CheckResult.cell_of_blocked (blocks.trans blocked)] at ends
      rw [travels] at sends
      exact ⟨fun le => by rw [ends le], fun lt => by rw [sends lt]⟩
    · rw [judgeTravel_of_reached sr (blocks.trans clear) (by rw [hres]; exact near)]
    · obtain ⟨ends, full, part⟩ := judgeTravel_of_clear sr seg' allow max small' (blocks.trans clear)
        (by rw [hres]; exact far)
      rw [travels] at full part
      exact ⟨fun h => by rw [ends h], fun h1 h2 h3 => by rw [full h1 h2 h3], fun h1 h2 => by rw [part h1 h2]⟩
  · have judged := checkHanded_reverse (env := s.env) (req := req) (sp := sp) (rest := rest) seg wait phase
    rw [← hres, ← hq, reverseResult_eq seg', allow, max, ← hn, ← small'] at judged
    have cell : res.cell = sp.blocked.map fun k => k.2.held := by rw [hres]; rfl
    rw [ran, judged, cell]
    exact ⟨fun le => by rw [if_pos le], fun lt => by rw [if_neg (not_le_of_gt lt)]⟩
  · have judged := checkHanded_turn (env := s.env) (req := req) (sp := sp) (rest := rest) seg wait phase
    rw [← hres, ← hq, rotateResult_of_clear sr (blocks.trans clear), issueGrant_of_free (g := rotateGrant sr.rotTurn res)
      seg' (by rw [hq]; exact link) (by rw [hq]; exact free)] at judged
    have todo' : q.re.todo = .none := by rw [hq]; exact todo
    have sent := sent_sendGrant (m := q) (m0 := s.mo) (g := rotateGrant sr.rotTurn res) (by rw [hq]; rfl)
      { sq with wait := .grant, pieceCut := false, ready := none } (by rw [hq]; exact link) todo'
    rw [judged, State.runs_of_none _ sent.todo] at ran
    refine ⟨_, ran, ?_, ?_⟩
    · have cap : sp.cap = res.cap := by rw [hres]; rfl
      rw [cap]
      exact sent
    · rw [sendGrant_eq, hq, hsq]
      exact ⟨rfl, rfl, rfl, rfl⟩

end Sys2Proof.Machine
end

section
/-! HELD GRANT RELEASE and DWELL END, and what every grant sent keeps to (sections 5.4, 5.7 and 6.3). -/

namespace Sys2Proof.Machine
open Sys2Proof

section dwell
variable {m : Motion} {sr : SegRun} {s : State}

theorem exec_dwellEnd (s : State) : exec .dwellEnd s = .next (s.runs (endDwell s.mo)) := rfl

theorem exec_heldGrantRelease (s : State) : exec .heldGrantRelease s = .next (s.runs (releaseHeld s.mo)) := rfl

theorem endDwell_of_over (hs : m.re.seg = some sr) (dwell : sr.phase = .dwell) (over' : sr.dwellLeft = 0) :
    endDwell m = { m with re := { m.re with
      seg := some { sr with wait := .nothing }, attempt := m.re.attempt + 1, todo := .startTry } } := by
  unfold endDwell Motion.setTodo
  rw [hs]
  exact if_pos ⟨dwell, over'⟩

theorem endDwell_of_early (hs : m.re.seg = some sr) (early : sr.dwellLeft ≠ 0) : endDwell m = m := by
  unfold endDwell
  rw [hs]
  exact if_neg fun h => early h.2

theorem releaseHeld_of_free {g : ReadyGrant} (hs : m.re.seg = some sr) (wait : sr.wait = .held)
    (ready : sr.ready = some g) (free : m.dp.grant.state = .none) : releaseHeld m = issueGrant g m := by
  simp only [releaseHeld, hs, wait, ready, free, if_true]

theorem releaseHeld_of_busy (hs : m.re.seg = some sr) (busy : m.dp.grant.state ≠ .none) : releaseHeld m = m := by
  unfold releaseHeld
  rw [hs]
  dsimp only
  split
  · exact if_neg busy
  · rfl

theorem runEngine_one {env : Env} (n : Nat) (first : m.re.todo ≠ .none) (rest : (engineMove env m).re.todo = .none) :
    runEngine env (n + 1) m = engineMove env m := by
  rw [runEngine_succ _ _ _ first]
  exact runEngine_of_none env n _ rest

end dwell

/-- Settles O44. -/
theorem heldGrantsAndDwellsGoOn : Obligations.HeldGrantsAndDwellsGoOn := by
  refine ⟨fun g sr m hs => ⟨issueGrant_of_offline g hs, issueGrant_of_held g hs, fun link free => ?_⟩,
    fun sr s hs dwell => ⟨fun over' => ?_, fun early todo => ?_⟩, fun sr s hs todo =>
    ⟨fun g wait ready link => ⟨fun free => ?_, fun busy => ?_⟩, fun dwell line => ⟨fun early => ?_, fun over' none free => ?_⟩⟩⟩
  · rw [issueGrant_of_free g hs link free, sendGrant_eq]
  · rw [exec_dwellEnd, endDwell_of_over hs dwell over']
  · rw [exec_dwellEnd, endDwell_of_early hs early, s.runs_of_none todo]
    rfl
  · have sent := sent_sendGrant (m := s.mo) (g := g) rfl { sr with wait := .grant, pieceCut := false, ready := none }
      link todo
    refine ⟨s.withMotion (Motion.withSeg { sr with wait := .grant, pieceCut := false, ready := none } (sendGrant g s.mo)),
      ?_, sent, ?_⟩
    · rw [exec_heldGrantRelease, releaseHeld_of_free hs wait ready free, issueGrant_of_free g hs link free,
        s.runs_of_none sent.todo]
    · show _ ∧ _ ∧ _
      rw [sendGrant_eq]
      exact ⟨rfl, rfl, rfl⟩
  · rw [exec_heldGrantRelease, releaseHeld_of_busy hs busy, s.runs_of_none todo]
    rfl
  · rw [exec_dwellEnd, endDwell_of_early hs early, s.runs_of_none todo]
    rfl
  · have dwells := exec_dwellEnd s
    rw [endDwell_of_over hs dwell over'] at dwells
    obtain ⟨m, hm⟩ : ∃ m, m = { s.mo with re := { s.mo.re with
      seg := some { sr with wait := .nothing }, attempt := s.mo.re.attempt + 1, todo := .startTry } } := ⟨_, rfl⟩
    rw [← hm] at dwells
    have begin : m.re.todo = .startTry := by rw [hm]
    have seg : m.re.seg = some { sr with wait := .nothing } := by rw [hm]
    have tried : (m.tried { sr with wait := .nothing }).re.seg = some (SegRun.tried m.pu.theta { sr with wait := .nothing }) :=
      rfl
    have move := engineMove_of_line (env := s.env) begin seg line
    rw [askLine_eq _ _ tried, askCheck_of_free (by rw [hm]; exact none) (by unfold State.env; rw [free]; rfl),
      Check.start_engine _ _ rfl] at move
    have ran := runEngine_one (env := s.env) 399 (by rw [begin]; decide) (by rw [move]; rfl)
    have goal : s.runs m = s.withMotion (engineMove s.env m) := congrArg (fun m => s.withMotion m) ran
    rw [goal, move] at dwells
    refine ⟨_, _, _, _, dwells, ?_, rfl, rfl, rfl, rfl, rfl, ?_, ?_, rfl, rfl, rfl, fun x y alt later => ?_,
      fun primary => ?_, ?_⟩
    · rw [hm]; rfl
    · rw [hm]; rfl
    · rw [hm]; rfl
    · refine congrArg (fun p : Nat × Nat => CheckPath.target p.1 p.2)
        (SegRun.goal_of_line (gx := x) (gy := y) line (fun p hp _ => ?_) (fun h => ?_))
      · exact Option.some.inj (alt.symm.trans hp)
      · rw [hm] at h
        obtain absent | early := h
        · exact absurd (alt.symm.trans absent) (by simp)
        · exact absurd later (Nat.not_lt.2 early)
    · refine congrArg (fun p : Nat × Nat => CheckPath.target p.1 p.2)
        (SegRun.goal_of_line (gx := sr.seg.targetX) (gy := sr.seg.targetY) line (fun p hp h => ?_) (fun _ => rfl))
      rw [hm] at h
      obtain absent | early := primary
      · exact absurd (hp.symm.trans absent) (by simp)
      · exact absurd h (Nat.not_lt.2 early)
    · rw [hm]; rfl

/-! ## What makes no grant (R89): with the record NONE the Drive Port stands -/

section port
variable {env : Env} {m : Motion}

theorem endTry_dp (o : SegOutcome) (cell : Option CellIx) : (endTry o cell m).dp = m.dp := by
  unfold endTry
  split
  · rfl
  · exact Motion.takeEffect_dp o cell
  · rfl
  · rfl

theorem askInPhase_dp (phase : Phase) (req : CheckReq) : (askInPhase env phase req m).dp = m.dp := by
  unfold askInPhase
  rw [askCheck_dp]
  rfl

theorem finishDocked_dp : (finishDocked env m).dp = m.dp := by
  unfold finishDocked dockSnap
  cases m.du.pose <;> dsimp only <;> split <;> rfl

theorem enterDocked_dp (free : m.dp.grant.state = .none) : (enterDocked env m).dp = m.dp := by
  have asks : (askStop .cancel (withdrawCheck (m.reachStage 4))).dp = m.dp := by
    rw [askStop_of_closed _ _ (by rw [show (withdrawCheck (m.reachStage 4)).dp = m.dp from rfl, free]; rfl)]
    rfl
  unfold enterDocked
  dsimp only
  split
  · exact finishDocked_dp.trans asks
  · exact asks

theorem judgeSeek_dp (sr : SegRun) : (judgeSeek env sr m).dp = m.dp := by
  unfold judgeSeek
  dsimp only
  split
  · exact askInPhase_dp ..
  · split
    · exact askInPhase_dp ..
    · exact endTry_dp ..

theorem beginTurn_dp (phase : Phase) (wanted : Nat) (sr : SegRun) : (beginTurn env phase wanted sr m).dp = m.dp := by
  unfold beginTurn turnReached
  split
  · split
    · exact judgeSeek_dp sr
    · exact endTry_dp ..
  · exact askInPhase_dp ..

theorem travelReached_dp (sr : SegRun) : (travelReached env sr m).dp = m.dp := by
  unfold travelReached
  split
  · exact beginTurn_dp ..
  · exact judgeSeek_dp sr
  · exact beginTurn_dp ..
  · exact endTry_dp ..

theorem startTry_dp (free : m.dp.grant.state = .none) : (startTry env m).dp = m.dp := by
  unfold startTry beginDock
  split
  · rfl
  · dsimp only
    split
    · exact askInPhase_dp ..
    · exact beginTurn_dp ..
    · exact askInPhase_dp ..
    · split
      · exact enterDocked_dp free
      · exact askInPhase_dp ..

theorem fetchSegment_dp (id : ListId) (e : Entry) : (fetchSegment env id e m).dp = m.dp := by
  unfold fetchSegment
  exact releaseGuard_dp _

theorem engineMove_dp (free : m.dp.grant.state = .none) : (engineMove env m).dp = m.dp := by
  unfold engineMove
  split
  · rfl
  · obtain same | ended | ⟨id, e, -, -, fetched⟩ := Motion.beginSegment_cases env (m.setTodo .none)
    · rw [same]; rfl
    · exact ended.dp
    · rw [fetched]
      exact fetchSegment_dp id e
  · exact startTry_dp (m := m.setTodo .none) free
  · next o cell _ =>
    obtain same | ended := Motion.recordSegment_cases o cell (m.setTodo .none)
    · rw [same]; rfl
    · exact ended.dp

/-- The engine's own moves make no grant. -/
theorem runEngine_dp (n : Nat) {m : Motion} (free : m.dp.grant.state = .none) : (runEngine env n m).dp = m.dp := by
  induction n generalizing m with
  | zero => rfl
  | succ n ih =>
    unfold runEngine
    split
    · rfl
    · have same := engineMove_dp (env := env) free
      exact (ih (by rw [same]; exact free)).trans same

end port

/-! ## What a check's result sends (R62, R89) -/

/-- A result leaves the Drive Port as it stands, or issues one grant: a Rotate, or one that the check allows. -/
def Motion.Sends (env : Env) (res : CheckResult) (m q : Motion) : Prop :=
  q.dp = m.dp ∨ ∃ g p, q = issueGrant g p ∧ p.dp = m.dp ∧ p.re.todo = m.re.todo ∧
    (g.kind = .rotate ∨ ∃ kind n, g = pieceGrant kind n res ∧ n ≤ allowance env res ∧ n ≤ pieceMax env)

section sends
variable {env : Env} {m : Motion} {res : CheckResult} (sr : SegRun)

theorem Motion.Sends.congr {p q : Motion} (port : p.dp = m.dp) (todo : p.re.todo = m.re.todo)
    (h : p.Sends env res q) : m.Sends env res q := by
  unfold Motion.Sends at *
  rw [← port, ← todo]
  exact h

theorem sends_piece {kind : GrantKind} {n : Int} {p : Motion} (port : p.dp = m.dp) (todo : p.re.todo = m.re.todo)
    (allowed : n ≤ allowance env res) (whole : n ≤ pieceMax env) : m.Sends env res (issueGrant (pieceGrant kind n res) p) :=
  .inr ⟨_, p, rfl, port, todo, .inr ⟨kind, n, rfl, allowed, whole⟩⟩

theorem sends_rotate {turn : Int} {p : Motion} (port : p.dp = m.dp) (todo : p.re.todo = m.re.todo) :
    m.Sends env res (issueGrant (rotateGrant turn res) p) := .inr ⟨_, p, rfl, port, todo, .inl rfl⟩

theorem sends_judgeTravel : m.Sends env res (judgeTravel env sr res m) := by
  unfold judgeTravel
  dsimp only
  split
  · split
    · exact .inl (endTry_dp ..)
    · exact sends_piece rfl rfl (min_le_left ..) (min_le_right ..)
  · split
    · exact .inl (travelReached_dp sr)
    · split
      · exact .inl (endTry_dp ..)
      · split
        · split
          · exact .inl (endTry_dp ..)
          · exact sends_piece rfl rfl (min_le_left ..) (min_le_right ..)
        · exact sends_piece rfl rfl (min_le_left ..) (min_le_right ..)

theorem sends_vetResult : m.Sends env res (vetResult env sr res m) := by
  unfold vetResult travelLoop
  split
  · exact .inl (endTry_dp ..)
  · split
    · exact .inl (travelReached_dp sr)
    · split
      · exact .inl (askInPhase_dp ..)
      · exact sends_judgeTravel sr

theorem sends_rotateResult : m.Sends env res (rotateResult sr res m) := by
  unfold rotateResult
  split
  · exact .inl (endTry_dp ..)
  · exact sends_rotate rfl rfl

theorem sends_reverseResult : m.Sends env res (reverseResult env sr res m) := by
  unfold reverseResult
  dsimp only
  split
  · exact .inl (endTry_dp ..)
  · exact sends_piece rfl rfl ((min_le_right ..).trans (min_le_left ..)) ((min_le_right ..).trans (min_le_right ..))

theorem sends_seekResult : m.Sends env res (seekResult env res m) := by
  unfold seekResult
  split
  · exact .inl (endTry_dp ..)
  · exact sends_rotate rfl rfl

theorem sends_issueCreep (full : Nat) : m.Sends env res (issueCreep env full res m) := by
  unfold issueCreep creepAmount
  dsimp only
  split
  · exact .inl (endTry_dp ..)
  · exact sends_piece rfl rfl ((min_le_right ..).trans (min_le_left ..)) ((min_le_right ..).trans (min_le_right ..))

theorem sends_backoffResult : m.Sends env res (backoffResult env sr res m) := by
  unfold backoffResult endBackoff
  split
  · split
    · exact .inl (Motion.takeEffect_dp ..)
    · exact .inl rfl
  · exact sends_piece rfl rfl ((min_le_right ..).trans (min_le_left ..)) ((min_le_right ..).trans (min_le_right ..))

theorem sends_checkHanded : m.Sends env res (checkHanded env res m) := by
  unfold checkHanded
  split
  · exact .inl rfl
  · split
    · exact .inl rfl
    · next sr _ _ =>
      dsimp only
      generalize hq : (m.reachStage 1).updSeg (fun r => { r with wait := .nothing }) = q
      generalize hp : ({ q with re := { q.re with progress := { q.re.progress with
        unknownSeen := q.re.progress.unknownSeen || res.unknownSeen } } } : Motion) = p
      have port : p.dp = m.dp := by rw [← hp, ← hq]; rfl
      have todo : p.re.todo = m.re.todo := by rw [← hp, ← hq]; rfl
      refine Motion.Sends.congr port todo ?_
      split
      · exact sends_vetResult sr
      · exact sends_rotateResult sr
      · exact sends_judgeTravel sr
      · exact sends_rotateResult sr
      · exact sends_rotateResult sr
      · exact sends_reverseResult sr
      · exact sends_seekResult
      · exact sends_issueCreep _
      · exact sends_issueCreep _
      · exact sends_backoffResult sr
      · exact .inl rfl
      · exact .inl rfl
      · exact .inl rfl

/-- Issuing a grant with the record NONE sends it, or, with the link down, leaves the Drive Port. -/
theorem issueGrant_port {g : ReadyGrant} (free : m.dp.grant.state = .none) :
    (m.dp.link ≠ .online → (issueGrant g m).dp = m.dp) ∧
    (m.dp.link = .online → (issueGrant g m).dp = (sendGrant g m).dp ∧ (issueGrant g m).cu = (sendGrant g m).cu ∧
      (issueGrant g m).re.todo = m.re.todo) := by
  refine ⟨fun down => ?_, fun up => ?_⟩
  · rw [show issueGrant g m = m.setTodo (.record .driveLost none) from if_pos down]
    rfl
  · have sends : issueGrant g m = (sendGrant g m).updSeg _ := (if_neg (not_not.2 up)).trans (if_pos free)
    rw [sends]
    exact ⟨rfl, rfl, by rw [sendGrant_eq]; rfl⟩

end sends

/-- Settles O41. -/
theorem grantsFitTheClearCorridor : Obligations.GrantsFitTheClearCorridor := by
  intro b s t free todo ran sent piece
  by_cases h : ∃ req sp rest, s.mo.cu.checks = { req := req, run := some sp } :: rest ∧ sp.finished = true ∧
      req.owner = .engine
  · obtain ⟨req, sp, rest, checks, finished, owner⟩ := h
    rw [exec_checkResult_of_ended checks owner finished] at ran
    obtain rfl := Host.Outcome.next.inj ran
    obtain ⟨m, hm⟩ : ∃ m, m = (s.setBeacon b).mo.dropFront rest := ⟨_, rfl⟩
    have port : m.dp = s.mo.dp := by rw [hm]; rfl
    rw [← hm] at sent piece ⊢
    have still {q : Motion} (same : q.dp = s.mo.dp) : ((s.setBeacon b).runs q).mo.dp.grant.state ≠ .sent := by
      have dp : ((s.setBeacon b).runs q).mo.dp = q.dp := runEngine_dp _ (by rw [same]; exact free)
      rw [dp, same, free]
      decide
    obtain same | ⟨g, p, issued, dp, todo', kind⟩ := sends_checkHanded (env := s.env) (res := sp.result req) (m := m)
    · exact absurd sent (still (same.trans port))
    · have free' : p.dp.grant.state = .none := by rw [dp, port]; exact free
      obtain ⟨down, up⟩ := issueGrant_port (g := g) free'
      rw [issued] at sent piece ⊢
      by_cases link : p.dp.link = .online
      · obtain ⟨dp', cu', rests⟩ := up link
        have done : (s.setBeacon b).runs (issueGrant g p) = (s.setBeacon b).withMotion (issueGrant g p) :=
          State.runs_of_none _ (by rw [rests, todo', hm]; exact todo)
        rw [done] at sent piece ⊢
        simp only [State.withMotion, dp', cu'] at sent piece ⊢
        rw [sendGrant_eq] at sent piece ⊢
        obtain rotate | ⟨kind, n, rfl, allowed, whole⟩ := kind
        · exact absurd rotate piece
        · refine ⟨by rw [← port, ← dp]; exact link, req, sp, rest, _, checks, finished, ?_, whole, rfl, rfl, rfl, rfl, rfl,
            rfl, rfl, rfl, rfl, rfl⟩
          have allowed' : n ≤ (sp.clear : Int) - ((s.tun.stopMargin * 1000 : Nat) : Int) := allowed
          exact Int.add_le_of_le_sub_right allowed'
      · exact absurd sent (still ((down link).trans (dp.trans port)))
  · rw [exec_checkResult_of_other fun req sp rest checks finished owner => h ⟨req, sp, rest, checks, finished, owner⟩] at ran
    obtain rfl := Host.Outcome.next.inj ran
    rw [show (s.setBeacon b).mo.dp = s.mo.dp from rfl, free] at sent
    cases sent

end Sys2Proof.Machine
end

section
/-! The watch's expiry, the faults of a segment and the Lost comparison (sections 5.10, 6.1 and 6.4). -/

namespace Sys2Proof.Machine
open Sys2Proof

/-! ## Faults of a segment (R98, R103, R104) -/

section fault
variable {m : Motion} {sr : SegRun} {o worst : SegOutcome}

theorem driveFailure_of_halted (o : SegOutcome) (none : m.re.seg = none) (halted : m.re.state = .halted) :
    driveFailure o m = m := by
  simp only [driveFailure, none, halted, if_true]

theorem driveFailure_of_none (o : SegOutcome) (none : m.re.seg = none) (live : m.re.state ≠ .halted) :
    driveFailure o m = haltEngine o m := by
  simp only [driveFailure, none, if_neg live]

theorem driveFailure_of_some (o : SegOutcome) (hs : m.re.seg = some sr) : driveFailure o m = faultTry o m := by
  simp only [driveFailure, hs]

theorem withdrawCheck_eq (m : Motion) :
    withdrawCheck m = { m with cu := { m.cu with checks := m.cu.checks.filter fun k => !k.ofEngine } } := rfl

/-- A fault that reaches a segment: the pending one stands, and any other takes its place (R98). -/
theorem faultTry_eq (hs : m.re.seg = some sr) (fresh : sr.faulted = false → worst = o)
    (pending : sr.faulted = true → sr.outcome = some worst) : faultTry o m =
      if m.dp.grant.state = .none then (withdrawCheck m).toRecord worst none sr
      else (withdrawCheck m).withSeg (sr.settling worst none) := by
  have hs' : (withdrawCheck m).re.seg = some sr := hs
  have worst' : (if sr.faulted then sr.outcome.getD o else o) = worst := by
    cases h : sr.faulted with
    | true => rw [if_pos rfl, pending h, Option.getD_some]
    | false => exact (if_neg Bool.false_ne_true).trans (fresh h).symm
  simp only [faultTry, hs, worst', setTodo_record hs', enterSettle, updSeg_eq hs']
  rfl

theorem lostIndication_of_none (hs : m.re.seg = none) : lostIndication m = m := by
  simp only [lostIndication, hs]

theorem lostIndication_of_faulted (hs : m.re.seg = some sr) (fault : sr.faulted = true) : lostIndication m = m := by
  simp [lostIndication, hs, fault]

theorem lostIndication_of_plain (hs : m.re.seg = some sr) (plain : sr.faulted = false) :
    lostIndication m = faultTry .lost (askStop .lost m) := by
  simp [lostIndication, hs, plain]

/-- Once a grant is stopped no check stands that is not the engine's, so none stands once the engine's is withdrawn. -/
theorem filter_filter_not (l : List Check) : (l.filter Check.ofEngine).filter (fun k => !k.ofEngine) = [] := by
  simp [List.filter_filter]

end fault

/-! ## The watch (R115, R131) -/

section watch
variable {m : Motion}

theorem DrivePort.made_lost (f : DriveFrame) (dp : DrivePort) :
    DrivePort.made f { dp with link := .silent, watch := none } = { dp.made f with link := .silent, watch := none } := by
  unfold DrivePort.made
  split <;> rfl

theorem DrivePort.made_filter (id : Nat) (reason : StopReason) (k : Nat) (dp : DrivePort) :
    (DrivePort.made (.stop id reason) { dp with txQueue := dp.txQueue.filter fun f => !f.trims k }).txQueue.filter
      (fun f => !f.trims k) =
    (DrivePort.made (.stop id reason) { dp with txQueue := dp.txQueue.filter fun f => !f.trims k }).txQueue := by
  unfold DrivePort.made
  split <;> simp [DriveFrame.trims]

/-- The Drive Port with the waiting Trims of its grant removed and, unless the grant is STOPPING, its Stop made. -/
def DrivePort.dropped (dp : DrivePort) : DrivePort :=
  if dp.grant.state = .stopping then { dp with txQueue := dp.txQueue.filter fun f => !f.trims dp.grant.id }
  else DrivePort.made (.stop dp.grant.id .fault) { dp with txQueue := dp.txQueue.filter fun f => !f.trims dp.grant.id }

theorem DrivePort.grant_made (f : DriveFrame) (dp : DrivePort) : (dp.made f).grant = dp.grant := by
  unfold DrivePort.made
  split <;> rfl

theorem dropGrant_eq (m : Motion) : dropGrant m = { m with
    dp := { m.dp.dropped with grant := { m.dp.grant with state := .none } }
    cu := { checks := m.cu.checks.filter Check.ofEngine, corridor := none } } := by
  unfold dropGrant DrivePort.dropped
  dsimp only
  split
  · rfl
  · have queue := DrivePort.made_filter m.dp.grant.id .fault m.dp.grant.id m.dp
    rw [makeFrame_eq]
    unfold endGrant dropCorridor setGrantState dropTrims
    dsimp only
    rw [DrivePort.grant_made]
    dsimp only
    rw [queue]

end watch

section expiry
variable {s : State}

/-- The motion blocks as the watch's expiry under a grant leaves them (R115, R131). -/
def Motion.silenced (m : Motion) : Motion :=
  { m with
    dp := { m.dp.dropped with link := .silent, watch := none, grant := { m.dp.grant with state := .none } }
    cu := { checks := m.cu.checks.filter Check.ofEngine, corridor := none }
    pu := { m.pu with base := { m.pu.base with held := false } }
    eu := m.eu.raise .driveSilent }

theorem dropGrant_silent (m : Motion) : dropGrant ((loseLink .silent m).raise .driveSilent) = m.silenced := by
  have dropped : ((loseLink .silent m).raise .driveSilent).dp.dropped =
      { m.dp.dropped with link := .silent, watch := none } := by
    unfold DrivePort.dropped
    show (if m.dp.grant.state = .stopping then _ else _) = _
    split
    · rfl
    · exact (DrivePort.made_lost (.stop m.dp.grant.id .fault)
        { m.dp with txQueue := m.dp.txQueue.filter fun f => !f.trims m.dp.grant.id } :)
  rw [dropGrant_eq, dropped]
  rfl

theorem exec_driveWatchExpiry (s : State) : exec .driveWatchExpiry s = .next s.watchExpiry := rfl

theorem watchExpiry_of_early (early : s.mo.dp.watch ≠ some 0) : s.watchExpiry = s := if_neg early

theorem watchExpiry_of_free (due : s.mo.dp.watch = some 0) (free : s.mo.dp.grant.state = .none) :
    s.watchExpiry = s.withMotion ((loseLink .silent s.mo).raise .driveSilent) :=
  (if_pos due).trans (if_neg (by rw [free]; decide))

theorem watchExpiry_of_grant (due : s.mo.dp.watch = some 0) (busy : s.mo.dp.grant.state ≠ .none) :
    s.watchExpiry = s.runs (driveFailure .driveLost s.mo.silenced) := by
  rw [← dropGrant_silent]
  exact (if_pos due).trans (if_pos ((GrantState.outstanding_iff _).2 busy))

theorem lostTest_of_known (h : s.mo.pu.u < s.tun.lostLimit) : s.lostTest = s := if_neg (Nat.not_le.2 h)

theorem lostTest_of_lost (h : s.tun.lostLimit ≤ s.mo.pu.u) : s.lostTest = s.runs (lostIndication s.mo) := if_pos h

end expiry

/-- A segment to be recorded with a fault ends in a halt of that cause (R105, R107). -/
theorem runEngine_of_fault {env : Env} {m : Motion} {sr : SegRun} {id : ListId} {e : Entry} {o : SegOutcome}
    {cell : Option CellIx} (todo : m.re.todo = .record o cell) (hs : m.re.seg = some sr) (active : m.re.active = some id)
    (entry : (m.re.list id).entries[(m.re.list id).position]? = some e) (fault : o.cls = .fault) :
    runEngine env Config.engineMoves m = haltEngine o ((m.setTodo .none).recorded o cell sr id e) := by
  have move := (engineMove_of_record (env := env) todo hs active entry (by rw [fault]; decide)).trans (goOn_of_fault fault)
  rw [← move]
  exact runEngine_one 399 (by rw [todo]; nofun) (by rw [move]; rfl)

theorem DrivePort.dropped_tx (dp : DrivePort) (waiting : List DriveFrame)
    (h : waiting = dp.txQueue.filter fun f => !f.trims dp.grant.id) :
    (dp.grant.state = .stopping → dp.dropped.txNow = dp.txNow ∧ dp.dropped.txQueue = waiting) ∧
    (dp.grant.state ≠ .stopping →
      (dp.txNow = none → dp.dropped.txNow = some (.stop dp.grant.id .fault) ∧ dp.dropped.txQueue = waiting) ∧
      ∀ f, dp.txNow = some f → dp.dropped.txNow = some f ∧ dp.dropped.txQueue = waiting ++ [.stop dp.grant.id .fault]) := by
  subst h
  unfold DrivePort.dropped
  refine ⟨fun stopping => by rw [if_pos stopping]; exact ⟨rfl, rfl⟩, fun isOpen => ?_⟩
  rw [if_neg isOpen]
  obtain ⟨idle, busy⟩ := DrivePort.made_txNow (.stop dp.grant.id .fault)
    { dp with txQueue := dp.txQueue.filter fun f => !f.trims dp.grant.id }
  refine ⟨idle, fun f sending => ?_⟩
  obtain ⟨now, queue⟩ := busy (by rw [sending]; nofun)
  exact ⟨now.trans sending, queue⟩

/-- A segment of a grant dropped on the watch's expiry is to be recorded (R131). -/
theorem driveFailure_silenced {m : Motion} {sr : SegRun} {worst : SegOutcome} (hs : m.re.seg = some sr)
    (fresh : sr.faulted = false → worst = .driveLost) (pending : sr.faulted = true → sr.outcome = some worst) :
    driveFailure .driveLost m.silenced =
      Motion.toRecord worst none sr { m.silenced with cu := { checks := [], corridor := none } } := by
  have seg : m.silenced.re.seg = some sr := hs
  rw [driveFailure_of_some _ seg, faultTry_eq seg fresh pending]
  refine (if_pos rfl).trans ?_
  rw [withdrawCheck_eq]
  exact congrArg (fun l => Motion.toRecord worst none sr { m.silenced with cu := { checks := l, corridor := none } })
    (filter_filter_not m.cu.checks)

section expired
variable {s : State} {sr : SegRun} {id : ListId} {e : Entry}

/-- The motion whose watch is down under a grant, its segment to be recorded DriveLost. -/
def Motion.expiring (sr : SegRun) (m : Motion) : Motion :=
  Motion.toRecord .driveLost none sr { m.silenced with cu := { checks := [], corridor := none } }

/-- The descriptor of the segment that the expiry ends. -/
def Motion.expiredDesc (sr : SegRun) (e : Entry) (m : Motion) : Descriptor :=
  recordedDesc .driveLost none { sr with wait := .nothing } ((m.expiring sr).setTodo .none) e.desc

/-- The motion once the segment that the expiry ends is recorded, before the halt. -/
def Motion.expired (sr : SegRun) (id : ListId) (e : Entry) (m : Motion) : Motion :=
  ((m.expiring sr).setTodo .none).recorded .driveLost none { sr with wait := .nothing } id e

theorem Motion.expiring_list (sr : SegRun) (id : ListId) (m : Motion) : (m.expiring sr).re.list id = m.re.list id := by
  cases id <;> rfl

theorem Motion.expired_dp (sr : SegRun) (id : ListId) (e : Entry) (m : Motion) : (m.expired sr id e).dp = m.silenced.dp := rfl

theorem Motion.expired_active (sr : SegRun) (id : ListId) (e : Entry) (m : Motion) :
    (m.expired sr id e).re.active = m.re.active := by cases id <;> rfl

theorem Motion.expired_list (sr : SegRun) (id : ListId) (e : Entry) (m : Motion) :
    (m.expired sr id e).re.list id = { m.re.list id with
      entries := (m.re.list id).entries.set (m.re.list id).position { e with desc := m.expiredDesc sr e } } := by
  cases id <;> rfl

theorem Motion.expired_silent (sr : SegRun) (id : ListId) (e : Entry) (m : Motion) :
    (m.expired sr id e).eu.flagged .driveSilent = true := by
  have raised : m.silenced.eu.flagged .driveSilent = true := EventUnit.flagged_raise_same _ _
  have eu : (m.expired sr id e).eu = if sr.seg.notify then m.silenced.eu.raise .segmentDone else m.silenced.eu := rfl
  rw [eu]
  split
  · exact EventUnit.flagged_raise_of_flagged _ _ _ raised
  · exact raised

theorem haltEngine_list (o : SegOutcome) (id : ListId) (m : Motion) : (haltEngine o m).re.list id = m.re.list id := by
  cases id <;> rfl

/-- The expiry under a grant of a segment with no outcome pending: recorded DriveLost, the engine halts (R90, R115). -/
theorem watchExpiry_of_plain (due : s.mo.dp.watch = some 0) (busy : s.mo.dp.grant.state ≠ .none)
    (hs : s.mo.re.seg = some sr) (plain : sr.outcome = none) (active : s.mo.re.active = some id)
    (entry : (s.mo.re.list id).entries[(s.mo.re.list id).position]? = some e) :
    s.watchExpiry = s.withMotion (haltEngine .driveLost (s.mo.expired sr id e)) := by
  have fresh : sr.faulted = false := by simp only [SegRun.faulted, plain]
  have ran := runEngine_of_fault (env := s.env) (m := s.mo.expiring sr) (o := .driveLost) (cell := none)
    (sr := { sr with wait := .nothing }) (id := id) (e := e) rfl rfl active (by rw [Motion.expiring_list]; exact entry) rfl
  rw [watchExpiry_of_grant due busy, driveFailure_silenced (worst := .driveLost) hs (fun _ => rfl) (by rw [fresh]; nofun)]
  exact congrArg s.withMotion ran

end expired

/-- Settles O46. -/
theorem driveWatchDropsTheGrant : Obligations.DriveWatchDropsTheGrant := by
  refine ⟨fun o worst m q hq => ⟨driveFailure_of_halted o, driveFailure_of_none o, fun sr hs fresh pending => ?_⟩,
    fun s todo => ⟨fun h => ?_, fun sr q lost hs hq => ⟨fun fault => ?_, fun plain => ⟨fun free => ?_, fun stopping => ?_,
      fun isOpen => ?_⟩⟩⟩, fun s => ⟨fun early => ?_, fun due free => ?_, fun due busy m waiting dp hw hdp hm => ?_,
      fun due busy todo sr id e hs plain active entry => ?_⟩⟩
  · rw [driveFailure_of_some o hs, faultTry_eq hs fresh pending, withdrawCheck_eq, ← hq]
    exact ⟨fun free => if_pos free, fun busy => if_neg busy⟩
  · obtain known | none := h
    · exact lostTest_of_known known
    · rcases Nat.lt_or_ge s.mo.pu.u s.tun.lostLimit with known | lost
      · exact lostTest_of_known known
      · rw [lostTest_of_lost lost, lostIndication_of_none none, s.runs_of_none todo]
        rfl
  · rw [lostTest_of_lost lost, lostIndication_of_faulted hs fault, s.runs_of_none todo]
    rfl
  · rw [lostTest_of_lost lost, lostIndication_of_plain hs plain, askStop_of_closed _ _ (by rw [free]; rfl),
      faultTry_eq (worst := .lost) hs (fun _ => rfl) (by rw [plain]; nofun), if_pos free, withdrawCheck_eq, ← hq]
  · rw [lostTest_of_lost lost, lostIndication_of_plain hs plain, askStop_of_closed _ _ (by rw [stopping]; rfl),
      faultTry_eq (worst := .lost) hs (fun _ => rfl) (by rw [plain]; nofun), if_neg (by rw [stopping]; decide),
      withdrawCheck_eq, ← hq, s.runs_of_none (by rw [hq]; exact todo)]
  · rw [lostTest_of_lost lost, lostIndication_of_plain hs plain, askStop_eq _ ((GrantState.openTo_iff _).2 isOpen),
      faultTry_eq (m := Motion.stopped .lost s.mo) (worst := .lost) hs (fun _ => rfl) (by rw [plain]; nofun)]
    rw [if_neg (show (Motion.stopped .lost s.mo).dp.grant.state ≠ .none from nofun), s.runs_of_none (by exact todo),
      withdrawCheck_eq]
    exact congrArg (fun l => s.withMotion { (Motion.stopped .lost s.mo).withSeg (sr.settling .lost none) with
      cu := { checks := l, corridor := none } }) (filter_filter_not s.mo.cu.checks)
  · rw [exec_driveWatchExpiry, watchExpiry_of_early early]
  · rw [exec_driveWatchExpiry, watchExpiry_of_free due free]
    rfl
  · have silent : m = s.mo.silenced := by
      rw [hm, hdp, hw]
      rfl
    rw [exec_driveWatchExpiry, watchExpiry_of_grant due busy, silent]
    refine ⟨fun none live => ?_, fun none halted todo => ?_, fun sr worst hs fresh pending => ?_⟩
    · rw [driveFailure_of_none (m := s.mo.silenced) _ none live, s.runs_of_none rfl]
    · rw [driveFailure_of_halted (m := s.mo.silenced) _ none halted, s.runs_of_none (by exact todo)]
    · rw [driveFailure_silenced hs fresh pending]
  · have final := watchExpiry_of_plain (e := e) due busy hs plain active entry
    obtain ⟨r, hr⟩ : ∃ r, r = s.mo.expired sr id e := ⟨_, rfl⟩
    have dp : r.dp = s.mo.silenced.dp := by rw [hr, Motion.expired_dp]
    have list : (haltEngine .driveLost r).re.list id = { s.mo.re.list id with
        entries := (s.mo.re.list id).entries.set (s.mo.re.list id).position { e with desc := s.mo.expiredDesc sr e } } := by
      rw [haltEngine_list, hr, Motion.expired_list]
    rw [exec_driveWatchExpiry, final, ← hr]
    refine ⟨_, s.mo.expiredDesc sr e, rfl, congrArg (·.link) dp, congrArg (·.watch) dp, ?_, congrArg (·.grant.state) dp, ?_,
      rfl, ?_, rfl, rfl, EventUnit.flagged_raise_of_flagged _ _ _ ?_, EventUnit.flagged_raise_same _ _,
      congrArg (·.position) list, congrArg (·.entries) list, rfl, ?_, rfl⟩
    · rw [hr]; rfl
    · rw [hr]; rfl
    · rw [hr]
      exact (Motion.expired_active sr id e s.mo).trans active
    · rw [hr]
      exact Motion.expired_silent sr id e s.mo
    · show ∀ waiting, _ → (_ → r.dp.txNow = _ ∧ r.dp.txQueue = _) ∧ (_ → (_ → r.dp.txNow = _ ∧ r.dp.txQueue = _) ∧
        ∀ f, _ → r.dp.txNow = _ ∧ r.dp.txQueue = _)
      rw [dp]
      exact s.mo.dp.dropped_tx

end Sys2Proof.Machine
end

section
/-! What a trip does (section 7.4). -/

namespace Sys2Proof.Machine
open Sys2Proof

/-! ## A trip (R141 to R146) -/

section trip
variable {s : State} {o : SegOutcome} {mark : Option SensedMark}

theorem State.trip_of_off (off : s.mo.hg.state = .off) : s.trip o mark = s := if_pos off

theorem State.trip_of_on (on : s.mo.hg.state ≠ .off) : s.trip o mark =
    (((s.tripStop).markIf mark).runs (tripReported o ((s.tripStop).markIf mark).mo)).withMotion
      ((((s.tripStop).markIf mark).runs (tripReported o ((s.tripStop).markIf mark).mo)).mo.raise .hazardTrip) := if_neg on

theorem State.tripStop_of_tripped (h : s.mo.hg.state = .tripped) : s.tripStop = s := by
  simp only [State.tripStop, h]

theorem State.tripStop_of_armed (h : s.mo.hg.state = .armed) :
    s.tripStop = s.withMotion (askStop .hazard s.mo.tripped) := by
  simp only [State.tripStop, h]
  rfl

end trip

/-! ## What a trip tells the Route Engine (R143) -/

section reported
variable {m : Motion} {sr : SegRun} {o : SegOutcome}

theorem tripReported_of_none (hs : m.re.seg = none) : tripReported o m = m := by
  simp only [tripReported, hs]

section phases
variable (hs : m.re.seg = some sr)
include hs

theorem tripReported_of_standing (h : sr.phase = .docked ∨ sr.phase = .settle ∧ sr.faulted = true) :
    tripReported o m = m.tripNoted := by
  obtain h | ⟨h, fault⟩ := h
  · simp only [tripReported, hs, h]
    rw [← hs]
    rfl
  · simp only [tripReported, hs, h, fault, if_true]
    rw [← hs]
    rfl

theorem tripReported_of_settle (h : sr.phase = .settle) (plain : sr.faulted = false) : tripReported o m =
    m.tripNoted.withSeg { sr with outcome := some o, cell := none, inBackoff := false } := by
  have settles : m.tripNoted.updSeg (fun r => { r with outcome := some o, cell := none, inBackoff := false }) =
      m.tripNoted.withSeg { sr with outcome := some o, cell := none, inBackoff := false } := updSeg_eq hs
  rw [← settles]
  simp only [tripReported, hs, h, plain, Bool.false_eq_true, if_false]
  rw [← hs]
  rfl

theorem tripReported_of_backoff (h : sr.phase = .backoff) :
    tripReported o m = driveFailure .guardInBackoff (askStop .hazard m.tripNoted) := by
  rw [driveFailure_of_some (sr := sr) _ (by rw [askStop_re]; exact hs)]
  simp only [tripReported, hs, h]
  rw [← hs]
  rfl

theorem tripReported_of_try (docked : sr.phase ≠ .docked) (settle : sr.phase ≠ .settle) (backoff : sr.phase ≠ .backoff) :
    tripReported o m = if sr.wait = .grant then (askStop .hazard m.tripNoted).withSeg (sr.settling o none)
      else m.tripNoted.released := by
  have stays : (askStop .hazard m.tripNoted).re.seg = some sr := by rw [askStop_re]; exact hs
  have settles : enterSettle o none (askStop .hazard m.tripNoted) =
      (askStop .hazard m.tripNoted).withSeg (sr.settling o none) := updSeg_eq stays
  rw [← settles, ← releaseGuard_eq]
  simp only [tripReported, hs]
  rw [← hs]
  cases h : sr.phase
  case docked => exact absurd h docked
  case settle => exact absurd h settle
  case backoff => exact absurd h backoff
  all_goals rfl

end phases
end reported

/-- Settles O51. -/
theorem tripsByPhase : Obligations.TripsByPhase := by
  intro o mark s q u grant hgrant
  subst hgrant
  refine ⟨State.trip_of_off, fun on todo tripped stops latches hu => ?_⟩
  have stop : s.tripStop = q := by
    cases h : s.mo.hg.state with
    | off => exact absurd h on
    | tripped => rw [State.tripStop_of_tripped h, tripped h]
    | armed =>
      rw [State.tripStop_of_armed h]
      cases isOpen : s.mo.dp.grant.state.openTo with
      | true => rw [stops h ((GrantState.openTo_iff _).1 isOpen), askStop_eq (m := s.mo.tripped) _ isOpen]
      | false => rw [latches h ((GrantState.not_openTo_iff _).1 isOpen), askStop_of_closed _ s.mo.tripped isOpen]
  have marked : u = q.markIf mark := by
    rw [hu]
    cases mark <;> rfl
  have re : u.mo.re = s.mo.re := by
    rw [marked, ← stop, State.markIf_frame]
    show s.tripStop.mo.re = s.mo.re
    unfold State.tripStop
    split
    · exact askStop_re _ _
    · rfl
    · rfl
  have todo' : u.mo.re.todo = .none := by rw [re, todo]
  refine ⟨u.runs (tripReported o u.mo), ?_, fun none => ?_, fun sr m hs hm => ?_⟩
  · rw [State.trip_of_on on, stop, ← marked]
  · rw [tripReported_of_none (by rw [re]; exact none), u.runs_of_none todo']
    rfl
  · have seg : u.mo.re.seg = some sr := by rw [re, hs]
    have noted : u.mo.tripNoted = m := hm.symm
    have seg' : m.re.seg = some sr := by rw [hm]; exact seg
    have rests : m.re.todo = .none := by rw [hm]; exact todo'
    have stopped (isOpen : m.dp.grant.state = .sent ∨ m.dp.grant.state = .active) :
        askStop .hazard m = m.stopped .hazard := askStop_eq _ ((GrantState.openTo_iff _).2 isOpen)
    have shut (closed : m.dp.grant.state = .none ∨ m.dp.grant.state = .stopping) : askStop .hazard m = m :=
      askStop_of_closed _ _ ((GrantState.not_openTo_iff _).2 closed)
    refine ⟨fun stands => ?_, fun settle plain => ?_, fun backoff => ?_, fun docked settle backoff => ⟨fun wait => ?_,
      fun wait => ?_⟩⟩
    · rw [tripReported_of_standing seg stands, noted, u.runs_of_none rests]
    · rw [tripReported_of_settle seg settle plain, noted, u.runs_of_none (by exact rests)]
    · rw [tripReported_of_backoff seg backoff, noted]
      exact ⟨fun isOpen => by rw [stopped isOpen], fun closed => by rw [shut closed]⟩
    · rw [tripReported_of_try seg docked settle backoff, noted, if_pos wait]
      refine ⟨fun isOpen => ?_, fun closed => ?_⟩
      · rw [stopped isOpen, u.runs_of_none (by exact rests)]
      · rw [shut closed, u.runs_of_none (by exact rests)]
    · rw [tripReported_of_try seg docked settle backoff, noted, if_neg wait, u.runs_of_none (by exact rests)]

end Sys2Proof.Machine
end

section
/-! CLIFF SAMPLE, LINE SAMPLE and BUMP WINDOW TIMEOUT (sections 7.1 to 7.3). -/

namespace Sys2Proof.Machine
open Sys2Proof

/-! ## What a trip keeps (R143) -/

section keeps
variable {env : Env} {m : Motion} {o : SegOutcome} {cell : Option CellIx}

theorem writeRecord_pu_hg : (writeRecord o cell m).pu = m.pu ∧ (writeRecord o cell m).hg = m.hg := by
  unfold writeRecord
  split
  · dsimp only
    split <;> exact ⟨rfl, rfl⟩
  · exact ⟨rfl, rfl⟩

theorem advance_of_fault {id : ListId} (fault : o.cls = .fault) : advance id o m = m :=
  if_neg (by rw [fault]; decide)

/-- A fault's recording halts the engine, and the pose and the guard stand (R105). -/
theorem runEngine_fault_keeps (todo : m.re.todo = .record o cell) (fault : o.cls = .fault) :
    (runEngine env Config.engineMoves m).pu = m.pu ∧ (runEngine env Config.engineMoves m).hg = m.hg := by
  have move : engineMove env m = recordSegment o cell (m.setTodo .none) := by
    unfold engineMove
    rw [todo]
  have recorded : (recordSegment o cell (m.setTodo .none)).re.todo = .none ∧
      (recordSegment o cell (m.setTodo .none)).pu = m.pu ∧ (recordSegment o cell (m.setTodo .none)).hg = m.hg := by
    unfold recordSegment
    split
    · rw [goOn_of_fault fault, advance_of_fault fault]
      exact ⟨rfl, writeRecord_pu_hg.1, writeRecord_pu_hg.2⟩
    · exact ⟨rfl, rfl, rfl⟩
  obtain ⟨rests, pu, hg⟩ := recorded
  have ran : runEngine env Config.engineMoves m = engineMove env m :=
    runEngine_one 399 (by rw [todo]; nofun) (by rw [move]; exact rests)
  rw [ran, move]
  exact ⟨pu, hg⟩

/-- The pose stands, and the guard but for its state. -/
def Motion.Kept (m q : Motion) : Prop := q.pu = m.pu ∧ ∃ st, q.hg = { m.hg with state := st }

theorem Motion.Kept.rfl' : m.Kept m := ⟨rfl, m.hg.state, rfl⟩

theorem kept_askStop (reason : StopReason) : m.Kept (askStop reason m) :=
  ⟨askStop_pu _ _, m.hg.state, askStop_hg _ _⟩

theorem kept_faultTry {sr : SegRun} (hs : m.re.seg = some sr) (todo : m.re.todo = .none) (fault : o.cls = .fault) :
    m.Kept (runEngine env Config.engineMoves (faultTry o m)) := by
  obtain ⟨worst, hworst, fresh, pending⟩ : ∃ worst : SegOutcome, worst.cls = .fault ∧
      (sr.faulted = false → worst = o) ∧ (sr.faulted = true → sr.outcome = some worst) := by
    cases ho : sr.outcome with
    | none => exact ⟨o, fault, fun _ => rfl, fun h => by simp [SegRun.faulted, ho] at h⟩
    | some p =>
      have faulted : sr.faulted = decide (p.cls = .fault) := by simp only [SegRun.faulted, ho]
      by_cases hp : p.cls = .fault
      · exact ⟨p, hp, fun h => by simp [faulted, hp] at h, fun _ => rfl⟩
      · exact ⟨o, fault, fun _ => rfl, fun h => by simp [faulted, hp] at h⟩
  rw [faultTry_eq hs fresh pending]
  split
  · obtain ⟨pu, hg⟩ := runEngine_fault_keeps (env := env)
      (m := (withdrawCheck m).toRecord worst none sr) rfl hworst
    exact ⟨pu, m.hg.state, hg⟩
  · rw [runEngine_of_none _ _ _ (by exact todo)]
    exact ⟨rfl, m.hg.state, rfl⟩

/-- What a trip tells the engine leaves the pose, and the guard but for its state (R143). -/
theorem kept_tripReported (todo : m.re.todo = .none) :
    m.Kept (runEngine env Config.engineMoves (tripReported o m)) := by
  obtain ⟨-, same⟩ | ⟨sr, hs, ⟨-, same⟩ | ⟨-, same⟩ | ⟨-, same⟩ | ⟨-, same⟩ | ⟨-, same⟩⟩ :=
    Motion.tripReported_cases o m <;> rw [same]
  · rw [runEngine_of_none _ _ _ todo]
    exact .rfl'
  · rw [runEngine_of_none _ _ _ (by exact todo)]
    exact .rfl'
  · rw [runEngine_of_none _ _ _ (by exact todo)]
    exact .rfl'
  · obtain ⟨pu, st, hg⟩ := kept_faultTry (env := env) (m := askStop .hazard m.tripNoted) (sr := sr) (o := .guardInBackoff)
      (by rw [askStop_re]; exact hs) (by rw [askStop_re]; exact todo) rfl
    rw [askStop_pu] at pu
    rw [askStop_hg] at hg
    exact ⟨pu, st, hg⟩
  · have rests : (enterSettle o none (askStop .hazard m.tripNoted)).re.todo = .none := by
      show (askStop .hazard m.tripNoted).re.todo = .none
      rw [askStop_re]
      exact todo
    rw [runEngine_of_none _ _ _ rests]
    exact kept_askStop (m := m.tripNoted) .hazard
  · rw [releaseGuard_eq, runEngine_of_none _ _ _ (by exact todo)]
    exact ⟨rfl, _, rfl⟩

end keeps

/-! ## A trip's mark (R141, R142) -/

section mark
variable {s : State} {o : SegOutcome} {mark : Option SensedMark}

theorem State.tripStop_re (s : State) : s.tripStop.mo.re = s.mo.re := by
  unfold State.tripStop
  split
  · exact askStop_re _ _
  · rfl
  · rfl

theorem State.tripStop_kept (s : State) : s.mo.Kept s.tripStop.mo ∧ s.tripStop.fm = s.fm := by
  unfold State.tripStop
  split
  · obtain ⟨pu, st, hg⟩ := kept_askStop (m := s.mo.tripped) .hazard
    exact ⟨⟨pu, st, hg⟩, rfl⟩
  · exact ⟨.rfl', rfl⟩
  · exact ⟨.rfl', rfl⟩

theorem Motion.Kept.trans {m p q : Motion} (h : m.Kept p) (k : p.Kept q) : m.Kept q := by
  obtain ⟨pu, st, hg⟩ := h
  obtain ⟨pu', st', hg'⟩ := k
  exact ⟨pu'.trans pu, st', by rw [hg', hg]⟩

/-- A trip leaves the pose, and the guard but for its state; the Floor Map is as its mark leaves it. -/
theorem State.trip_kept (on : s.mo.hg.state ≠ .off) (todo : s.mo.re.todo = .none) :
    s.mo.Kept (s.trip o mark).mo ∧ (s.trip o mark).fm = (s.tripStop.markIf mark).fm ∧
    (s.trip o mark).mo.eu.flagged .hazardTrip = true := by
  have re : (s.tripStop.markIf mark).mo.re = s.mo.re := by
    rw [State.markIf_frame]
    exact s.tripStop_re
  have marks : s.tripStop.mo.Kept (s.tripStop.markIf mark).mo := by
    rw [State.markIf_frame]
    exact .rfl'
  rw [State.trip_of_on on]
  exact ⟨(s.tripStop_kept.1.trans marks).trans (kept_tripReported (by rw [re]; exact todo)), rfl,
    EventUnit.flagged_raise_same _ _⟩

theorem State.sensedMark_cells (k : SensedMark) (s : State) :
    (s.sensedMark k).fm.cells = (s.fm.putCell k.cell ((s.fm.cellAt k.cell).marked k.cause)).cells := by
  rw [State.sensedMark_eq, State.handChange_frame]
  show (s.noteMark k).fm.cells = _
  rw [State.noteMark_frame]

theorem CellRec.sensedCliff_of_isCliff {cause : MarkCause} (h : cause.isCliff = true) (r : CellRec) :
    (r.marked cause).sensedCliff = true := by
  unfold CellRec.marked CellRec.cliffMark
  rw [if_pos h]
  split
  · assumption
  · rfl

/-- A trip's Cliff mark makes its cell Cliff with origin Sensed (R5). -/
theorem State.trip_marks {k : SensedMark} (on : s.mo.hg.state ≠ .off) (todo : s.mo.re.todo = .none)
    (wf : Memory.wf CellRec.swept s.fm.cells) (cliff : k.cause.isCliff = true) :
    ((s.trip o (some k)).fm.cellAt k.cell).sensedCliff = true := by
  have fm := s.tripStop_kept.2
  rw [(State.trip_kept on todo).2.1]
  have put : Memory.read CellRec.swept (s.fm.putCell k.cell ((s.fm.cellAt k.cell).marked k.cause)).cells k.cell.addr =
      (s.fm.cellAt k.cell).marked k.cause := FloorMap.cellAt_putCell_same _ _ s.fm wf
  show (Memory.read CellRec.swept (s.tripStop.sensedMark k).fm.cells k.cell.addr).sensedCliff = true
  rw [State.sensedMark_cells, fm, put]
  exact CellRec.sensedCliff_of_isCliff cliff _

/-- A trip changes no cell but that of its mark. -/
theorem State.trip_other {a : Nat} (on : s.mo.hg.state ≠ .off) (todo : s.mo.re.todo = .none)
    (other : ∀ k, mark = some k → a ≠ k.cell.addr) :
    Memory.read CellRec.swept (s.trip o mark).fm.cells a = Memory.read CellRec.swept s.fm.cells a := by
  have fm := s.tripStop_kept.2
  rw [(State.trip_kept on todo).2.1]
  cases mark with
  | none =>
    show Memory.read CellRec.swept s.tripStop.fm.cells a = _
    rw [fm]
  | some k =>
    show Memory.read CellRec.swept (s.tripStop.sensedMark k).fm.cells a = _
    rw [State.sensedMark_cells, fm]
    exact FloorMap.read_putCell_other _ _ _ (other k rfl)

/-- With no segment in progress a trip latches the guard and leaves the engine (R141, R143). -/
theorem State.trip_of_none (on : s.mo.hg.state ≠ .off) (todo : s.mo.re.todo = .none) (none : s.mo.re.seg = none) :
    s.trip o mark = (s.tripStop.markIf mark).withMotion ((s.tripStop.markIf mark).mo.raise .hazardTrip) := by
  have re : (s.tripStop.markIf mark).mo.re = s.mo.re := by
    rw [State.markIf_frame]
    exact s.tripStop_re
  rw [State.trip_of_on on, tripReported_of_none (by rw [re]; exact none), State.runs_of_none _ (by rw [re]; exact todo)]
  rfl

theorem State.tripStop_hg (on : s.mo.hg.state ≠ .off) : s.tripStop.mo.hg = { s.mo.hg with state := .tripped } := by
  cases h : s.mo.hg.state with
  | off => exact absurd h on
  | armed =>
    rw [State.tripStop_of_armed h]
    exact askStop_hg _ _
  | tripped => rw [State.tripStop_of_tripped h, ← h]

theorem takeMapChange_corridor (env : Env) (c : CellIx) (new : CellRec) (m : Motion) :
    (takeMapChange env c new m).cu.corridor = m.cu.corridor := by
  have restarted : (restartReached c m).cu.corridor = m.cu.corridor := by
    unfold restartReached
    split
    · split <;> rfl
    · rfl
  unfold takeMapChange askRecheck
  rw [← restarted]
  split
  · rfl
  · split
    · unfold askCheck
      split <;> rfl
    · rfl

theorem State.sensedMark_corridor (k : SensedMark) (s : State) :
    (s.sensedMark k).mo.cu.corridor = s.mo.cu.corridor := by
  have noted : (s.noteMark k).mo.cu = s.mo.cu := by rw [State.noteMark_frame]
  rw [State.sensedMark_eq, State.handChange_cu, noted]
  split
  · rw [takeMapChange_corridor, noted]
  · rfl

/-- Under a SENT or ACTIVE grant of a segment out of BACKOFF a trip stops the grant, and the segment settles (R143). -/
theorem State.trip_of_grant {sr : SegRun} (armed : s.mo.hg.state = .armed) (todo : s.mo.re.todo = .none)
    (isOpen : s.mo.dp.grant.state = .sent ∨ s.mo.dp.grant.state = .active) (hs : s.mo.re.seg = some sr)
    (wait : sr.wait = .grant) (moving : sr.phase.standing = false) (other : sr.phase ≠ .backoff) :
    (s.trip o mark).mo.hg.state = .tripped ∧ (s.trip o mark).mo.dp.grant.state = .stopping ∧
    (s.trip o mark).mo.cu.corridor = none ∧
    ∃ sq, (s.trip o mark).mo.re.seg = some sq ∧ sq.phase = .settle ∧ sq.outcome = some o := by
  obtain ⟨q, hq⟩ : ∃ q, q = s.withMotion (Motion.stopped .hazard s.mo.tripped) := ⟨_, rfl⟩
  obtain ⟨u, hu⟩ : ∃ u, u = q.markIf mark := ⟨_, rfl⟩
  have frame : u.mo = { q.mo with cu := u.mo.cu, eu := u.mo.eu } := by
    rw [hu]
    exact congrArg State.mo (State.markIf_frame mark q)
  have corridor : u.mo.cu.corridor = none := by
    have same : u.mo.cu.corridor = q.mo.cu.corridor := by
      rw [hu]
      cases mark with
      | none => rfl
      | some k => exact State.sensedMark_corridor k q
    rw [same, hq]
    rfl
  obtain ⟨-, trips⟩ := tripsByPhase o mark s q u _ rfl
  obtain ⟨v, trip, -, phases⟩ := trips (by rw [armed]; decide) todo (by rw [armed]; nofun) (fun _ _ => hq)
    (fun _ shut => by obtain h | h := isOpen <;> rw [h] at shut <;> obtain h | h := shut <;> cases h) (by rw [hu]; cases mark <;> rfl)
  obtain ⟨-, -, -, settles⟩ := phases sr _ hs rfl
  have stopping : u.mo.dp.grant.state = .stopping := by rw [frame, hq]; rfl
  have settled := ((settles (by rintro h; rw [h] at moving; cases moving) (by rintro h; rw [h] at moving; cases moving)
    other).1 wait).2 (.inr stopping)
  rw [trip, settled]
  refine ⟨?_, stopping, corridor, sr.settling o none, rfl, rfl, rfl⟩
  show u.mo.hg.state = .tripped
  rw [frame, hq]
  rfl

theorem State.tripMark_eq (p : Int × Int) (cause : MarkCause) (sensor : MarkSensor) (s : State) :
    s.tripMark p cause sensor = if s.mo.pu.u < s.tun.lostLimit then
      (cellOfPoint p.1 p.2).map fun c => { cell := c, cause := cause, sensor := sensor } else none := by
  unfold State.tripMark
  split
  · next lost => rw [if_neg (Nat.not_lt.2 lost)]
  · next known => rw [if_pos (Nat.lt_of_not_le known)]

end mark

/-! ## Cliff sensors (R134 to R137) -/

section cliff
variable {s : State} {k : CliffSensor} {level : Byte}

theorem exec_cliffSample (k : CliffSensor) (level : Byte) (s : State) :
    exec (.cliffSample k level) s = .next (s.cliffSample k level) := rfl

theorem HazardGuard.cliff_setCliff (hg : HazardGuard) (k : CliffSensor) (r : CliffRec) : (hg.setCliff k r).cliff k = r := by
  cases k <;> rfl

theorem HazardGuard.setCliff_cliff (hg : HazardGuard) (k : CliffSensor) : hg.setCliff k (hg.cliff k) = hg := by
  cases k <;> rfl

theorem HazardGuard.setCliff_state (hg : HazardGuard) (k : CliffSensor) (r : CliffRec) :
    (hg.setCliff k r).state = hg.state := by cases k <;> rfl

theorem HazardGuard.cliff_state (hg : HazardGuard) (k : CliffSensor) (st : GuardState) :
    ({ hg with state := st } : HazardGuard).cliff k = hg.cliff k := by cases k <;> rfl

theorem cellOfPoint_of_inside {px py : Int} (x0 : 0 ≤ px) (x1 : px ≤ 12799999) (y0 : 0 ≤ py) (y1 : py ≤ 12799999) :
    cellOfPoint px py = some { cx := (px / 50000).toNat, cy := (py / 50000).toNat } := by
  refine (if_pos ⟨x0, x1, y0, y1⟩).trans ?_
  have size : Config.cellSize = 50000 := rfl
  unfold cellOf
  rw [size]
  congr 2 <;> omega

theorem requiredCount_le {tun : Tuning} {cls : CellClass} {n : Nat} (over' : cls ≠ .dock)
    (rug : cls = .rug → tun.rugConfirm ≤ n) (pos : 1 ≤ n) : ∃ k, requiredCount tun cls = some k ∧ k ≤ n := by
  cases cls
  case dock => exact absurd rfl over'
  case rug => exact ⟨_, rfl, rug rfl⟩
  all_goals exact ⟨_, rfl, pos⟩

section sample
variable {tun : Tuning} {cls : CellClass} {n lv : Nat} {r : CliffRec}

theorem CliffRec.sample_of_light (light : tun.cliffLevel ≤ lv) :
    r.sample tun cls lv = ({ state := .clear, count := 0 }, false) := if_pos light

theorem CliffRec.sample_of_tripped (dark : lv < tun.cliffLevel) (tripped : r.state = .tripped) :
    r.sample tun cls lv = (r, false) := (if_neg (Nat.not_le.2 dark)).trans (if_pos tripped)

theorem CliffRec.sample_of_short (dark : lv < tun.cliffLevel) (live : r.state ≠ .tripped)
    (short : cls = .dock ∨ cls = .rug ∧ min 15 (r.count + 1) < tun.rugConfirm) :
    r.sample tun cls lv = ({ state := .suspect, count := min 15 (r.count + 1) }, false) := by
  refine (if_neg (Nat.not_le.2 dark)).trans ((if_neg live).trans ?_)
  obtain rfl | ⟨rfl, few⟩ := short
  · rfl
  · exact if_neg (Nat.not_le.2 few)

theorem CliffRec.sample_of_reached (dark : lv < tun.cliffLevel) (live : r.state ≠ .tripped) (over' : cls ≠ .dock)
    (rug : cls = .rug → tun.rugConfirm ≤ min 15 (r.count + 1)) :
    r.sample tun cls lv = ({ state := .tripped, count := min 15 (r.count + 1) }, true) := by
  obtain ⟨k, required, reached⟩ := requiredCount_le over' rug (by omega)
  refine (if_neg (Nat.not_le.2 dark)).trans ((if_neg live).trans ?_)
  simp only [required, if_pos reached]

end sample

theorem State.cliffSample_of_kept {r : CliffRec} (on : s.mo.hg.state ≠ .off)
    (h : (s.mo.hg.cliff k).sample s.tun (s.classUnder k) level.toNat = (r, false)) :
    s.cliffSample k level = s.withGuard (s.mo.hg.setCliff k r) := by
  refine (if_neg on).trans ?_
  dsimp only
  rw [h]
  rfl

theorem State.cliffSample_of_trip {r : CliffRec} (on : s.mo.hg.state ≠ .off)
    (h : (s.mo.hg.cliff k).sample s.tun (s.classUnder k) level.toNat = (r, true)) :
    s.cliffSample k level = State.trip .cliffStop (s.tripMark (s.projected k) .cliffTrip (sensorMark k))
      (s.withGuard (s.mo.hg.setCliff k r)) := by
  refine (if_neg on).trans ?_
  dsimp only
  rw [h]
  rfl

end cliff

/-- Settles O49. -/
theorem cliffSamplesTrip : Obligations.CliffSamplesTrip := by
  refine ⟨fun k s c f l cos sin px py j hc hfl hj hcos hsin hpx hpy => ?_, fun k level n s mark hn on dark live over' rug hmark => ?_,
    fun k level n s hn => ⟨fun off => ?_, fun on => ⟨fun light => ?_, fun dark tripped => ?_, fun dark live short => ?_,
      fun dark live over' rug wf todo => ?_⟩⟩⟩
  · have point : s.projected k = (px, py) := by
      subst hc hj hcos hsin hpx hpy
      cases k <;> cases hfl <;> rfl
    have under : s.classUnder k = (cellOfPoint px py).elim .unknown fun c => (s.fm.cellAt c).cls := by
      unfold State.classUnder
      rw [point]
      cases cellOfPoint px py <;> rfl
    refine ⟨point, fun cell x0 x1 y0 y1 hcell => ?_, fun outside => ?_⟩
    · have inside := cellOfPoint_of_inside x0 x1 y0 y1
      rw [← hcell] at inside
      rw [under, inside]
      exact ⟨rfl, rfl⟩
    · have outer : cellOfPoint px py = none := Option.isNone_iff_eq_none.1 ((cellOfPoint_isNone (px, py)).2 outside)
      rw [under, outer]
      exact ⟨rfl, rfl⟩
  · subst hn hmark
    rw [exec_cliffSample, State.cliffSample_of_trip on (CliffRec.sample_of_reached dark live over' rug), State.tripMark_eq]
  · rw [exec_cliffSample, State.cliffSample, if_pos off]
  · rw [exec_cliffSample, State.cliffSample_of_kept on (CliffRec.sample_of_light light)]
    rfl
  · rw [exec_cliffSample, State.cliffSample_of_kept on (CliffRec.sample_of_tripped dark tripped),
      HazardGuard.setCliff_cliff]
    rfl
  · subst hn
    rw [exec_cliffSample, State.cliffSample_of_kept on (CliffRec.sample_of_short dark live short)]
    rfl
  · subst hn
    obtain ⟨q, hq⟩ : ∃ q, q = s.withGuard
      (s.mo.hg.setCliff k { state := .tripped, count := min 15 ((s.mo.hg.cliff k).count + 1) }) := ⟨_, rfl⟩
    have on' : q.mo.hg.state ≠ .off := by
      rw [hq]
      exact (HazardGuard.setCliff_state _ _ _).symm ▸ on
    have todo' : q.mo.re.todo = .none := by rw [hq]; exact todo
    have sampled := State.cliffSample_of_trip on (CliffRec.sample_of_reached dark live over' rug)
    obtain ⟨mark, hmark⟩ : ∃ mark, mark = s.tripMark (s.projected k) .cliffTrip (sensorMark k) := ⟨_, rfl⟩
    rw [← hq, ← hmark] at sampled
    rw [State.tripMark_eq] at hmark
    have cells : q.fm = s.fm := by rw [hq]; rfl
    obtain ⟨⟨pu, st, hg⟩, -, flagged⟩ := State.trip_kept (o := .cliffStop) (mark := mark) on' todo'
    rw [exec_cliffSample, sampled]
    refine ⟨_, rfl, ?_, flagged, pu.trans (by rw [hq]; rfl), fun none => ?_, fun sr armed isOpen hs wait moving other => ?_,
      fun c known cell => ?_, fun a away => ?_⟩
    · rw [hg, HazardGuard.cliff_state, hq]
      exact HazardGuard.cliff_setCliff _ _ _
    · rw [State.trip_of_none on' todo' (by rw [hq]; exact none), State.markIf_frame]
      exact ⟨congrArg (·.state) (State.tripStop_hg on'), q.tripStop_re.trans (by rw [hq]; rfl)⟩
    · have armed' : q.mo.hg.state = .armed := by
        rw [hq]
        exact (HazardGuard.setCliff_state _ _ _).trans armed
      exact State.trip_of_grant armed' todo' (by rw [hq]; exact isOpen) (by rw [hq]; exact hs) wait moving other
    · rw [if_pos known, cell] at hmark
      rw [hmark]
      exact State.trip_marks on' todo' (by rw [cells]; exact wf) rfl
    · rw [State.trip_other on' todo' fun m hm => ?_, cells]
      rw [hm] at hmark
      split at hmark
      · obtain ⟨c, found, made⟩ := Option.map_eq_some_iff.1 hmark.symm
        rw [← made]
        exact away c found
      · cases hmark

end Sys2Proof.Machine
end

section
/-! The switch lines and the bump window (section 7.3). -/

namespace Sys2Proof.Machine
open Sys2Proof

section lines
variable {s : State} {line : SwitchLine}

theorem State.lineSample_of_held {now : Bool} (h : now = false ∨ s.mo.hg.lines.get line = true) :
    s.lineSample line now = s.holdLine line now := by
  refine if_neg ?_
  obtain h | h := h <;> simp [h]

theorem State.lineSample_of_on (on : s.mo.hg.state ≠ .off) (free : s.mo.hg.lines.get line = false) :
    s.lineSample line true = (s.holdLine line true).lineTrip line :=
  (if_pos (by simp [free])).trans (if_neg on)

theorem State.lineTrip_wheel (left : Bool) (s : State) :
    s.lineTrip (if left then .wl else .wr) = s.wheelTrip left := by cases left <;> rfl

theorem State.lineTrip_bumper (left : Bool) (s : State) :
    s.lineTrip (if left then .bl else .br) = s.bumpTrip left := by cases left <;> rfl

/-- An assertion of a wheel's line while the guard watches (R139). -/
theorem exec_lineSample_wheel {left : Bool} (on : s.mo.hg.state ≠ .off)
    (free : s.mo.hg.lines.get (if left then .wl else .wr) = false) :
    exec (.lineSample (if left then .wl else .wr) true) s =
      .next ((s.holdLine (if left then .wl else .wr) true).wheelTrip left) := by
  rw [exec_lineSample, State.lineSample_of_on on free, State.lineTrip_wheel]

/-- An assertion of a bumper's line while the guard watches (R140). -/
theorem exec_lineSample_bumper {left : Bool} (on : s.mo.hg.state ≠ .off)
    (free : s.mo.hg.lines.get (if left then .bl else .br) = false) :
    exec (.lineSample (if left then .bl else .br) true) s =
      .next ((s.holdLine (if left then .bl else .br) true).bumpTrip left) := by
  rw [exec_lineSample, State.lineSample_of_on on free, State.lineTrip_bumper]

/-- A wheel's point, half a wheel base to its side (R139). -/
theorem wheelPoint_eq (pu : PoseUnit) (lat : Int) : wheelPoint pu lat =
    (pu.x + rhaz (-(lat * sinV pu.theta)) 16384, pu.y + rhaz (lat * cosT pu.theta) 16384) := by
  simp [wheelPoint, pointBeside]

theorem State.wheelTrip_eq (left : Bool) {lat : Int} {p : Int × Int}
    (hlat : lat = (if left then 1 else -1) * ((s.cs.working.wheelBase * 500 : Nat) : Int))
    (hp : p = (s.mo.pu.x + rhaz (-(lat * sinV s.mo.pu.theta)) 16384, s.mo.pu.y + rhaz (lat * cosT s.mo.pu.theta) 16384)) :
    s.wheelTrip left = s.trip .cliffStop (s.tripMark p .wheelDrop (if left then .wl else .wr)) := by
  have side : lat = if left then halfBase s.cs.working else -halfBase s.cs.working := by
    rw [hlat]
    cases left
    · exact Int.neg_one_mul _
    · exact Int.one_mul _
  unfold State.wheelTrip
  dsimp only
  rw [← side, wheelPoint_eq, ← hp]

theorem State.tripStop_eu (s : State) : s.tripStop.mo.eu = s.mo.eu := by
  unfold State.tripStop
  split
  · exact askStop_eu _ _
  · rfl
  · rfl

section bump
variable {left : Bool} {w : BumpWindow}

theorem State.bumpTrip_of_none (h : s.mo.hg.window = none) : s.bumpTrip left = s.openWindow left := by
  simp only [State.bumpTrip, h]

theorem State.bumpTrip_of_old (h : s.mo.hg.window = some w) (old : 5 < (s.mo.eu.time - w.time).toNat) :
    s.bumpTrip left = (s.closeWindow false w).openWindow left := by
  simp only [State.bumpTrip, h]
  exact if_pos old

theorem State.bumpTrip_of_same (h : s.mo.hg.window = some w) (young : (s.mo.eu.time - w.time).toNat ≤ 5)
    (same : w.byLeft = left) : s.bumpTrip left = s := by
  simp only [State.bumpTrip, h]
  exact (if_neg (Nat.not_lt.2 young)).trans (if_pos same)

theorem State.bumpTrip_of_both (h : s.mo.hg.window = some w) (young : (s.mo.eu.time - w.time).toNat ≤ 5)
    (other : w.byLeft = !left) : s.bumpTrip left = s.closeWindow true w := by
  simp only [State.bumpTrip, h]
  refine (if_neg (Nat.not_lt.2 young)).trans (if_neg ?_)
  rw [other]
  cases left <;> decide

theorem exec_bumpWindowTimeout (s : State) : exec .bumpWindowTimeout s = .next s.windowTimeout := rfl

theorem State.windowTimeout_of_none (h : s.mo.hg.window = none) : s.windowTimeout = s := by
  simp only [State.windowTimeout, h]

theorem State.windowTimeout_of_young (h : s.mo.hg.window = some w) (young : (s.mo.eu.time - w.time).toNat < 5) :
    s.windowTimeout = s := by
  simp only [State.windowTimeout, h]
  exact if_neg (Nat.not_le.2 young)

theorem State.windowTimeout_of_due (h : s.mo.hg.window = some w) (due : 5 ≤ (s.mo.eu.time - w.time).toNat) :
    s.windowTimeout = s.closeWindow false w := by
  simp only [State.windowTimeout, h]
  exact if_pos due

end bump

/-- A window's close takes its mark where the pose is known and the point lies in the map (R140). -/
theorem State.closeWindow_of_mark {both : Bool} {w : BumpWindow} {c : CellIx} (known : s.mo.pu.u < s.tun.lostLimit)
    (inside : cellOfPoint (bodyPoint s.cs.working w.x w.y (if both then w.theta else w.sideHeading)).1
      (bodyPoint s.cs.working w.x w.y (if both then w.theta else w.sideHeading)).2 = some c) :
    s.closeWindow both w = State.sensedMark
      { cell := c, cause := .bump, sensor := if both then .bb else if w.byLeft then .bl else .br }
      (s.withGuard { s.mo.hg with window := none }) := by
  unfold State.closeWindow
  dsimp only
  rw [State.tripMark_eq, if_pos known, inside]
  rfl

theorem State.closeWindow_of_none {both : Bool} {w : BumpWindow} (h : s.tun.lostLimit ≤ s.mo.pu.u ∨
    cellOfPoint (bodyPoint s.cs.working w.x w.y (if both then w.theta else w.sideHeading)).1
      (bodyPoint s.cs.working w.x w.y (if both then w.theta else w.sideHeading)).2 = none) :
    s.closeWindow both w = s.withGuard { s.mo.hg with window := none } := by
  unfold State.closeWindow
  dsimp only
  rw [State.tripMark_eq]
  obtain lost | outside := h
  · rw [if_neg (Nat.not_lt.2 lost)]
    rfl
  · rw [outside, Option.map_none, ite_self]
    rfl

theorem EventUnit.raise_time (c : Cause) (eu : EventUnit) : (eu.raise c).time = eu.time := rfl

theorem State.sensedMark_time (k : SensedMark) (s : State) : (s.sensedMark k).mo.eu.time = s.mo.eu.time := by
  have hand : (s.sensedMark k).mo.eu = (s.noteMark k).mo.eu := by rw [State.sensedMark_eq, State.handChange_frame]
  rw [hand]
  by_cases same : ((s.fm.cellAt k.cell).marked k.cause).cls = (s.fm.cellAt k.cell).cls
  · rw [State.noteMark_of_same k s same]
  · rcases Nat.lt_or_ge s.fm.changes.length 64 with room | full
    · rw [(State.noteMark_of_room k s same room).2.2]
      split
      · exact EventUnit.raise_time _ _
      · rfl
    · rw [(State.noteMark_of_full k s same full).2.2, EventUnit.raise_time]

/-- A window's close leaves the pose and the time. -/
theorem State.closeWindow_keeps (both : Bool) (w : BumpWindow) (s : State) :
    (s.closeWindow both w).mo.pu = s.mo.pu ∧ (s.closeWindow both w).mo.eu.time = s.mo.eu.time := by
  unfold State.closeWindow
  dsimp only
  rw [State.markIf_frame]
  refine ⟨rfl, ?_⟩
  cases s.tripMark _ _ _ with
  | none => rfl
  | some k => exact State.sensedMark_time k _

end lines

/-- The side of a window's mark (R140). -/
theorem BumpWindow.sideHeading_eq {w : BumpWindow} {h : Nat}
    (hh : (h : Int) = (w.theta + (if w.byLeft then 5461 else -5461)) % 65536) : w.sideHeading = h := by
  unfold BumpWindow.sideHeading wrapHeading
  cases side : w.byLeft <;> simp only [side, if_true, if_false, Bool.false_eq_true] at hh ⊢ <;> omega

section settled
variable {s : State} {left : Bool}

/-- A bumper's assertion later than 5 ms closes the open window and then opens its own (assumption 16). -/
theorem lineSample_after_window {v w : BumpWindow}
    (hw : w = { byLeft := left, x := s.mo.pu.x, y := s.mo.pu.y, theta := s.mo.pu.theta, time := s.mo.eu.time }) (on : s.mo.hg.state ≠ .off)
    (free : s.mo.hg.lines.get (if left then .bl else .br) = false) (opened : s.mo.hg.window = some v)
    (old : 5 < (s.mo.eu.time - v.time).toNat) :
    ∃ u, exec .bumpWindowTimeout (s.withGuard { s.mo.hg with
        lines := s.mo.hg.lines.set (if left then .bl else .br) true }) = .next u ∧
      exec (.lineSample (if left then .bl else .br) true) s =
        .next (State.trip .bumpStop none (u.withGuard { u.mo.hg with window := some w })) := by
  subst hw
  obtain ⟨q, hq⟩ : ∃ q, q = s.holdLine (if left then .bl else .br) true := ⟨_, rfl⟩
  have opened' : q.mo.hg.window = some v := by rw [hq]; exact opened
  have old' : 5 < (q.mo.eu.time - v.time).toNat := by rw [hq]; exact old
  obtain ⟨pu, time⟩ := State.closeWindow_keeps false v q
  refine ⟨q.closeWindow false v, ?_, ?_⟩
  · rw [← State.windowTimeout_of_due opened' old'.le, hq]
    rfl
  · rw [exec_lineSample_bumper on free, ← hq, State.bumpTrip_of_old opened' old']
    have window : ({ byLeft := left, x := (q.closeWindow false v).mo.pu.x, y := (q.closeWindow false v).mo.pu.y
                     theta := (q.closeWindow false v).mo.pu.theta
                     time := (q.closeWindow false v).mo.eu.time } : BumpWindow) =
        { byLeft := left, x := s.mo.pu.x, y := s.mo.pu.y, theta := s.mo.pu.theta, time := s.mo.eu.time } := by
      rw [pu, time, hq]
      rfl
    rw [← window]
    rfl

/-- A wheel's assertion with no segment in progress latches the guard and marks the wheel's cell (R139, R147). -/
theorem lineSample_wheel_idle (idle : s.mo.re.seg = none) (todo : s.mo.re.todo = .none) (armed : s.mo.hg.state = .armed)
    (known : s.mo.pu.u < s.tun.lostLimit) (wf : Memory.wf CellRec.swept s.fm.cells)
    (free : s.mo.hg.lines.get (if left then .wl else .wr) = false) :
    ∃ t lat, exec (.lineSample (if left then .wl else .wr) true) s = .next t ∧
      lat = (if left then 1 else -1) * ((s.cs.working.wheelBase * 500 : Nat) : Int) ∧
      t.mo.hg = { s.mo.hg with state := .tripped
                               lines := s.mo.hg.lines.set (if left then .wl else .wr) true } ∧
      t.mo.eu.flagged .hazardTrip = true ∧ t.mo.re = s.mo.re ∧ t.mo.pu = s.mo.pu ∧
      ∀ c, cellOfPoint (s.mo.pu.x + rhaz (-(lat * sinV s.mo.pu.theta)) 16384)
          (s.mo.pu.y + rhaz (lat * cosT s.mo.pu.theta) 16384) = some c →
        (t.fm.cellAt c).sensedCliff = true := by
  have on : s.mo.hg.state ≠ .off := by rw [armed]; decide
  obtain ⟨lat, hlat⟩ : ∃ lat, lat = (if left then 1 else -1) * ((s.cs.working.wheelBase * 500 : Nat) : Int) := ⟨_, rfl⟩
  obtain ⟨q, hq⟩ : ∃ q, q = s.holdLine (if left then .wl else .wr) true := ⟨_, rfl⟩
  have on' : q.mo.hg.state ≠ .off := by rw [hq]; exact on
  have todo' : q.mo.re.todo = .none := by rw [hq]; exact todo
  have idle' : q.mo.re.seg = none := by rw [hq]; exact idle
  have trips := State.wheelTrip_eq (s := q) left (lat := lat) (by rw [hq]; exact hlat) rfl
  obtain ⟨mark, hmark⟩ : ∃ mark, mark = q.tripMark (q.mo.pu.x + rhaz (-(lat * sinV q.mo.pu.theta)) 16384,
    q.mo.pu.y + rhaz (lat * cosT q.mo.pu.theta) 16384) .wheelDrop (if left then .wl else .wr) := ⟨_, rfl⟩
  rw [← hmark] at trips
  obtain ⟨⟨pu, -⟩, -, flagged⟩ := State.trip_kept (o := .cliffStop) (mark := mark) on' todo'
  have whole := State.trip_of_none (o := .cliffStop) (mark := mark) on' todo' idle'
  refine ⟨q.trip .cliffStop mark, lat, ?_, hlat, ?_, flagged, ?_, pu.trans (by rw [hq]; rfl), fun c cell => ?_⟩
  · rw [exec_lineSample_wheel on free, ← hq, trips]
  · rw [whole, State.markIf_frame]
    show q.tripStop.mo.hg = _
    rw [State.tripStop_hg on', hq]
    rfl
  · rw [whole, State.markIf_frame]
    exact q.tripStop_re.trans (by rw [hq]; rfl)
  · have pose : q.mo.pu = s.mo.pu := by rw [hq]; rfl
    rw [State.tripMark_eq, if_pos (by rw [hq]; exact known), pose, cell] at hmark
    rw [hmark]
    exact State.trip_marks (k := { cell := c, cause := .wheelDrop, sensor := if left then .wl else .wr }) on' todo'
      (by rw [hq]; exact wf) rfl

/-- A bumper's assertion with no window open and no segment in progress opens one and latches the guard (R140). -/
theorem lineSample_bumper_idle (idle : s.mo.re.seg = none) (todo : s.mo.re.todo = .none) (armed : s.mo.hg.state = .armed)
    (free : s.mo.hg.lines.get (if left then .bl else .br) = false) (closed : s.mo.hg.window = none) :
    ∃ t, exec (.lineSample (if left then .bl else .br) true) s = .next t ∧
      t.mo.hg = { s.mo.hg with
        state := .tripped
        lines := s.mo.hg.lines.set (if left then .bl else .br) true
        window := some { byLeft := left, x := s.mo.pu.x, y := s.mo.pu.y, theta := s.mo.pu.theta,
                         time := s.mo.eu.time } } ∧
      t.mo.eu = s.mo.eu.raise .hazardTrip ∧ t.fm = s.fm ∧ t.mo.re = s.mo.re := by
  have on : s.mo.hg.state ≠ .off := by rw [armed]; decide
  obtain ⟨q, hq⟩ : ∃ q, q = s.withGuard { s.mo.hg with
    lines := s.mo.hg.lines.set (if left then .bl else .br) true
    window := some { byLeft := left, x := s.mo.pu.x, y := s.mo.pu.y, theta := s.mo.pu.theta, time := s.mo.eu.time } } :=
    ⟨_, rfl⟩
  have on' : q.mo.hg.state ≠ .off := by rw [hq]; exact on
  have whole := State.trip_of_none (o := .bumpStop) (mark := none) on' (by rw [hq]; exact todo) (by rw [hq]; exact idle)
  refine ⟨q.trip .bumpStop none, ?_, ?_, ?_, ?_, ?_⟩
  · rw [exec_lineSample_bumper on free, State.bumpTrip_of_none (s := s.holdLine _ true) (by exact closed), hq]
    rfl
  · rw [whole]
    show q.tripStop.mo.hg = _
    rw [State.tripStop_hg on', hq]
    rfl
  · rw [whole]
    show q.tripStop.mo.eu.raise .hazardTrip = _
    rw [State.tripStop_eu, hq]
    rfl
  · rw [whole]
    exact q.tripStop_kept.2.trans (by rw [hq]; rfl)
  · rw [whole]
    exact q.tripStop_re.trans (by rw [hq]; rfl)

end settled

/-- Settles O50. -/
theorem lineSamplesTrip : Obligations.LineSamplesTrip := by
  refine ⟨fun s lines left watching => ?_, fun s => ⟨fun line now h => ?_, fun still armed known wf => ⟨fun left free => ?_,
    fun left free closed => ?_⟩, fun left w c p v watching free opened other young hp hv => ?_⟩, fun s =>
    ⟨fun closed => ?_, fun w h p opened hh hp => ⟨fun young => ?_, fun due => ⟨fun h => ?_, fun c known inside => ?_⟩⟩⟩⟩
  · have on : s.mo.hg.state ≠ .off := by obtain h | h := watching <;> rw [h] <;> decide
    refine ⟨fun mark p lat free hlines hlat hp hmark => ?_, fun free hlines w hw => ⟨fun closed => ?_, fun v opened =>
      ⟨fun same young => ?_, fun old => ?_⟩⟩⟩
    · subst hlines
      rw [exec_lineSample_wheel on free, State.wheelTrip_eq (s := s.holdLine _ true) left hlat hp,
        State.tripMark_eq, hmark]
      rfl
    · subst hlines hw
      rw [exec_lineSample_bumper on free, State.bumpTrip_of_none (s := s.holdLine _ true) (by exact closed)]
      rfl
    · subst hlines
      rw [exec_lineSample_bumper on free,
        State.bumpTrip_of_same (s := s.holdLine _ true) (w := v) (by exact opened) young same]
      rfl
    · subst hlines
      exact lineSample_after_window hw on free opened old
  · rw [exec_lineSample, State.lineSample_of_held h]
    rfl
  · exact lineSample_wheel_idle still.1 still.2 armed known wf free
  · exact lineSample_bumper_idle still.1 still.2 armed free closed
  · have on : s.mo.hg.state ≠ .off := by obtain h | h := watching <;> rw [h] <;> decide
    subst hp hv
    rw [exec_lineSample_bumper on free,
      State.bumpTrip_of_both (s := s.holdLine _ true) (w := w) (by exact opened) young other]
    refine ⟨fun known inside => ?_, fun h => ?_⟩
    · exact congrArg _ (State.closeWindow_of_mark (both := true) (by exact known) (by exact inside))
    · exact congrArg _ (State.closeWindow_of_none (both := true) (by exact h))
  · rw [exec_bumpWindowTimeout, State.windowTimeout_of_none closed]
  · rw [exec_bumpWindowTimeout, State.windowTimeout_of_young opened young]
  · subst hp
    rw [exec_bumpWindowTimeout, State.windowTimeout_of_due opened due]
    rw [← BumpWindow.sideHeading_eq hh] at h
    exact congrArg _ (State.closeWindow_of_none (both := false) h)
  · subst hp
    rw [exec_bumpWindowTimeout, State.windowTimeout_of_due opened due]
    rw [← BumpWindow.sideHeading_eq hh] at inside
    exact congrArg _ (State.closeWindow_of_mark (both := false) known inside)

end Sys2Proof.Machine
end

section
/-! SEEK, CLOSE, MATE and DOCKED (sections 8.3 and 8.4). -/

namespace Sys2Proof.Machine
open Sys2Proof

section close
variable {env : Env} {m : Motion} {sr sq : SegRun}

theorem beginClose_eq (sr : SegRun) (hs : m.re.seg = some sq) : beginClose env sr m = askCheck env
    (sr.request .dockClose (.heading .facing ((100 + env.tun.stopMargin) * 1000)) (min sr.seg.speed (2 * env.tun.mateSpeed)))
    (Motion.withSeg (sq.at .close .check)
      { m with du := { m.du with phase := .close, beamSeen := false, lastPattern := none } }) := by
  rw [Nat.mul_comm 2]
  exact askInPhase_eq (m := { m with du := _ }) _ _ hs

theorem beginMate_eq (hs : m.re.seg = some sr) : beginMate env sr m = askCheck env
    (sr.request .dockClose (.heading .facing ((env.tun.mateLimit + env.tun.stopMargin) * 1000))
      (min sr.seg.speed env.tun.mateSpeed))
    (Motion.withSeg (sr.at .mate .check) { m with du := { m.du with phase := .mate } }) :=
  askInPhase_eq (m := setDockPhase .mate m) _ _ hs

theorem closeLimit_eq {d : DockPose} (h : m.du.pose = some d) : closeLimit m = 2 * d.standoff * 1000 := by
  simp only [closeLimit, h]

/-! ### A CLOSE piece's Done (R160) -/

/-- The Dock Unit with what a CLOSE piece's Done adds: the beam seen, and the piece's travel. -/
def DockUnit.closed (done : Nat) (du : DockUnit) : DockUnit :=
  { du with beamSeen := du.beamSeen || decide (beamPattern du.beacon ≠ .dark), closeTravel := du.closeTravel + done }

theorem closeDone_of_near (near : m.du.beacon.near = true) : closeDone env sr m =
    beginMate env sr { m with du := m.du.closed m.re.amountDone.toNat } := if_pos near

theorem closeDone_of_far (far : m.du.beacon.near = false) : closeDone env sr m =
    if (m.du.closed m.re.amountDone.toNat).beamSeen = true ∧
        (m.du.closed m.re.amountDone.toNat).closeTravel ≤ closeLimit m then
      beginClose env sr { m with du := { m.du.closed m.re.amountDone.toNat with lossCount := 0 } }
    else if (m.du.closed m.re.amountDone.toNat).beamSeen = false ∧ m.du.lossCount + 1 < 3 then
      beginClose env sr { m with du := { m.du.closed m.re.amountDone.toNat with lossCount := m.du.lossCount + 1 } }
    else if m.du.losses = 0 then
      judgeSeek env sr { m with du := { m.du.closed m.re.amountDone.toNat with
        losses := 1, lossCount := 0, closeTravel := 0, seekTurn := 0 } }
    else
      takeEffect .dockLost none { m with du := { m.du.closed m.re.amountDone.toNat with
        lossCount := if (m.du.closed m.re.amountDone.toNat).beamSeen = true then m.du.lossCount
          else m.du.lossCount + 1 } } := if_neg (by rw [far]; decide)

/-! ### Results of SEEK, CLOSE and MATE checks (R158, R159, R161) -/

theorem seekResult_of_blocked {res : CheckResult} {k : Nat} {c : BlockCell} (h : res.blocked = some (k, c)) :
    seekResult env res m = takeEffect .blocked (some c.held) m := by
  unfold seekResult
  rw [if_pos (by rw [h]; rfl), endTry_of_hazard _ _ rfl, CheckResult.cell_of_blocked h]

theorem seekResult_of_clear {res : CheckResult} (h : res.blocked = none) : seekResult env res m =
    issueGrant (rotateGrant env.tun.seekStep res) { m with du := { m.du with seekTurn := m.du.seekTurn + env.tun.seekStep } } :=
  if_neg (by rw [h]; decide)

theorem issueCreep_eq (full : Nat) (res : CheckResult) (hs : m.re.seg = some sq) : issueCreep env full res m =
    if min (full : Int) (min (allowance env res) (pieceMax env)) ≤ (env.tun.minPiece * 1000 : Nat) then
      takeEffect .blocked res.cell m
    else issueGrant (pieceGrant .creep (min (full : Int) (min (allowance env res) (pieceMax env))) res)
      (m.withSeg { sq with pieceLimited := decide (allowance env res < min (full : Int) (pieceMax env))
                           pieceCell := res.cell }) := by
  unfold issueCreep creepAmount
  dsimp only
  rw [endTry_of_hazard _ _ rfl, updSeg_eq hs]
  simp only [tooSmall_iff]

end close

/-! ### The judgement under a Creep (R159) -/

section judge
variable {s : State} {sr : SegRun}

theorem State.closeJudgement_of_creep (hs : s.mo.re.seg = some sr) (close : sr.phase = .close) (wait : sr.wait = .grant)
    (active : s.mo.dp.grant.state = .active) : s.closeJudgement = s.withMotion (judgeClose s.env s.mo) := by
  unfold State.closeJudgement
  rw [hs]
  exact if_pos ⟨close, wait, active⟩

theorem State.closeJudgement_of_away (hs : s.mo.re.seg = some sr)
    (h : sr.phase ≠ .close ∨ sr.wait ≠ .grant ∨ s.mo.dp.grant.state ≠ .active) : s.closeJudgement = s := by
  unfold State.closeJudgement
  rw [hs]
  refine if_neg ?_
  tauto

/-- The dock unit with the beam's pattern taken in. -/
def DockUnit.watched (p : Pattern) (du : DockUnit) : DockUnit :=
  { du with beamSeen := du.beamSeen || decide (p ≠ .dark), lastPattern := some p }

theorem judgeClose_of_same {env : Env} {m : Motion} {p : Pattern} (hp : p = beamPattern m.du.beacon)
    (h : m.du.lastPattern = some p ∨ env.tun.nudgeStep = 0) : judgeClose env m = { m with du := m.du.watched p } := by
  subst hp
  exact if_pos h

theorem judgeClose_of_new {env : Env} {m : Motion} {p : Pattern} (hp : p = beamPattern m.du.beacon)
    (last : m.du.lastPattern ≠ some p) (step : env.tun.nudgeStep ≠ 0) :
    (p = .left → judgeClose env m = trimNudge env.tun.nudgeStep { m with du := m.du.watched p }) ∧
    (p = .right → judgeClose env m = trimNudge (-env.tun.nudgeStep) { m with du := m.du.watched p }) ∧
    (p = .centre ∨ p = .split ∨ p = .dark → judgeClose env m = { m with du := m.du.watched p }) := by
  unfold judgeClose
  rw [← hp, if_neg (not_or.2 ⟨last, step⟩)]
  refine ⟨?_, ?_, ?_⟩
  · rintro rfl
    rfl
  · rintro rfl
    rfl
  · rintro (rfl | rfl | rfl) <;> rfl

end judge

/-- Settles O53. -/
theorem seekAndCloseFollowTheBeam : Obligations.SeekAndCloseFollowTheBeam := by
  refine ⟨fun b => ⟨(beamPattern_centre b).2, fun centre => ⟨fun left right => ?_, fun left right => ?_, fun left right => ?_,
    fun left right => ?_⟩⟩, fun env m sr sq hs => ⟨fun h => ?_, fun h more => ?_, fun h spent => ?_, beginClose_eq sr hs,
    fun seen travel du hsr wait phase hsq hseen htravel hdu n hn d pose => ?_⟩, ?_, ?_⟩
  iterate 4 simp [beamPattern, centre, left, right]
  · exact judgeSeek_of_centre sr ((beamPattern_centre _).1 h)
  · exact judgeSeek_of_step hs (Bool.eq_false_iff.2 (mt (beamPattern_centre _).2 h)) more
  · exact judgeSeek_of_spent sr (Bool.eq_false_iff.2 (mt (beamPattern_centre _).2 h)) spent
  · have closed : du = n.du.closed n.re.amountDone.toNat := by
      rw [hdu, hseen, htravel, hn]
      rfl
    have seen' : (n.du.closed n.re.amountDone.toNat).beamSeen = seen := by rw [← closed, hdu]
    have travel' : (n.du.closed n.re.amountDone.toNat).closeTravel = travel := by rw [← closed, hdu]
    have limit : closeLimit n = 2 * d.standoff * 1000 := closeLimit_eq (by rw [hn]; exact pose)
    have count : n.du = m.du := by rw [hn]; rfl
    rw [pieceDone_close hsr wait phase, ← hn]
    refine ⟨fun near => ?_, fun far => ?_⟩
    · rw [closeDone_of_near (by rw [count]; exact near), closed]
    · rw [closeDone_of_far (by rw [count]; exact far), seen', travel', limit, ← closed, count]
      refine ⟨fun see short => if_pos ⟨see, short⟩, fun dark few => ?_, fun lost => ?_⟩
      · rw [if_neg (by rw [dark]; rintro ⟨see, -⟩; cases see), if_pos ⟨dark, few⟩]
      · have notNext : ¬ (seen = true ∧ travel ≤ 2 * d.standoff * 1000) := by
          rintro ⟨see, short⟩
          obtain ⟨-, long⟩ | ⟨dark, -⟩ := lost
          · omega
          · rw [see] at dark
            cases dark
        have notDark : ¬ (seen = false ∧ m.du.lossCount + 1 < 3) := by
          rintro ⟨dark, few⟩
          obtain ⟨see, -⟩ | ⟨-, third⟩ := lost
          · rw [see] at dark
            cases dark
          · omega
        rw [if_neg notNext, if_neg notDark]
        exact ⟨fun first => if_pos first, fun second => ⟨_, if_neg second⟩⟩
  · intro b s u req sp rest sr q n full hu checks owner finished hs wait hq
    subst hu
    obtain ⟨res, hres⟩ : ∃ res, res = sp.result req := ⟨_, rfl⟩
    have ran := exec_checkResult_of_ended (b := b) checks owner finished
    have seg : (s.setBeacon b).mo.re.seg = some sr := hs
    have seg' : q.re.seg = some { sr with wait := .nothing } := by rw [hq]; rfl
    have blocks : res.blocked = sp.blocked := by rw [hres]; rfl
    have cell : res.cell = sp.blocked.map fun k => k.2.held := by rw [hres]; rfl
    have allow : allowance s.env res = (sp.clear : Int) - (s.tun.stopMargin * 1000 : Nat) := by rw [hres]; rfl
    have piece : pieceMax s.env = (s.tun.pieceLength * 1000 : Nat) := rfl
    have small : ((s.env.tun.minPiece * 1000 : Nat) : Int) = (s.tun.minPiece * 1000 : Nat) := rfl
    refine ⟨fun phase => ?_, fun phase hn => ?_⟩
    · rw [ran, checkHanded_seek seg wait phase, ← hres, ← hq]
      refine ⟨fun k c blocked => ?_, fun clear => ?_⟩
      · rw [seekResult_of_blocked (blocks.trans blocked)]
      · rw [seekResult_of_clear (blocks.trans clear), hres]
        rfl
    · have creeps : ∃ f : Nat, (f : Int) = full ∧ checkHanded s.env (sp.result req) ((s.setBeacon b).mo.dropFront rest) =
          issueCreep s.env f res q := by
        rw [hres, hq]
        obtain ⟨close, rfl⟩ | ⟨mate, rfl⟩ := phase
        · exact ⟨100000, rfl, checkHanded_close seg wait close⟩
        · exact ⟨s.tun.mateLimit * 1000, rfl, checkHanded_mate seg wait mate⟩
      obtain ⟨f, hf, handed⟩ := creeps
      rw [ran, handed, issueCreep_eq f res seg', hf, allow, piece, small, ← hn, cell, ← hres]
      exact ⟨fun le => by rw [if_pos le], fun lt => by rw [if_neg (not_le_of_gt lt)]⟩
  · intro s t sr p hs hp ht
    refine ⟨State.closeJudgement_of_away hs, fun close wait active => ?_⟩
    rw [State.closeJudgement_of_creep hs close wait active]
    subst ht
    refine ⟨fun still => ?_, fun last step => ?_⟩
    · have stands : judgeClose s.env s.mo = { s.mo with du := s.mo.du.watched p } := by
        by_cases same : s.mo.du.lastPattern = some p ∨ s.tun.nudgeStep = 0
        · exact judgeClose_of_same hp same
        · obtain ⟨last, step⟩ := not_or.1 same
          exact (judgeClose_of_new (env := s.env) hp last step).2.2 (by tauto)
      rw [stands]
      rfl
    · obtain ⟨left, right, -⟩ := judgeClose_of_new (env := s.env) hp last step
      exact ⟨fun h => by rw [left h]; rfl, fun h => by rw [right h]; rfl⟩

end Sys2Proof.Machine
end

section
/-! ## MATE and DOCKED (O54) -/

namespace Sys2Proof.Machine
open Sys2Proof

section mate
variable {env : Env} {m : Motion} {sr : SegRun}

theorem mateDone_of_contact (sr : SegRun) (on : m.du.contact = true) : mateDone env sr m = enterDocked env m := if_pos on

theorem mateDone_of_cut (off : m.du.contact = false) (cut : sr.pieceLimited = true ∨ sr.pieceCut = true) :
    mateDone env sr m = takeEffect .blocked sr.pieceCell m := by
  rw [mateDone, if_neg (by simp [off]), if_pos (by simpa using cut), endTry_of_hazard _ _ rfl]

theorem mateDone_of_missed (off : m.du.contact = false) (free : sr.pieceLimited = false) (whole : sr.pieceCut = false) :
    mateDone env sr m = takeEffect .dockMissed none m := by
  rw [mateDone, if_neg (by simp [off]), if_neg (by simp [free, whole]), endTry_of_hazard _ _ rfl]

/-! ### DOCKED (R162) -/

/-- The segment as it waits in DOCKED. -/
def SegRun.inDock (sr : SegRun) : SegRun :=
  { sr with phase := .docked, wait := .nothing, outcome := none, cell := none, ready := none }

/-- What DOCKED leaves of the motion but for the Stop and the dock phase: stage 4, the engine's check withdrawn. -/
def Motion.inDock (sr : SegRun) (m : Motion) : Motion :=
  { m with
    cu := { m.cu with checks := m.cu.checks.filter fun k => !k.ofEngine }
    re := { m.re with
      progress := { m.re.progress with stage := max 4 m.re.progress.stage }
      seg := some sr.inDock } }

theorem enterDocked_of_grant (hs : m.re.seg = some sr) (grant : m.dp.grant.state ≠ .none) :
    enterDocked env m = { askStop .cancel (m.inDock sr) with du := { m.du with phase := .docked } } := by
  have stops : (setDockPhase .docked (askStop .cancel (withdrawCheck (m.reachStage 4)))).updSeg SegRun.inDock =
      { askStop .cancel (m.inDock sr) with du := { m.du with phase := .docked } } := by
    rw [updSeg_eq (sr := sr) (by rw [setDockPhase_re, askStop_re]; exact hs)]
    cases op : m.dp.grant.state.openTo with
    | false => rw [askStop_of_closed _ _ (by exact op), askStop_of_closed _ _ (by exact op)]; rfl
    | true => rw [askStop_eq _ (by exact op), askStop_eq _ (by exact op)]; rfl
  have still : (askStop .cancel (m.inDock sr)).dp.grant.state ≠ .none := by
    rw [askStop_state]
    split
    · decide
    · exact grant
  unfold enterDocked
  change (if ((setDockPhase .docked (askStop .cancel (withdrawCheck (m.reachStage 4)))).updSeg SegRun.inDock).dp.grant.state
    = .none then _ else (setDockPhase .docked (askStop .cancel (withdrawCheck (m.reachStage 4)))).updSeg SegRun.inDock) = _
  rw [stops, if_neg (by exact still)]

theorem enterDocked_of_none (hs : m.re.seg = some sr) (grant : m.dp.grant.state = .none) :
    enterDocked env m = finishDocked env { m.inDock sr with du := { m.du with phase := .docked } } := by
  have closed : (withdrawCheck (m.reachStage 4)).dp.grant.state.openTo = false := by
    change m.dp.grant.state.openTo = false
    rw [grant]
    rfl
  have enters : (setDockPhase .docked (askStop .cancel (withdrawCheck (m.reachStage 4)))).updSeg SegRun.inDock =
      { m.inDock sr with du := { m.du with phase := .docked } } := by
    rw [askStop_of_closed _ _ closed, updSeg_eq (sr := sr) (by exact hs)]
    rfl
  unfold enterDocked
  change (if ((setDockPhase .docked (askStop .cancel (withdrawCheck (m.reachStage 4)))).updSeg SegRun.inDock).dp.grant.state
    = .none then finishDocked env ((setDockPhase .docked (askStop .cancel (withdrawCheck (m.reachStage 4)))).updSeg
      SegRun.inDock) else _) = _
  rw [enters]
  exact if_pos grant

theorem dockSnap_eq {d : DockPose} (pose : m.du.pose = some d) : dockSnap env m =
    { m with pu := { m.pu with x := d.x, y := d.y, theta := d.theta, u := env.tun.dockUncertainty
                               centre := { cx := d.x / 50000, cy := d.y / 50000 }, slip := 0 } } := by
  unfold dockSnap
  rw [pose]
  rfl

theorem finishDocked_of_lost (hs : (dockSnap env m).re.seg = some sr) (lost : env.tun.lostLimit ≤ (dockSnap env m).pu.u) :
    finishDocked env m = (dockSnap env m).toRecord .lost none sr := by
  unfold finishDocked
  dsimp only
  rw [if_pos lost, setTodo_record hs]

theorem finishDocked_of_known (hs : (dockSnap env m).re.seg = some sr) (known : (dockSnap env m).pu.u < env.tun.lostLimit) :
    finishDocked env m = { (dockSnap env m).toRecord .arrived none sr with
      du := { (dockSnap env m).du with docked := true }, eu := (dockSnap env m).eu.raise .docked } := by
  unfold finishDocked
  dsimp only
  rw [if_neg (by omega), setTodo_record (sr := sr) (by exact hs)]
  rfl

/-! ### The contact with a Dock segment in progress (R155, R162) -/

theorem contactOn_of_docking (hs : m.re.seg = some sr) (kind : sr.seg.kind = .dock) (phase : m.du.phase ≠ .none)
    (fresh : sr.outcome = none) (before : sr.phase ≠ .docked) : contactOn env m = enterDocked env m := by
  unfold contactOn
  rw [hs]
  exact if_pos ⟨kind, phase, fresh, before⟩

theorem contactOn_of_still (hs : m.re.seg = some sr) (h : m.du.phase = .none ∨ sr.outcome ≠ none ∨ sr.phase = .docked) :
    contactOn env m = m := by
  unfold contactOn
  rw [hs]
  refine if_neg ?_
  tauto

theorem contactOffDocking_eq (hs : m.re.seg = some sr) : contactOffDocking m =
    if sr.phase = .docked then
      Motion.withSeg (sr.settling .dockMissed none) { m with du := { m.du with docked := false } }
    else { m with du := { m.du with docked := false } } := by
  unfold contactOffDocking
  rw [hs]
  dsimp only
  split
  · exact updSeg_eq (sr := sr) hs
  · rfl

end mate

section contact
variable {s : State}

theorem State.contactChange_of_docking (due : s.mo.du.changeDue = true) (on : s.mo.du.contact = true)
    (dock : s.mo.re.docking = true) : s.contactChange = s.runs (contactOffDocking
      { s.mo with du := { s.mo.du with contact := false, run := 0, changeDue := false } }) := by
  unfold State.contactChange
  rw [if_pos due]
  simp only [DockUnit.flipped, on, Bool.not_true, Bool.false_eq_true, if_false]
  exact if_pos dock

theorem exec_contactChange (s : State) : exec .contactChange s = .next s.contactChange := rfl

end contact

/-- Settles O54. -/
theorem mateAndDocked : Obligations.MateAndDocked := by
  refine ⟨fun env m sr sq du hs hq => ⟨beginMate_eq hs, fun wait phase => ?_, fun n hdu hn => ?_, fun d n pose hn => ?_⟩,
    fun s sr du due hs kind hdu => ⟨fun off => ⟨fun phase fresh before => ?_, fun todo still => ?_⟩, fun on todo => ?_⟩⟩
  · rw [pieceDone_mate hs wait phase, ← hq]
    exact ⟨fun on => mateDone_of_contact sr on, fun off => ⟨mateDone_of_cut off, mateDone_of_missed off⟩⟩
  · subst hdu
    have inDock : n = m.inDock sr := hn
    subst inDock
    refine ⟨enterDocked_of_none hs, fun stopping => ?_, fun live => ?_⟩
    · rw [enterDocked_of_grant hs (by rw [stopping]; decide),
        askStop_of_closed _ (m.inDock sr) (show m.dp.grant.state.openTo = false by rw [stopping]; rfl)]
    · have op := (GrantState.openTo_iff _).2 live
      rw [enterDocked_of_grant hs (by obtain h | h := live <;> rw [h] <;> decide), askStop_eq _ (by exact op)]
  · have snap : dockSnap env m = n := (dockSnap_eq pose).trans hn.symm
    have seg : (dockSnap env m).re.seg = some sr := by rw [snap, hn]; exact hs
    have u : (dockSnap env m).pu.u = env.tun.dockUncertainty := by rw [snap, hn]
    refine ⟨fun lost => ?_, fun known => ?_⟩
    · rw [finishDocked_of_lost seg (by rw [u]; exact lost), snap]
    · rw [finishDocked_of_known seg (by rw [u]; exact known), snap, hn]
  · have flipped : du = { s.mo.du with contact := true, run := 0, changeDue := false } := by rw [hdu, off]; rfl
    rw [exec_contactChange]
    rw [State.contactChange_of_on due off, ← flipped,
      contactOn_of_docking (m := { s.mo with du := du }) (sr := sr) hs kind (by rw [hdu]; exact phase) fresh before]
  · have flipped : du = { s.mo.du with contact := true, run := 0, changeDue := false } := by rw [hdu, off]; rfl
    rw [exec_contactChange]
    rw [State.contactChange_of_on due off, ← flipped,
      contactOn_of_still (m := { s.mo with du := du }) (sr := sr) hs (by rw [hdu]; exact still), State.runs_of_none _ (by exact todo)]
  · have flipped : du = { s.mo.du with contact := false, run := 0, changeDue := false } := by rw [hdu, on]; rfl
    rw [exec_contactChange]
    rw [State.contactChange_of_docking due on (RouteEngine.docking_of_dock ⟨sr, hs, kind⟩), ← flipped,
      contactOffDocking_eq (m := { s.mo with du := du }) (sr := sr) hs]
    split
    · rw [State.runs_of_none _ (by exact todo)]
    · rw [State.runs_of_none _ (by exact todo)]

end Sys2Proof.Machine
end

section
/-! ## CHECK SAMPLE (O39) -/

namespace Sys2Proof.Machine
open Sys2Proof

/-! ### The cells of a disc (R52) -/

theorem mem_indexRange {lo hi i : Int} : i ∈ indexRange lo hi ↔ lo ≤ i ∧ i ≤ hi := by
  simp only [indexRange, List.mem_map, List.mem_range]
  constructor
  · rintro ⟨k, hk, rfl⟩
    omega
  · rintro ⟨low, high⟩
    exact ⟨(i - lo).toNat, by omega, by omega⟩

theorem indexRange_sorted (lo hi : Int) : (indexRange lo hi).Pairwise (· < ·) := by
  refine List.Pairwise.map _ (fun a b h => ?_) (List.pairwise_lt_range (n := (hi - lo + 1).toNat))
  omega

/-- A centre within a reach of a coordinate has its index in the range of that reach. -/
theorem index_in_reach {p i reach : Int} (h : (p - cellCentre i) ^ 2 ≤ reach ^ 2) (pos : 0 ≤ reach) :
    (p - reach) / 50000 ≤ i ∧ i ≤ (p + reach) / 50000 := by
  obtain ⟨low, high⟩ := abs_le.1 (abs_le_of_sq_le_sq h pos)
  unfold cellCentre at low high
  omega

/-- The order of R55 among cells: by row, and in a row by column. -/
def CellBefore (a b : Int × Int) : Prop := a.2 < b.2 ∨ a.2 = b.2 ∧ a.1 ≤ b.1

theorem mem_discCells {px py : Int} {r : Nat} {c : Int × Int} :
    c ∈ discCells px py r ↔ cellDist2 px py c ≤ (r * 1000) ^ 2 := by
  simp only [discCells, List.mem_flatMap, List.mem_filter, List.mem_map, mem_indexRange, inDisc_iff]
  refine ⟨?_, fun h => ?_⟩
  · rintro ⟨-, -, -, near⟩
    exact near
  · have square : (px - cellCentre c.1) ^ 2 + (py - cellCentre c.2) ^ 2 ≤ ((r * 1000 : Nat) : Int) ^ 2 := by
      have flat := Int.toNat_le.1 h
      push_cast at flat ⊢
      linarith [sq (px - cellCentre c.1), sq (py - cellCentre c.2)]
    have x := index_in_reach (p := px) (i := c.1) (by nlinarith [sq_nonneg (py - cellCentre c.2)]) (Int.natCast_nonneg (r * 1000))
    have y := index_in_reach (p := py) (i := c.2) (by nlinarith [sq_nonneg (px - cellCentre c.1)]) (Int.natCast_nonneg (r * 1000))
    exact ⟨c.2, y, ⟨c.1, x, rfl⟩, h⟩

theorem discCells_sorted (px py : Int) (r : Nat) : (discCells px py r).Pairwise CellBefore := by
  refine List.pairwise_flatMap.2 ⟨fun cy _ => ?_, ?_⟩
  · refine List.Pairwise.filter _ (List.Pairwise.map _ (fun a b h => ?_) (indexRange_sorted _ _))
    exact Or.inr ⟨rfl, le_of_lt h⟩
  · refine (indexRange_sorted _ _).imp fun {a b} h c hc d hd => ?_
    obtain ⟨i, -, rfl⟩ := List.mem_map.1 (List.mem_filter.1 hc).1
    obtain ⟨j, -, rfl⟩ := List.mem_map.1 (List.mem_filter.1 hd).1
    exact Or.inl h

/-! ### The nearest cell (R55) -/

section nearest
variable {p : Int × Int} {l : List (Int × Int)}

/-- A cell that is nearer to the point than another, or as near and before it. -/
def NearerCell (p a b : Int × Int) : Prop :=
  cellDist2 p.1 p.2 a < cellDist2 p.1 p.2 b ∨ cellDist2 p.1 p.2 a = cellDist2 p.1 p.2 b ∧ CellBefore a b

theorem nearestCell_isSome : (nearestCell p l).isSome = true ↔ ∃ c, c ∈ l := by
  cases l with
  | nil => simp [nearestCell]
  | cons c cs =>
    refine ⟨fun _ => ⟨c, List.mem_cons_self⟩, fun _ => ?_⟩
    unfold nearestCell
    split
    · rfl
    · split <;> rfl

theorem nearestCell_spec (sorted : l.Pairwise CellBefore) {d : Int × Int} (h : nearestCell p l = some d) :
    d ∈ l ∧ ∀ c ∈ l, NearerCell p d c := by
  induction l generalizing d with
  | nil => cases h
  | cons c cs ih =>
    obtain ⟨first, rest⟩ := List.pairwise_cons.1 sorted
    have self : NearerCell p c c := Or.inr ⟨rfl, Or.inr ⟨rfl, le_rfl⟩⟩
    unfold nearestCell at h
    split at h
    · next none' =>
      cases h
      have empty : ∀ a, a ∉ cs := by
        intro a ha
        have found := (nearestCell_isSome (p := p)).2 ⟨a, ha⟩
        rw [none'] at found
        cases found
      refine ⟨List.mem_cons_self, List.forall_mem_cons.2 ⟨self, fun a ha => absurd ha (empty a)⟩⟩
    · next e he =>
      obtain ⟨mem, best⟩ := ih rest he
      split at h
      · next lt =>
        cases h
        exact ⟨List.mem_cons_of_mem _ mem, List.forall_mem_cons.2 ⟨Or.inl lt, best⟩⟩
      · next ge =>
        cases h
        refine ⟨List.mem_cons_self, List.forall_mem_cons.2 ⟨self, fun a ha => ?_⟩⟩
        obtain lt | ⟨eq, -⟩ := best a ha
        · exact Or.inl (by omega)
        · obtain lt | same := Nat.lt_or_ge (cellDist2 p.1 p.2 c) (cellDist2 p.1 p.2 a)
          · exact Or.inl lt
          · exact Or.inr ⟨by omega, first a ha⟩

end nearest

/-! ### The blocking table (R53, R58) -/

theorem blockRadius_eq (column : Column) (unknown rug : Bool) (floor rh rc body conf : Nat) (cls : CellClass) :
    blockRadius column unknown rug floor rh rc body cls conf =
      if column = .rotate then (if cls = .cliff then some body else none)
      else if cls = .cliff then some rc
      else if cls = .keepOut ∨ cls = .obstacle ∧ floor ≤ conf ∨ column = .line ∧
        (cls = .dock ∨ cls = .unknown ∧ unknown = false ∨ cls = .rug ∧ rug = true) then some rh
      else none := by
  cases column <;> cases cls <;> cases unknown <;> cases rug <;> simp [blockRadius]

section sample
variable {req : CheckReq} {sp : Sampling} {fm : FloorMap} {p c : Int × Int}

theorem Check.blocksAt_iff : Check.blocksAt req sp fm p c = true ↔ sp.Blocks req fm p c := by
  unfold Check.blocksAt Sampling.Blocks
  split
  · next r hr => simp [hr, inDisc_iff]
  · next hr => simp [hr]

theorem Sampling.Blocks.in_outer (h : sp.Blocks req fm p c) (turn : req.column = .rotate → sp.body ≤ sp.outer)
    (move : req.column ≠ .rotate → sp.rh ≤ sp.outer ∧ sp.rc ≤ sp.outer ∧ sp.rm ≤ sp.outer) :
    cellDist2 p.1 p.2 c ≤ (sp.outer * 1000) ^ 2 := by
  obtain ⟨n, hn, near⟩ := h
  have reach : n ≤ sp.outer := by
    rw [blockRadius_eq] at hn
    by_cases rot : req.column = .rotate
    · rw [if_pos rot] at hn
      split at hn <;> cases hn
      exact turn rot
    · obtain ⟨rh, rc, -⟩ := move rot
      rw [if_neg rot] at hn
      split at hn
      · cases hn
        exact rc
      · split at hn <;> cases hn
        exact rh
  exact near.trans (Nat.pow_le_pow_left (Nat.mul_le_mul_right 1000 reach) 2)

/-- The cells that block at a sample under R53 or R58. -/
def Sampling.blockers (req : CheckReq) (sp : Sampling) (fm : FloorMap) (p : Int × Int) : List (Int × Int) :=
  (discCells p.1 p.2 sp.outer).filter (Check.blocksAt req sp fm p)

theorem Sampling.mem_blockers (turn : req.column = .rotate → sp.body ≤ sp.outer)
    (move : req.column ≠ .rotate → sp.rh ≤ sp.outer ∧ sp.rc ≤ sp.outer ∧ sp.rm ≤ sp.outer) :
    c ∈ sp.blockers req fm p ↔ sp.Blocks req fm p c := by
  rw [blockers, List.mem_filter, mem_discCells, Check.blocksAt_iff]
  exact ⟨fun h => h.2, fun h => ⟨h.in_outer turn move, h⟩⟩

theorem Sampling.mem_stillBlocking {l : List (Int × Int)} {i : Nat} : c ∈ sp.stillBlocking req.column i p l ↔
    (req.column = .rotate ∨ i ≠ 0) ∧ c ∈ l ∧
      (req.column = .rotate ∨ c ∉ sp.overlap ∨ cellDist2 p.1 p.2 c < cellDist2 sp.sx sp.sy c) := by
  unfold stillBlocking
  split
  · next rot => simp [rot]
  · next move =>
    split
    · next zero => simp [move, zero]
    · next later => simp [move, later]

theorem Sampling.stillBlocking_sorted {l : List (Int × Int)} (i : Nat) (h : l.Pairwise CellBefore) :
    (sp.stillBlocking req.column i p l).Pairwise CellBefore := by
  unfold stillBlocking
  split
  · exact h
  · split
    · exact List.Pairwise.nil
    · exact h.filter _

/-! ### The speed cap and unknown-seen (R56) -/

theorem any_near_iff (q : CellClass → Bool) {r outer : Nat} (le : r ≤ outer) :
    ((discCells p.1 p.2 outer).any fun c => q (fm.seen c).1 && inDisc p.1 p.2 r c) = true ↔
      ∃ k, q k = true ∧ fm.Near p r k := by
  simp only [List.any_eq_true, mem_discCells, Bool.and_eq_true, inDisc_iff, FloorMap.Near]
  constructor
  · rintro ⟨c, -, hq, near⟩
    exact ⟨_, hq, c, rfl, near⟩
  · rintro ⟨-, hq, c, rfl, near⟩
    exact ⟨c, near.trans (Nat.pow_le_pow_left (Nat.mul_le_mul_right 1000 le) 2), hq, near⟩

theorem near_iff (k : CellClass) {r outer : Nat} (le : r ≤ outer) :
    ((discCells p.1 p.2 outer).any fun c => decide ((fm.seen c).1 = k) && inDisc p.1 p.2 r c) = true ↔ fm.Near p r k := by
  rw [any_near_iff (fun j => decide (j = k)) le]
  simp

theorem le_lowered {b : Bool} {v cap x : Nat} :
    x ≤ (if b = true then min v cap else cap) ↔ (b = true → x ≤ v) ∧ x ≤ cap := by
  cases b <;> simp

theorem capAt_of_rotate (cells : List (Int × Int)) (rot : req.column = .rotate) : capAt req sp fm p cells = sp.cap :=
  if_pos rot

theorem le_capAt_iff (move : req.column ≠ .rotate) (rh : sp.rh ≤ sp.outer) (rm : sp.rm ≤ sp.outer) (v : Nat) :
    v ≤ capAt req sp fm p (discCells p.1 p.2 sp.outer) ↔ v ≤ sp.cap ∧ (fm.Near p sp.rh .rug → v ≤ sp.rugSpeed) ∧
      (fm.Near p sp.rh .unknown → v ≤ sp.unknownSpeed) ∧
      (fm.Near p sp.rm .obstacle ∨ fm.Near p sp.rm .keepOut → v ≤ sp.nearSpeed) ∧
      (fm.Near p sp.outer .cliff → v ≤ sp.cliffSpeed) := by
  have walls := any_near_iff (fm := fm) (p := p) (fun k => decide (k = .obstacle) || decide (k = .keepOut)) rm
  have either : (∃ k, (decide (k = CellClass.obstacle) || decide (k = CellClass.keepOut)) = true ∧ fm.Near p sp.rm k) ↔
      fm.Near p sp.rm .obstacle ∨ fm.Near p sp.rm .keepOut := by
    simp [or_and_right, exists_or]
  unfold capAt
  simp only [if_neg move, le_lowered, near_iff _ rh, near_iff _ (le_refl sp.outer), walls, either]
  tauto

theorem unknownAt_iff (move : req.column ≠ .rotate) (rh : sp.rh ≤ sp.outer) :
    unknownAt req sp fm p (discCells p.1 p.2 sp.outer) = true ↔ fm.Near p sp.rh .unknown := by
  rw [unknownAt, Bool.and_eq_true, near_iff _ rh]
  simp [move]

theorem unknownAt_of_rotate (cells : List (Int × Int)) (rot : req.column = .rotate) :
    unknownAt req sp fm p cells = false := by simp [unknownAt, rot]

end sample

theorem exec_checkSample {req : CheckReq} {sp : Sampling} {rest : List Check} {s : State}
    (checks : s.mo.cu.checks = { req := req, run := some sp } :: rest) (going : sp.finished = false) :
    exec .checkSample s = .next { s with mo := { s.mo with cu := { s.mo.cu with
      checks := { req := req, run := some (sp.examine req s.fm) } :: rest } } } := by
  change Host.Outcome.next { s with mo := sampleHeld s.fm s.mo } = _
  unfold sampleHeld
  rw [checks]
  dsimp only
  rw [if_neg (by simp [going])]

/-- Settles O39. -/
theorem checkSampleBlocksByTheTable : Obligations.CheckSampleBlocksByTheTable := by
  refine ⟨blockRadius_eq, fun req sp rest s p checks going hp turn move => ?_⟩
  have blocks (c : Int × Int) : c ∈ sp.blockers req s.fm p ↔ sp.Blocks req s.fm p c := Sampling.mem_blockers turn move
  obtain ⟨still, hstill⟩ : ∃ still, still = sp.stillBlocking req.column sp.next p (sp.blockers req s.fm p) := ⟨_, rfl⟩
  have found : (sp.examine req s.fm).blocked =
      (nearestCell p still).map fun c => (sp.next, { cx := c.1, cy := c.2, cls := (s.fm.seen c).1 }) := by
    rw [hstill, hp]
    rfl
  have overlap : (sp.examine req s.fm).overlap =
      if sp.next = 0 ∧ req.column ≠ .rotate then sp.blockers req s.fm p else sp.overlap := by
    rw [hp]
    rfl
  have cap : (sp.examine req s.fm).cap = capAt req sp s.fm p (discCells p.1 p.2 sp.outer) := by
    rw [hp]
    rfl
  have unknown : (sp.examine req s.fm).unknownSeen =
      (sp.unknownSeen || unknownAt req sp s.fm p (discCells p.1 p.2 sp.outer)) := by
    rw [hp]
    rfl
  have mem (c : Int × Int) : c ∈ still ↔ (req.column = .rotate ∨ sp.next ≠ 0) ∧ sp.Blocks req s.fm p c ∧
      (req.column = .rotate ∨ c ∉ sp.overlap ∨ cellDist2 p.1 p.2 c < cellDist2 sp.sx sp.sy c) := by
    rw [hstill, Sampling.mem_stillBlocking, blocks]
  have sorted : still.Pairwise CellBefore := by
    rw [hstill]
    exact Sampling.stillBlocking_sorted _ ((discCells_sorted _ _ _).filter _)
  refine ⟨sp.examine req s.fm, exec_checkSample checks going, rfl, ?_, fun b cell hb => ?_, fun h => ?_, fun zero col c => ?_,
    fun rot => ⟨?_, ?_⟩, fun col => ⟨fun v => ?_, ?_⟩⟩
  · rw [found, Option.isSome_map, nearestCell_isSome]
    simp only [mem, exists_and_left]
  · rw [found, Option.map_eq_some_iff] at hb
    obtain ⟨d, hd, pair⟩ := hb
    cases pair
    obtain ⟨inside, nearest⟩ := nearestCell_spec sorted hd
    obtain ⟨past, blocked, -⟩ := (mem d).1 inside
    exact ⟨rfl, rfl, blocked, fun c hc fresh => nearest c ((mem c).2 ⟨past, hc, fresh⟩)⟩
  · rw [overlap, if_neg (by tauto)]
  · rw [overlap, if_pos ⟨zero, col⟩, blocks]
  · rw [cap, capAt_of_rotate _ rot]
  · rw [unknown, unknownAt_of_rotate _ rot, Bool.or_false]
  · obtain ⟨rh, -, rm⟩ := move col
    rw [cap]
    exact le_capAt_iff col rh rm v
  · rw [unknown, Bool.or_eq_true, unknownAt_iff col (move col).1]

end Sys2Proof.Machine
end
